-- ==== Sys2Proof/Word.lean ====
section
/-! DEFINITION. The word, byte and register-number types (spec/00_scope.md R8: 32-bit words, 8-bit bytes,
5-bit register numbers). -/

namespace Sys2Proof

/-- A 32-bit word: an r register, an f register, an address (R8). -/
abbrev Word := BitVec 32

/-- An 8-bit byte (R8). -/
abbrev Byte := BitVec 8

/-- A 5-bit register number, the rd, rs1 and rs2 fields (R264). -/
abbrev RegNum := BitVec 5

end Sys2Proof
end

