-- ==== Sys2Proof/Syntax.lean ====
section
/-! DEFINITION. The instructions of SPARC V8: one constructor for each row of spec/opcode_table.json, in its order
(spec/30_encoding.md R284). A constructor holds the fields the instruction uses; the fields R269 calls unused,
reserved or ignored are not kept. -/

namespace Sys2Proof

/-- The second operand of arithmetic and of an address (R268): r[rs2], or simm13 sign-extended. -/
inductive Operand2 where
  | reg (rs2 : RegNum)
  | imm (simm13 : BitVec 13)
  deriving DecidableEq, Repr

/-- The address of an alternate-space instruction (R321): r[rs1] + r[rs2] with its asi; the form with i = 1 exists as an
encoding only, and traps (R322). -/
inductive AltAddr where
  | reg (asi : BitVec 8) (rs2 : RegNum)
  | imm (simm13 : BitVec 13)
  deriving DecidableEq, Repr

/-- The count of a shift (R404): r[rs2] or shcnt. -/
inductive ShiftCount where
  | reg (rs2 : RegNum)
  | imm (shcnt : BitVec 5)
  deriving DecidableEq, Repr

/-- The operand of Ticc (R490): r[rs2] or the 7-bit software_trap#. -/
inductive TrapOperand where
  | reg (rs2 : RegNum)
  | imm (imm7 : BitVec 7)
  deriving DecidableEq, Repr

/-- The instructions (R284). -/
inductive Instr where
  | ldsb (rd rs1 : RegNum) (op2 : Operand2)
  | ldsh (rd rs1 : RegNum) (op2 : Operand2)
  | ldub (rd rs1 : RegNum) (op2 : Operand2)
  | lduh (rd rs1 : RegNum) (op2 : Operand2)
  | ld (rd rs1 : RegNum) (op2 : Operand2)
  | ldd (rd rs1 : RegNum) (op2 : Operand2)
  | ldsba (rd rs1 : RegNum) (alt : AltAddr)
  | ldsha (rd rs1 : RegNum) (alt : AltAddr)
  | lduba (rd rs1 : RegNum) (alt : AltAddr)
  | lduha (rd rs1 : RegNum) (alt : AltAddr)
  | lda (rd rs1 : RegNum) (alt : AltAddr)
  | ldda (rd rs1 : RegNum) (alt : AltAddr)
  | ldf (rd rs1 : RegNum) (op2 : Operand2)
  | lddf (rd rs1 : RegNum) (op2 : Operand2)
  | ldfsr (rs1 : RegNum) (op2 : Operand2)
  | ldc (rd rs1 : RegNum) (op2 : Operand2)
  | lddc (rd rs1 : RegNum) (op2 : Operand2)
  | ldcsr (rs1 : RegNum) (op2 : Operand2)
  | stb (rd rs1 : RegNum) (op2 : Operand2)
  | sth (rd rs1 : RegNum) (op2 : Operand2)
  | st (rd rs1 : RegNum) (op2 : Operand2)
  | std (rd rs1 : RegNum) (op2 : Operand2)
  | stba (rd rs1 : RegNum) (alt : AltAddr)
  | stha (rd rs1 : RegNum) (alt : AltAddr)
  | sta (rd rs1 : RegNum) (alt : AltAddr)
  | stda (rd rs1 : RegNum) (alt : AltAddr)
  | stf (rd rs1 : RegNum) (op2 : Operand2)
  | stdf (rd rs1 : RegNum) (op2 : Operand2)
  | stfsr (rs1 : RegNum) (op2 : Operand2)
  | stdfq (rs1 : RegNum) (op2 : Operand2)
  | stc (rd rs1 : RegNum) (op2 : Operand2)
  | stdc (rd rs1 : RegNum) (op2 : Operand2)
  | stcsr (rs1 : RegNum) (op2 : Operand2)
  | stdcq (rs1 : RegNum) (op2 : Operand2)
  | ldstub (rd rs1 : RegNum) (op2 : Operand2)
  | ldstuba (rd rs1 : RegNum) (alt : AltAddr)
  | swap (rd rs1 : RegNum) (op2 : Operand2)
  | swapa (rd rs1 : RegNum) (alt : AltAddr)
  | sethi (rd : RegNum) (imm22 : BitVec 22)
  | nop
  | unimp (const22 : BitVec 22)
  | and (rd rs1 : RegNum) (op2 : Operand2)
  | andcc (rd rs1 : RegNum) (op2 : Operand2)
  | andn (rd rs1 : RegNum) (op2 : Operand2)
  | andncc (rd rs1 : RegNum) (op2 : Operand2)
  | or (rd rs1 : RegNum) (op2 : Operand2)
  | orcc (rd rs1 : RegNum) (op2 : Operand2)
  | orn (rd rs1 : RegNum) (op2 : Operand2)
  | orncc (rd rs1 : RegNum) (op2 : Operand2)
  | xor (rd rs1 : RegNum) (op2 : Operand2)
  | xorcc (rd rs1 : RegNum) (op2 : Operand2)
  | xnor (rd rs1 : RegNum) (op2 : Operand2)
  | xnorcc (rd rs1 : RegNum) (op2 : Operand2)
  | sll (rd rs1 : RegNum) (cnt : ShiftCount)
  | srl (rd rs1 : RegNum) (cnt : ShiftCount)
  | sra (rd rs1 : RegNum) (cnt : ShiftCount)
  | add (rd rs1 : RegNum) (op2 : Operand2)
  | addcc (rd rs1 : RegNum) (op2 : Operand2)
  | addx (rd rs1 : RegNum) (op2 : Operand2)
  | addxcc (rd rs1 : RegNum) (op2 : Operand2)
  | taddcc (rd rs1 : RegNum) (op2 : Operand2)
  | taddcctv (rd rs1 : RegNum) (op2 : Operand2)
  | sub (rd rs1 : RegNum) (op2 : Operand2)
  | subcc (rd rs1 : RegNum) (op2 : Operand2)
  | subx (rd rs1 : RegNum) (op2 : Operand2)
  | subxcc (rd rs1 : RegNum) (op2 : Operand2)
  | tsubcc (rd rs1 : RegNum) (op2 : Operand2)
  | tsubcctv (rd rs1 : RegNum) (op2 : Operand2)
  | mulscc (rd rs1 : RegNum) (op2 : Operand2)
  | umul (rd rs1 : RegNum) (op2 : Operand2)
  | smul (rd rs1 : RegNum) (op2 : Operand2)
  | umulcc (rd rs1 : RegNum) (op2 : Operand2)
  | smulcc (rd rs1 : RegNum) (op2 : Operand2)
  | udiv (rd rs1 : RegNum) (op2 : Operand2)
  | sdiv (rd rs1 : RegNum) (op2 : Operand2)
  | udivcc (rd rs1 : RegNum) (op2 : Operand2)
  | sdivcc (rd rs1 : RegNum) (op2 : Operand2)
  | save (rd rs1 : RegNum) (op2 : Operand2)
  | restore (rd rs1 : RegNum) (op2 : Operand2)
  | bn (a : Bool) (disp22 : BitVec 22)
  | be (a : Bool) (disp22 : BitVec 22)
  | ble (a : Bool) (disp22 : BitVec 22)
  | bl (a : Bool) (disp22 : BitVec 22)
  | bleu (a : Bool) (disp22 : BitVec 22)
  | bcs (a : Bool) (disp22 : BitVec 22)
  | bneg (a : Bool) (disp22 : BitVec 22)
  | bvs (a : Bool) (disp22 : BitVec 22)
  | ba (a : Bool) (disp22 : BitVec 22)
  | bne (a : Bool) (disp22 : BitVec 22)
  | bg (a : Bool) (disp22 : BitVec 22)
  | bge (a : Bool) (disp22 : BitVec 22)
  | bgu (a : Bool) (disp22 : BitVec 22)
  | bcc (a : Bool) (disp22 : BitVec 22)
  | bpos (a : Bool) (disp22 : BitVec 22)
  | bvc (a : Bool) (disp22 : BitVec 22)
  | fbn (a : Bool) (disp22 : BitVec 22)
  | fbne (a : Bool) (disp22 : BitVec 22)
  | fblg (a : Bool) (disp22 : BitVec 22)
  | fbul (a : Bool) (disp22 : BitVec 22)
  | fbl (a : Bool) (disp22 : BitVec 22)
  | fbug (a : Bool) (disp22 : BitVec 22)
  | fbg (a : Bool) (disp22 : BitVec 22)
  | fbu (a : Bool) (disp22 : BitVec 22)
  | fba (a : Bool) (disp22 : BitVec 22)
  | fbe (a : Bool) (disp22 : BitVec 22)
  | fbue (a : Bool) (disp22 : BitVec 22)
  | fbge (a : Bool) (disp22 : BitVec 22)
  | fbuge (a : Bool) (disp22 : BitVec 22)
  | fble (a : Bool) (disp22 : BitVec 22)
  | fbule (a : Bool) (disp22 : BitVec 22)
  | fbo (a : Bool) (disp22 : BitVec 22)
  | cbn (a : Bool) (disp22 : BitVec 22)
  | cb123 (a : Bool) (disp22 : BitVec 22)
  | cb12 (a : Bool) (disp22 : BitVec 22)
  | cb13 (a : Bool) (disp22 : BitVec 22)
  | cb1 (a : Bool) (disp22 : BitVec 22)
  | cb23 (a : Bool) (disp22 : BitVec 22)
  | cb2 (a : Bool) (disp22 : BitVec 22)
  | cb3 (a : Bool) (disp22 : BitVec 22)
  | cba (a : Bool) (disp22 : BitVec 22)
  | cb0 (a : Bool) (disp22 : BitVec 22)
  | cb03 (a : Bool) (disp22 : BitVec 22)
  | cb02 (a : Bool) (disp22 : BitVec 22)
  | cb023 (a : Bool) (disp22 : BitVec 22)
  | cb01 (a : Bool) (disp22 : BitVec 22)
  | cb013 (a : Bool) (disp22 : BitVec 22)
  | cb012 (a : Bool) (disp22 : BitVec 22)
  | call (disp30 : BitVec 30)
  | jmpl (rd rs1 : RegNum) (op2 : Operand2)
  | rett (rs1 : RegNum) (op2 : Operand2)
  | tn (rs1 : RegNum) (opn : TrapOperand)
  | te (rs1 : RegNum) (opn : TrapOperand)
  | tle (rs1 : RegNum) (opn : TrapOperand)
  | tl (rs1 : RegNum) (opn : TrapOperand)
  | tleu (rs1 : RegNum) (opn : TrapOperand)
  | tcs (rs1 : RegNum) (opn : TrapOperand)
  | tneg (rs1 : RegNum) (opn : TrapOperand)
  | tvs (rs1 : RegNum) (opn : TrapOperand)
  | ta (rs1 : RegNum) (opn : TrapOperand)
  | tne (rs1 : RegNum) (opn : TrapOperand)
  | tg (rs1 : RegNum) (opn : TrapOperand)
  | tge (rs1 : RegNum) (opn : TrapOperand)
  | tgu (rs1 : RegNum) (opn : TrapOperand)
  | tcc (rs1 : RegNum) (opn : TrapOperand)
  | tpos (rs1 : RegNum) (opn : TrapOperand)
  | tvc (rs1 : RegNum) (opn : TrapOperand)
  | stbar
  | rdy (rd : RegNum)
  | rdasr (rd rs1 : RegNum)
  | rdpsr (rd : RegNum)
  | rdwim (rd : RegNum)
  | rdtbr (rd : RegNum)
  | wry (rs1 : RegNum) (op2 : Operand2)
  | wrasr (rd rs1 : RegNum) (op2 : Operand2)
  | wrpsr (rs1 : RegNum) (op2 : Operand2)
  | wrwim (rs1 : RegNum) (op2 : Operand2)
  | wrtbr (rs1 : RegNum) (op2 : Operand2)
  | flush (rs1 : RegNum) (op2 : Operand2)
  | fitos (rd rs2 : RegNum)
  | fitod (rd rs2 : RegNum)
  | fitoq (rd rs2 : RegNum)
  | fstoi (rd rs2 : RegNum)
  | fdtoi (rd rs2 : RegNum)
  | fqtoi (rd rs2 : RegNum)
  | fstod (rd rs2 : RegNum)
  | fstoq (rd rs2 : RegNum)
  | fdtos (rd rs2 : RegNum)
  | fdtoq (rd rs2 : RegNum)
  | fqtos (rd rs2 : RegNum)
  | fqtod (rd rs2 : RegNum)
  | fmovs (rd rs2 : RegNum)
  | fnegs (rd rs2 : RegNum)
  | fabss (rd rs2 : RegNum)
  | fsqrts (rd rs2 : RegNum)
  | fsqrtd (rd rs2 : RegNum)
  | fsqrtq (rd rs2 : RegNum)
  | fadds (rd rs1 rs2 : RegNum)
  | faddd (rd rs1 rs2 : RegNum)
  | faddq (rd rs1 rs2 : RegNum)
  | fsubs (rd rs1 rs2 : RegNum)
  | fsubd (rd rs1 rs2 : RegNum)
  | fsubq (rd rs1 rs2 : RegNum)
  | fmuls (rd rs1 rs2 : RegNum)
  | fmuld (rd rs1 rs2 : RegNum)
  | fmulq (rd rs1 rs2 : RegNum)
  | fsmuld (rd rs1 rs2 : RegNum)
  | fdmulq (rd rs1 rs2 : RegNum)
  | fdivs (rd rs1 rs2 : RegNum)
  | fdivd (rd rs1 rs2 : RegNum)
  | fdivq (rd rs1 rs2 : RegNum)
  | fcmps (rs1 rs2 : RegNum)
  | fcmpd (rs1 rs2 : RegNum)
  | fcmpq (rs1 rs2 : RegNum)
  | fcmpes (rs1 rs2 : RegNum)
  | fcmped (rs1 rs2 : RegNum)
  | fcmpeq (rs1 rs2 : RegNum)
  | fpop1Unassigned (rd rs1 : RegNum) (opf : BitVec 9) (rs2 : RegNum)
  | fpop2Unassigned (rd rs1 : RegNum) (opf : BitVec 9) (rs2 : RegNum)
  | cpop1 (rd rs1 : RegNum) (opc : BitVec 9) (rs2 : RegNum)
  | cpop2 (rd rs1 : RegNum) (opc : BitVec 9) (rs2 : RegNum)
  deriving DecidableEq, Repr

/-- The mnemonic of spec/opcode_table.json. -/
def Instr.mnemonic : Instr → String
  | .ldsb _ _ _ => "LDSB"
  | .ldsh _ _ _ => "LDSH"
  | .ldub _ _ _ => "LDUB"
  | .lduh _ _ _ => "LDUH"
  | .ld _ _ _ => "LD"
  | .ldd _ _ _ => "LDD"
  | .ldsba _ _ _ => "LDSBA"
  | .ldsha _ _ _ => "LDSHA"
  | .lduba _ _ _ => "LDUBA"
  | .lduha _ _ _ => "LDUHA"
  | .lda _ _ _ => "LDA"
  | .ldda _ _ _ => "LDDA"
  | .ldf _ _ _ => "LDF"
  | .lddf _ _ _ => "LDDF"
  | .ldfsr _ _ => "LDFSR"
  | .ldc _ _ _ => "LDC"
  | .lddc _ _ _ => "LDDC"
  | .ldcsr _ _ => "LDCSR"
  | .stb _ _ _ => "STB"
  | .sth _ _ _ => "STH"
  | .st _ _ _ => "ST"
  | .std _ _ _ => "STD"
  | .stba _ _ _ => "STBA"
  | .stha _ _ _ => "STHA"
  | .sta _ _ _ => "STA"
  | .stda _ _ _ => "STDA"
  | .stf _ _ _ => "STF"
  | .stdf _ _ _ => "STDF"
  | .stfsr _ _ => "STFSR"
  | .stdfq _ _ => "STDFQ"
  | .stc _ _ _ => "STC"
  | .stdc _ _ _ => "STDC"
  | .stcsr _ _ => "STCSR"
  | .stdcq _ _ => "STDCQ"
  | .ldstub _ _ _ => "LDSTUB"
  | .ldstuba _ _ _ => "LDSTUBA"
  | .swap _ _ _ => "SWAP"
  | .swapa _ _ _ => "SWAPA"
  | .sethi _ _ => "SETHI"
  | .nop => "NOP"
  | .unimp _ => "UNIMP"
  | .and _ _ _ => "AND"
  | .andcc _ _ _ => "ANDcc"
  | .andn _ _ _ => "ANDN"
  | .andncc _ _ _ => "ANDNcc"
  | .or _ _ _ => "OR"
  | .orcc _ _ _ => "ORcc"
  | .orn _ _ _ => "ORN"
  | .orncc _ _ _ => "ORNcc"
  | .xor _ _ _ => "XOR"
  | .xorcc _ _ _ => "XORcc"
  | .xnor _ _ _ => "XNOR"
  | .xnorcc _ _ _ => "XNORcc"
  | .sll _ _ _ => "SLL"
  | .srl _ _ _ => "SRL"
  | .sra _ _ _ => "SRA"
  | .add _ _ _ => "ADD"
  | .addcc _ _ _ => "ADDcc"
  | .addx _ _ _ => "ADDX"
  | .addxcc _ _ _ => "ADDXcc"
  | .taddcc _ _ _ => "TADDcc"
  | .taddcctv _ _ _ => "TADDccTV"
  | .sub _ _ _ => "SUB"
  | .subcc _ _ _ => "SUBcc"
  | .subx _ _ _ => "SUBX"
  | .subxcc _ _ _ => "SUBXcc"
  | .tsubcc _ _ _ => "TSUBcc"
  | .tsubcctv _ _ _ => "TSUBccTV"
  | .mulscc _ _ _ => "MULScc"
  | .umul _ _ _ => "UMUL"
  | .smul _ _ _ => "SMUL"
  | .umulcc _ _ _ => "UMULcc"
  | .smulcc _ _ _ => "SMULcc"
  | .udiv _ _ _ => "UDIV"
  | .sdiv _ _ _ => "SDIV"
  | .udivcc _ _ _ => "UDIVcc"
  | .sdivcc _ _ _ => "SDIVcc"
  | .save _ _ _ => "SAVE"
  | .restore _ _ _ => "RESTORE"
  | .bn _ _ => "BN"
  | .be _ _ => "BE"
  | .ble _ _ => "BLE"
  | .bl _ _ => "BL"
  | .bleu _ _ => "BLEU"
  | .bcs _ _ => "BCS"
  | .bneg _ _ => "BNEG"
  | .bvs _ _ => "BVS"
  | .ba _ _ => "BA"
  | .bne _ _ => "BNE"
  | .bg _ _ => "BG"
  | .bge _ _ => "BGE"
  | .bgu _ _ => "BGU"
  | .bcc _ _ => "BCC"
  | .bpos _ _ => "BPOS"
  | .bvc _ _ => "BVC"
  | .fbn _ _ => "FBN"
  | .fbne _ _ => "FBNE"
  | .fblg _ _ => "FBLG"
  | .fbul _ _ => "FBUL"
  | .fbl _ _ => "FBL"
  | .fbug _ _ => "FBUG"
  | .fbg _ _ => "FBG"
  | .fbu _ _ => "FBU"
  | .fba _ _ => "FBA"
  | .fbe _ _ => "FBE"
  | .fbue _ _ => "FBUE"
  | .fbge _ _ => "FBGE"
  | .fbuge _ _ => "FBUGE"
  | .fble _ _ => "FBLE"
  | .fbule _ _ => "FBULE"
  | .fbo _ _ => "FBO"
  | .cbn _ _ => "CBN"
  | .cb123 _ _ => "CB123"
  | .cb12 _ _ => "CB12"
  | .cb13 _ _ => "CB13"
  | .cb1 _ _ => "CB1"
  | .cb23 _ _ => "CB23"
  | .cb2 _ _ => "CB2"
  | .cb3 _ _ => "CB3"
  | .cba _ _ => "CBA"
  | .cb0 _ _ => "CB0"
  | .cb03 _ _ => "CB03"
  | .cb02 _ _ => "CB02"
  | .cb023 _ _ => "CB023"
  | .cb01 _ _ => "CB01"
  | .cb013 _ _ => "CB013"
  | .cb012 _ _ => "CB012"
  | .call _ => "CALL"
  | .jmpl _ _ _ => "JMPL"
  | .rett _ _ => "RETT"
  | .tn _ _ => "TN"
  | .te _ _ => "TE"
  | .tle _ _ => "TLE"
  | .tl _ _ => "TL"
  | .tleu _ _ => "TLEU"
  | .tcs _ _ => "TCS"
  | .tneg _ _ => "TNEG"
  | .tvs _ _ => "TVS"
  | .ta _ _ => "TA"
  | .tne _ _ => "TNE"
  | .tg _ _ => "TG"
  | .tge _ _ => "TGE"
  | .tgu _ _ => "TGU"
  | .tcc _ _ => "TCC"
  | .tpos _ _ => "TPOS"
  | .tvc _ _ => "TVC"
  | .stbar => "STBAR"
  | .rdy _ => "RDY"
  | .rdasr _ _ => "RDASR"
  | .rdpsr _ => "RDPSR"
  | .rdwim _ => "RDWIM"
  | .rdtbr _ => "RDTBR"
  | .wry _ _ => "WRY"
  | .wrasr _ _ _ => "WRASR"
  | .wrpsr _ _ => "WRPSR"
  | .wrwim _ _ => "WRWIM"
  | .wrtbr _ _ => "WRTBR"
  | .flush _ _ => "FLUSH"
  | .fitos _ _ => "FiTOs"
  | .fitod _ _ => "FiTOd"
  | .fitoq _ _ => "FiTOq"
  | .fstoi _ _ => "FsTOi"
  | .fdtoi _ _ => "FdTOi"
  | .fqtoi _ _ => "FqTOi"
  | .fstod _ _ => "FsTOd"
  | .fstoq _ _ => "FsTOq"
  | .fdtos _ _ => "FdTOs"
  | .fdtoq _ _ => "FdTOq"
  | .fqtos _ _ => "FqTOs"
  | .fqtod _ _ => "FqTOd"
  | .fmovs _ _ => "FMOVs"
  | .fnegs _ _ => "FNEGs"
  | .fabss _ _ => "FABSs"
  | .fsqrts _ _ => "FSQRTs"
  | .fsqrtd _ _ => "FSQRTd"
  | .fsqrtq _ _ => "FSQRTq"
  | .fadds _ _ _ => "FADDs"
  | .faddd _ _ _ => "FADDd"
  | .faddq _ _ _ => "FADDq"
  | .fsubs _ _ _ => "FSUBs"
  | .fsubd _ _ _ => "FSUBd"
  | .fsubq _ _ _ => "FSUBq"
  | .fmuls _ _ _ => "FMULs"
  | .fmuld _ _ _ => "FMULd"
  | .fmulq _ _ _ => "FMULq"
  | .fsmuld _ _ _ => "FsMULd"
  | .fdmulq _ _ _ => "FdMULq"
  | .fdivs _ _ _ => "FDIVs"
  | .fdivd _ _ _ => "FDIVd"
  | .fdivq _ _ _ => "FDIVq"
  | .fcmps _ _ => "FCMPs"
  | .fcmpd _ _ => "FCMPd"
  | .fcmpq _ _ => "FCMPq"
  | .fcmpes _ _ => "FCMPEs"
  | .fcmped _ _ => "FCMPEd"
  | .fcmpeq _ _ => "FCMPEq"
  | .fpop1Unassigned _ _ _ _ => "FPop1__unassigned_opf"
  | .fpop2Unassigned _ _ _ _ => "FPop2__unassigned_opf"
  | .cpop1 _ _ _ _ => "CPop1"
  | .cpop2 _ _ _ _ => "CPop2"

end Sys2Proof
end

