-- ==== Sys2Proof/WellFormed.lean ====
section
/-! DEFINITION. Which terms of `Instr` an encoding stands for. The terms excluded are those whose words belong to another
row of the opcode table (spec/30_encoding.md R282, R284: the special cases tested first). -/

namespace Sys2Proof

/-- The opf values FPop1 assigns (R272). -/
def assignedOpf1 : List (BitVec 9) :=
  [0x0C4#9, 0x0C8#9, 0x0CC#9, 0x0D1#9, 0x0D2#9, 0x0D3#9, 0x0C9#9, 0x0CD#9,
   0x0C6#9, 0x0CE#9, 0x0C7#9, 0x0CB#9, 0x001#9, 0x005#9, 0x009#9, 0x029#9,
   0x02A#9, 0x02B#9, 0x041#9, 0x042#9, 0x043#9, 0x045#9, 0x046#9, 0x047#9,
   0x049#9, 0x04A#9, 0x04B#9, 0x069#9, 0x06E#9, 0x04D#9, 0x04E#9, 0x04F#9]

/-- The opf values FPop2 assigns (R273). -/
def assignedOpf2 : List (BitVec 9) :=
  [0x051#9, 0x052#9, 0x053#9, 0x055#9, 0x056#9, 0x057#9]

/-- `i` is the reading of some word: SETHI 0, %g0 is NOP (R409); RDASR with rs1 = 0 is RDY, and with rs1 = 15, rd = 0 STBAR
(R512); WRASR with rd = 0 is WRY (R518); an assigned opf has its own row (R281). -/
def Instr.wellFormed : Instr → Bool
  | .sethi rd imm22 => !(rd == 0#5 && imm22 == 0#22)
  | .rdasr rd rs1 => rs1 != 0#5 && !(rs1 == 15#5 && rd == 0#5)
  | .wrasr rd _ _ => rd != 0#5
  | .fpop1Unassigned _ _ opf _ => !assignedOpf1.contains opf
  | .fpop2Unassigned _ _ opf _ => !assignedOpf2.contains opf
  | .ldsb _ _ _ => true
  | .ldsh _ _ _ => true
  | .ldub _ _ _ => true
  | .lduh _ _ _ => true
  | .ld _ _ _ => true
  | .ldd _ _ _ => true
  | .ldsba _ _ _ => true
  | .ldsha _ _ _ => true
  | .lduba _ _ _ => true
  | .lduha _ _ _ => true
  | .lda _ _ _ => true
  | .ldda _ _ _ => true
  | .ldf _ _ _ => true
  | .lddf _ _ _ => true
  | .ldfsr _ _ => true
  | .ldc _ _ _ => true
  | .lddc _ _ _ => true
  | .ldcsr _ _ => true
  | .stb _ _ _ => true
  | .sth _ _ _ => true
  | .st _ _ _ => true
  | .std _ _ _ => true
  | .stba _ _ _ => true
  | .stha _ _ _ => true
  | .sta _ _ _ => true
  | .stda _ _ _ => true
  | .stf _ _ _ => true
  | .stdf _ _ _ => true
  | .stfsr _ _ => true
  | .stdfq _ _ => true
  | .stc _ _ _ => true
  | .stdc _ _ _ => true
  | .stcsr _ _ => true
  | .stdcq _ _ => true
  | .ldstub _ _ _ => true
  | .ldstuba _ _ _ => true
  | .swap _ _ _ => true
  | .swapa _ _ _ => true
  | .nop => true
  | .unimp _ => true
  | .and _ _ _ => true
  | .andcc _ _ _ => true
  | .andn _ _ _ => true
  | .andncc _ _ _ => true
  | .or _ _ _ => true
  | .orcc _ _ _ => true
  | .orn _ _ _ => true
  | .orncc _ _ _ => true
  | .xor _ _ _ => true
  | .xorcc _ _ _ => true
  | .xnor _ _ _ => true
  | .xnorcc _ _ _ => true
  | .sll _ _ _ => true
  | .srl _ _ _ => true
  | .sra _ _ _ => true
  | .add _ _ _ => true
  | .addcc _ _ _ => true
  | .addx _ _ _ => true
  | .addxcc _ _ _ => true
  | .taddcc _ _ _ => true
  | .taddcctv _ _ _ => true
  | .sub _ _ _ => true
  | .subcc _ _ _ => true
  | .subx _ _ _ => true
  | .subxcc _ _ _ => true
  | .tsubcc _ _ _ => true
  | .tsubcctv _ _ _ => true
  | .mulscc _ _ _ => true
  | .umul _ _ _ => true
  | .smul _ _ _ => true
  | .umulcc _ _ _ => true
  | .smulcc _ _ _ => true
  | .udiv _ _ _ => true
  | .sdiv _ _ _ => true
  | .udivcc _ _ _ => true
  | .sdivcc _ _ _ => true
  | .save _ _ _ => true
  | .restore _ _ _ => true
  | .bn _ _ => true
  | .be _ _ => true
  | .ble _ _ => true
  | .bl _ _ => true
  | .bleu _ _ => true
  | .bcs _ _ => true
  | .bneg _ _ => true
  | .bvs _ _ => true
  | .ba _ _ => true
  | .bne _ _ => true
  | .bg _ _ => true
  | .bge _ _ => true
  | .bgu _ _ => true
  | .bcc _ _ => true
  | .bpos _ _ => true
  | .bvc _ _ => true
  | .fbn _ _ => true
  | .fbne _ _ => true
  | .fblg _ _ => true
  | .fbul _ _ => true
  | .fbl _ _ => true
  | .fbug _ _ => true
  | .fbg _ _ => true
  | .fbu _ _ => true
  | .fba _ _ => true
  | .fbe _ _ => true
  | .fbue _ _ => true
  | .fbge _ _ => true
  | .fbuge _ _ => true
  | .fble _ _ => true
  | .fbule _ _ => true
  | .fbo _ _ => true
  | .cbn _ _ => true
  | .cb123 _ _ => true
  | .cb12 _ _ => true
  | .cb13 _ _ => true
  | .cb1 _ _ => true
  | .cb23 _ _ => true
  | .cb2 _ _ => true
  | .cb3 _ _ => true
  | .cba _ _ => true
  | .cb0 _ _ => true
  | .cb03 _ _ => true
  | .cb02 _ _ => true
  | .cb023 _ _ => true
  | .cb01 _ _ => true
  | .cb013 _ _ => true
  | .cb012 _ _ => true
  | .call _ => true
  | .jmpl _ _ _ => true
  | .rett _ _ => true
  | .tn _ _ => true
  | .te _ _ => true
  | .tle _ _ => true
  | .tl _ _ => true
  | .tleu _ _ => true
  | .tcs _ _ => true
  | .tneg _ _ => true
  | .tvs _ _ => true
  | .ta _ _ => true
  | .tne _ _ => true
  | .tg _ _ => true
  | .tge _ _ => true
  | .tgu _ _ => true
  | .tcc _ _ => true
  | .tpos _ _ => true
  | .tvc _ _ => true
  | .stbar => true
  | .rdy _ => true
  | .rdpsr _ => true
  | .rdwim _ => true
  | .rdtbr _ => true
  | .wry _ _ => true
  | .wrpsr _ _ => true
  | .wrwim _ _ => true
  | .wrtbr _ _ => true
  | .flush _ _ => true
  | .fitos _ _ => true
  | .fitod _ _ => true
  | .fitoq _ _ => true
  | .fstoi _ _ => true
  | .fdtoi _ _ => true
  | .fqtoi _ _ => true
  | .fstod _ _ => true
  | .fstoq _ _ => true
  | .fdtos _ _ => true
  | .fdtoq _ _ => true
  | .fqtos _ _ => true
  | .fqtod _ _ => true
  | .fmovs _ _ => true
  | .fnegs _ _ => true
  | .fabss _ _ => true
  | .fsqrts _ _ => true
  | .fsqrtd _ _ => true
  | .fsqrtq _ _ => true
  | .fadds _ _ _ => true
  | .faddd _ _ _ => true
  | .faddq _ _ _ => true
  | .fsubs _ _ _ => true
  | .fsubd _ _ _ => true
  | .fsubq _ _ _ => true
  | .fmuls _ _ _ => true
  | .fmuld _ _ _ => true
  | .fmulq _ _ _ => true
  | .fsmuld _ _ _ => true
  | .fdmulq _ _ _ => true
  | .fdivs _ _ _ => true
  | .fdivd _ _ _ => true
  | .fdivq _ _ _ => true
  | .fcmps _ _ => true
  | .fcmpd _ _ => true
  | .fcmpq _ _ => true
  | .fcmpes _ _ => true
  | .fcmped _ _ => true
  | .fcmpeq _ _ => true
  | .cpop1 _ _ _ _ => true
  | .cpop2 _ _ _ _ => true

end Sys2Proof
end

