-- ==== Sys2Proof/Decode.lean ====
section
/-! DEFINITION. Decoding and encoding (spec/30_encoding.md R260 to R284). `decode` is total: it answers an instruction, or
the reason no row of the opcode table has the word. `encode` is written from the same tables, with zero in every field R269
calls unused. -/

namespace Sys2Proof

/-- Why a word is no instruction (R280): illegal_instruction is what executing it raises. -/
inductive DecodeError where
  /-- op = 0 with op2 = 1, 3 or 5 (R267). -/
  | unassignedOp2
  /-- op = 2 or op = 3 with an op3 that R270 and R271 leave blank. -/
  | unassignedOp3
  /-- Fewer than the four bytes of an instruction (R260). -/
  | truncated
  deriving DecidableEq, Repr

/-! The fields of a word (R264). -/

/-- op, bits 31:30. -/
def fieldOp (w : Word) : BitVec 2 := w.extractLsb' 30 2

/-- op2, bits 24:22. -/
def fieldOp2 (w : Word) : BitVec 3 := w.extractLsb' 22 3

/-- op3, bits 24:19. -/
def fieldOp3 (w : Word) : BitVec 6 := w.extractLsb' 19 6

/-- opf or opc, bits 13:5. -/
def fieldOpf (w : Word) : BitVec 9 := w.extractLsb' 5 9

/-- rd, bits 29:25. -/
def fieldRd (w : Word) : BitVec 5 := w.extractLsb' 25 5

/-- cond, bits 28:25. -/
def fieldCond (w : Word) : BitVec 4 := w.extractLsb' 25 4

/-- rs1, bits 18:14. -/
def fieldRs1 (w : Word) : BitVec 5 := w.extractLsb' 14 5

/-- rs2, bits 4:0. -/
def fieldRs2 (w : Word) : BitVec 5 := w.extractLsb' 0 5

/-- asi, bits 12:5. -/
def fieldAsi (w : Word) : BitVec 8 := w.extractLsb' 5 8

/-- simm13, bits 12:0. -/
def fieldSimm13 (w : Word) : BitVec 13 := w.extractLsb' 0 13

/-- software_trap#, bits 6:0. -/
def fieldImm7 (w : Word) : BitVec 7 := w.extractLsb' 0 7

/-- disp30, bits 29:0. -/
def fieldDisp30 (w : Word) : BitVec 30 := w.extractLsb' 0 30

/-- imm22, disp22 and const22, bits 21:0. -/
def fieldImm22 (w : Word) : BitVec 22 := w.extractLsb' 0 22

/-- i, bit 13. -/
def fieldI (w : Word) : Bool := w.getLsbD 13

/-- a, bit 29. -/
def fieldAnnul (w : Word) : Bool := w.getLsbD 29

/-- The second operand (R268). -/
def fieldOperand2 (w : Word) : Operand2 :=
  if fieldI w then .imm (fieldSimm13 w) else .reg (fieldRs2 w)

/-- The operand of an alternate-space instruction (R321, R322). -/
def fieldAltAddr (w : Word) : AltAddr :=
  if fieldI w then .imm (fieldSimm13 w) else .reg (fieldAsi w) (fieldRs2 w)

/-- The count of a shift (R404): shcnt stands where rs2 does. -/
def fieldShiftCount (w : Word) : ShiftCount :=
  if fieldI w then .imm (fieldRs2 w) else .reg (fieldRs2 w)

/-- The operand of Ticc (R490). -/
def fieldTrapOperand (w : Word) : TrapOperand :=
  if fieldI w then .imm (fieldImm7 w) else .reg (fieldRs2 w)

/-- Bicc by cond (R274). -/
def decodeBicc (w : Word) : Instr :=
  match fieldCond w with
  | 0x0#4 => .bn (fieldAnnul w) (fieldImm22 w)
  | 0x1#4 => .be (fieldAnnul w) (fieldImm22 w)
  | 0x2#4 => .ble (fieldAnnul w) (fieldImm22 w)
  | 0x3#4 => .bl (fieldAnnul w) (fieldImm22 w)
  | 0x4#4 => .bleu (fieldAnnul w) (fieldImm22 w)
  | 0x5#4 => .bcs (fieldAnnul w) (fieldImm22 w)
  | 0x6#4 => .bneg (fieldAnnul w) (fieldImm22 w)
  | 0x7#4 => .bvs (fieldAnnul w) (fieldImm22 w)
  | 0x8#4 => .ba (fieldAnnul w) (fieldImm22 w)
  | 0x9#4 => .bne (fieldAnnul w) (fieldImm22 w)
  | 0xA#4 => .bg (fieldAnnul w) (fieldImm22 w)
  | 0xB#4 => .bge (fieldAnnul w) (fieldImm22 w)
  | 0xC#4 => .bgu (fieldAnnul w) (fieldImm22 w)
  | 0xD#4 => .bcc (fieldAnnul w) (fieldImm22 w)
  | 0xE#4 => .bpos (fieldAnnul w) (fieldImm22 w)
  | _ => .bvc (fieldAnnul w) (fieldImm22 w) -- 0xF#4, the one value left

/-- FBfcc by cond (R274). -/
def decodeFBfcc (w : Word) : Instr :=
  match fieldCond w with
  | 0x0#4 => .fbn (fieldAnnul w) (fieldImm22 w)
  | 0x1#4 => .fbne (fieldAnnul w) (fieldImm22 w)
  | 0x2#4 => .fblg (fieldAnnul w) (fieldImm22 w)
  | 0x3#4 => .fbul (fieldAnnul w) (fieldImm22 w)
  | 0x4#4 => .fbl (fieldAnnul w) (fieldImm22 w)
  | 0x5#4 => .fbug (fieldAnnul w) (fieldImm22 w)
  | 0x6#4 => .fbg (fieldAnnul w) (fieldImm22 w)
  | 0x7#4 => .fbu (fieldAnnul w) (fieldImm22 w)
  | 0x8#4 => .fba (fieldAnnul w) (fieldImm22 w)
  | 0x9#4 => .fbe (fieldAnnul w) (fieldImm22 w)
  | 0xA#4 => .fbue (fieldAnnul w) (fieldImm22 w)
  | 0xB#4 => .fbge (fieldAnnul w) (fieldImm22 w)
  | 0xC#4 => .fbuge (fieldAnnul w) (fieldImm22 w)
  | 0xD#4 => .fble (fieldAnnul w) (fieldImm22 w)
  | 0xE#4 => .fbule (fieldAnnul w) (fieldImm22 w)
  | _ => .fbo (fieldAnnul w) (fieldImm22 w) -- 0xF#4, the one value left

/-- CBccc by cond (R274). -/
def decodeCBccc (w : Word) : Instr :=
  match fieldCond w with
  | 0x0#4 => .cbn (fieldAnnul w) (fieldImm22 w)
  | 0x1#4 => .cb123 (fieldAnnul w) (fieldImm22 w)
  | 0x2#4 => .cb12 (fieldAnnul w) (fieldImm22 w)
  | 0x3#4 => .cb13 (fieldAnnul w) (fieldImm22 w)
  | 0x4#4 => .cb1 (fieldAnnul w) (fieldImm22 w)
  | 0x5#4 => .cb23 (fieldAnnul w) (fieldImm22 w)
  | 0x6#4 => .cb2 (fieldAnnul w) (fieldImm22 w)
  | 0x7#4 => .cb3 (fieldAnnul w) (fieldImm22 w)
  | 0x8#4 => .cba (fieldAnnul w) (fieldImm22 w)
  | 0x9#4 => .cb0 (fieldAnnul w) (fieldImm22 w)
  | 0xA#4 => .cb03 (fieldAnnul w) (fieldImm22 w)
  | 0xB#4 => .cb02 (fieldAnnul w) (fieldImm22 w)
  | 0xC#4 => .cb023 (fieldAnnul w) (fieldImm22 w)
  | 0xD#4 => .cb01 (fieldAnnul w) (fieldImm22 w)
  | 0xE#4 => .cb013 (fieldAnnul w) (fieldImm22 w)
  | _ => .cb012 (fieldAnnul w) (fieldImm22 w) -- 0xF#4, the one value left

/-- Ticc by cond (R274). -/
def decodeTicc (w : Word) : Instr :=
  match fieldCond w with
  | 0x0#4 => .tn (fieldRs1 w) (fieldTrapOperand w)
  | 0x1#4 => .te (fieldRs1 w) (fieldTrapOperand w)
  | 0x2#4 => .tle (fieldRs1 w) (fieldTrapOperand w)
  | 0x3#4 => .tl (fieldRs1 w) (fieldTrapOperand w)
  | 0x4#4 => .tleu (fieldRs1 w) (fieldTrapOperand w)
  | 0x5#4 => .tcs (fieldRs1 w) (fieldTrapOperand w)
  | 0x6#4 => .tneg (fieldRs1 w) (fieldTrapOperand w)
  | 0x7#4 => .tvs (fieldRs1 w) (fieldTrapOperand w)
  | 0x8#4 => .ta (fieldRs1 w) (fieldTrapOperand w)
  | 0x9#4 => .tne (fieldRs1 w) (fieldTrapOperand w)
  | 0xA#4 => .tg (fieldRs1 w) (fieldTrapOperand w)
  | 0xB#4 => .tge (fieldRs1 w) (fieldTrapOperand w)
  | 0xC#4 => .tgu (fieldRs1 w) (fieldTrapOperand w)
  | 0xD#4 => .tcc (fieldRs1 w) (fieldTrapOperand w)
  | 0xE#4 => .tpos (fieldRs1 w) (fieldTrapOperand w)
  | _ => .tvc (fieldRs1 w) (fieldTrapOperand w) -- 0xF#4, the one value left

/-- FPop1 by opf (R272); every other opf is a row of its own (R281). -/
def decodeFPop1 (w : Word) : Instr :=
  match fieldOpf w with
  | 0x0C4#9 => .fitos (fieldRd w) (fieldRs2 w)
  | 0x0C8#9 => .fitod (fieldRd w) (fieldRs2 w)
  | 0x0CC#9 => .fitoq (fieldRd w) (fieldRs2 w)
  | 0x0D1#9 => .fstoi (fieldRd w) (fieldRs2 w)
  | 0x0D2#9 => .fdtoi (fieldRd w) (fieldRs2 w)
  | 0x0D3#9 => .fqtoi (fieldRd w) (fieldRs2 w)
  | 0x0C9#9 => .fstod (fieldRd w) (fieldRs2 w)
  | 0x0CD#9 => .fstoq (fieldRd w) (fieldRs2 w)
  | 0x0C6#9 => .fdtos (fieldRd w) (fieldRs2 w)
  | 0x0CE#9 => .fdtoq (fieldRd w) (fieldRs2 w)
  | 0x0C7#9 => .fqtos (fieldRd w) (fieldRs2 w)
  | 0x0CB#9 => .fqtod (fieldRd w) (fieldRs2 w)
  | 0x001#9 => .fmovs (fieldRd w) (fieldRs2 w)
  | 0x005#9 => .fnegs (fieldRd w) (fieldRs2 w)
  | 0x009#9 => .fabss (fieldRd w) (fieldRs2 w)
  | 0x029#9 => .fsqrts (fieldRd w) (fieldRs2 w)
  | 0x02A#9 => .fsqrtd (fieldRd w) (fieldRs2 w)
  | 0x02B#9 => .fsqrtq (fieldRd w) (fieldRs2 w)
  | 0x041#9 => .fadds (fieldRd w) (fieldRs1 w) (fieldRs2 w)
  | 0x042#9 => .faddd (fieldRd w) (fieldRs1 w) (fieldRs2 w)
  | 0x043#9 => .faddq (fieldRd w) (fieldRs1 w) (fieldRs2 w)
  | 0x045#9 => .fsubs (fieldRd w) (fieldRs1 w) (fieldRs2 w)
  | 0x046#9 => .fsubd (fieldRd w) (fieldRs1 w) (fieldRs2 w)
  | 0x047#9 => .fsubq (fieldRd w) (fieldRs1 w) (fieldRs2 w)
  | 0x049#9 => .fmuls (fieldRd w) (fieldRs1 w) (fieldRs2 w)
  | 0x04A#9 => .fmuld (fieldRd w) (fieldRs1 w) (fieldRs2 w)
  | 0x04B#9 => .fmulq (fieldRd w) (fieldRs1 w) (fieldRs2 w)
  | 0x069#9 => .fsmuld (fieldRd w) (fieldRs1 w) (fieldRs2 w)
  | 0x06E#9 => .fdmulq (fieldRd w) (fieldRs1 w) (fieldRs2 w)
  | 0x04D#9 => .fdivs (fieldRd w) (fieldRs1 w) (fieldRs2 w)
  | 0x04E#9 => .fdivd (fieldRd w) (fieldRs1 w) (fieldRs2 w)
  | 0x04F#9 => .fdivq (fieldRd w) (fieldRs1 w) (fieldRs2 w)
  | _ => .fpop1Unassigned (fieldRd w) (fieldRs1 w) (fieldOpf w) (fieldRs2 w)

/-- FPop2 by opf (R273). -/
def decodeFPop2 (w : Word) : Instr :=
  match fieldOpf w with
  | 0x051#9 => .fcmps (fieldRs1 w) (fieldRs2 w)
  | 0x052#9 => .fcmpd (fieldRs1 w) (fieldRs2 w)
  | 0x053#9 => .fcmpq (fieldRs1 w) (fieldRs2 w)
  | 0x055#9 => .fcmpes (fieldRs1 w) (fieldRs2 w)
  | 0x056#9 => .fcmped (fieldRs1 w) (fieldRs2 w)
  | 0x057#9 => .fcmpeq (fieldRs1 w) (fieldRs2 w)
  | _ => .fpop2Unassigned (fieldRd w) (fieldRs1 w) (fieldOpf w) (fieldRs2 w)

/-- Format 2 (R262, R267). -/
def decodeFormat2 (w : Word) : Except DecodeError Instr :=
  match fieldOp2 w with
  | 0#3 => .ok (.unimp (fieldImm22 w))
  | 2#3 => .ok (decodeBicc w)
  | 4#3 => if w = 0x01000000#32 then .ok .nop else .ok (.sethi (fieldRd w) (fieldImm22 w))
  | 6#3 => .ok (decodeFBfcc w)
  | 7#3 => .ok (decodeCBccc w)
  | _ => .error .unassignedOp2

/-- op3 = 0x28: RDY, STBAR or RDASR (R282). -/
def decodeReadState (w : Word) : Instr :=
  if fieldRs1 w = 0#5 then .rdy (fieldRd w)
  else if fieldRs1 w = 15#5 && fieldRd w = 0#5 then .stbar
  else .rdasr (fieldRd w) (fieldRs1 w)

/-- op3 = 0x30: WRY or WRASR (R282). -/
def decodeWriteState (w : Word) : Instr :=
  if fieldRd w = 0#5 then .wry (fieldRs1 w) (fieldOperand2 w)
  else .wrasr (fieldRd w) (fieldRs1 w) (fieldOperand2 w)

/-- Format 3 with op = 2 (R270). -/
def decodeArith (w : Word) : Except DecodeError Instr :=
  match fieldOp3 w with
  | 0x00#6 => .ok (.add (fieldRd w) (fieldRs1 w) (fieldOperand2 w))
  | 0x01#6 => .ok (.and (fieldRd w) (fieldRs1 w) (fieldOperand2 w))
  | 0x02#6 => .ok (.or (fieldRd w) (fieldRs1 w) (fieldOperand2 w))
  | 0x03#6 => .ok (.xor (fieldRd w) (fieldRs1 w) (fieldOperand2 w))
  | 0x04#6 => .ok (.sub (fieldRd w) (fieldRs1 w) (fieldOperand2 w))
  | 0x05#6 => .ok (.andn (fieldRd w) (fieldRs1 w) (fieldOperand2 w))
  | 0x06#6 => .ok (.orn (fieldRd w) (fieldRs1 w) (fieldOperand2 w))
  | 0x07#6 => .ok (.xnor (fieldRd w) (fieldRs1 w) (fieldOperand2 w))
  | 0x08#6 => .ok (.addx (fieldRd w) (fieldRs1 w) (fieldOperand2 w))
  | 0x0A#6 => .ok (.umul (fieldRd w) (fieldRs1 w) (fieldOperand2 w))
  | 0x0B#6 => .ok (.smul (fieldRd w) (fieldRs1 w) (fieldOperand2 w))
  | 0x0C#6 => .ok (.subx (fieldRd w) (fieldRs1 w) (fieldOperand2 w))
  | 0x0E#6 => .ok (.udiv (fieldRd w) (fieldRs1 w) (fieldOperand2 w))
  | 0x0F#6 => .ok (.sdiv (fieldRd w) (fieldRs1 w) (fieldOperand2 w))
  | 0x10#6 => .ok (.addcc (fieldRd w) (fieldRs1 w) (fieldOperand2 w))
  | 0x11#6 => .ok (.andcc (fieldRd w) (fieldRs1 w) (fieldOperand2 w))
  | 0x12#6 => .ok (.orcc (fieldRd w) (fieldRs1 w) (fieldOperand2 w))
  | 0x13#6 => .ok (.xorcc (fieldRd w) (fieldRs1 w) (fieldOperand2 w))
  | 0x14#6 => .ok (.subcc (fieldRd w) (fieldRs1 w) (fieldOperand2 w))
  | 0x15#6 => .ok (.andncc (fieldRd w) (fieldRs1 w) (fieldOperand2 w))
  | 0x16#6 => .ok (.orncc (fieldRd w) (fieldRs1 w) (fieldOperand2 w))
  | 0x17#6 => .ok (.xnorcc (fieldRd w) (fieldRs1 w) (fieldOperand2 w))
  | 0x18#6 => .ok (.addxcc (fieldRd w) (fieldRs1 w) (fieldOperand2 w))
  | 0x1A#6 => .ok (.umulcc (fieldRd w) (fieldRs1 w) (fieldOperand2 w))
  | 0x1B#6 => .ok (.smulcc (fieldRd w) (fieldRs1 w) (fieldOperand2 w))
  | 0x1C#6 => .ok (.subxcc (fieldRd w) (fieldRs1 w) (fieldOperand2 w))
  | 0x1E#6 => .ok (.udivcc (fieldRd w) (fieldRs1 w) (fieldOperand2 w))
  | 0x1F#6 => .ok (.sdivcc (fieldRd w) (fieldRs1 w) (fieldOperand2 w))
  | 0x20#6 => .ok (.taddcc (fieldRd w) (fieldRs1 w) (fieldOperand2 w))
  | 0x21#6 => .ok (.tsubcc (fieldRd w) (fieldRs1 w) (fieldOperand2 w))
  | 0x22#6 => .ok (.taddcctv (fieldRd w) (fieldRs1 w) (fieldOperand2 w))
  | 0x23#6 => .ok (.tsubcctv (fieldRd w) (fieldRs1 w) (fieldOperand2 w))
  | 0x24#6 => .ok (.mulscc (fieldRd w) (fieldRs1 w) (fieldOperand2 w))
  | 0x25#6 => .ok (.sll (fieldRd w) (fieldRs1 w) (fieldShiftCount w))
  | 0x26#6 => .ok (.srl (fieldRd w) (fieldRs1 w) (fieldShiftCount w))
  | 0x27#6 => .ok (.sra (fieldRd w) (fieldRs1 w) (fieldShiftCount w))
  | 0x28#6 => .ok (decodeReadState w)
  | 0x29#6 => .ok (.rdpsr (fieldRd w))
  | 0x2A#6 => .ok (.rdwim (fieldRd w))
  | 0x2B#6 => .ok (.rdtbr (fieldRd w))
  | 0x30#6 => .ok (decodeWriteState w)
  | 0x31#6 => .ok (.wrpsr (fieldRs1 w) (fieldOperand2 w))
  | 0x32#6 => .ok (.wrwim (fieldRs1 w) (fieldOperand2 w))
  | 0x33#6 => .ok (.wrtbr (fieldRs1 w) (fieldOperand2 w))
  | 0x34#6 => .ok (decodeFPop1 w)
  | 0x35#6 => .ok (decodeFPop2 w)
  | 0x36#6 => .ok (.cpop1 (fieldRd w) (fieldRs1 w) (fieldOpf w) (fieldRs2 w))
  | 0x37#6 => .ok (.cpop2 (fieldRd w) (fieldRs1 w) (fieldOpf w) (fieldRs2 w))
  | 0x38#6 => .ok (.jmpl (fieldRd w) (fieldRs1 w) (fieldOperand2 w))
  | 0x39#6 => .ok (.rett (fieldRs1 w) (fieldOperand2 w))
  | 0x3A#6 => .ok (decodeTicc w)
  | 0x3B#6 => .ok (.flush (fieldRs1 w) (fieldOperand2 w))
  | 0x3C#6 => .ok (.save (fieldRd w) (fieldRs1 w) (fieldOperand2 w))
  | 0x3D#6 => .ok (.restore (fieldRd w) (fieldRs1 w) (fieldOperand2 w))
  | _ => .error .unassignedOp3

/-- Format 3 with op = 3 (R271). -/
def decodeMemory (w : Word) : Except DecodeError Instr :=
  match fieldOp3 w with
  | 0x00#6 => .ok (.ld (fieldRd w) (fieldRs1 w) (fieldOperand2 w))
  | 0x01#6 => .ok (.ldub (fieldRd w) (fieldRs1 w) (fieldOperand2 w))
  | 0x02#6 => .ok (.lduh (fieldRd w) (fieldRs1 w) (fieldOperand2 w))
  | 0x03#6 => .ok (.ldd (fieldRd w) (fieldRs1 w) (fieldOperand2 w))
  | 0x04#6 => .ok (.st (fieldRd w) (fieldRs1 w) (fieldOperand2 w))
  | 0x05#6 => .ok (.stb (fieldRd w) (fieldRs1 w) (fieldOperand2 w))
  | 0x06#6 => .ok (.sth (fieldRd w) (fieldRs1 w) (fieldOperand2 w))
  | 0x07#6 => .ok (.std (fieldRd w) (fieldRs1 w) (fieldOperand2 w))
  | 0x09#6 => .ok (.ldsb (fieldRd w) (fieldRs1 w) (fieldOperand2 w))
  | 0x0A#6 => .ok (.ldsh (fieldRd w) (fieldRs1 w) (fieldOperand2 w))
  | 0x0D#6 => .ok (.ldstub (fieldRd w) (fieldRs1 w) (fieldOperand2 w))
  | 0x0F#6 => .ok (.swap (fieldRd w) (fieldRs1 w) (fieldOperand2 w))
  | 0x10#6 => .ok (.lda (fieldRd w) (fieldRs1 w) (fieldAltAddr w))
  | 0x11#6 => .ok (.lduba (fieldRd w) (fieldRs1 w) (fieldAltAddr w))
  | 0x12#6 => .ok (.lduha (fieldRd w) (fieldRs1 w) (fieldAltAddr w))
  | 0x13#6 => .ok (.ldda (fieldRd w) (fieldRs1 w) (fieldAltAddr w))
  | 0x14#6 => .ok (.sta (fieldRd w) (fieldRs1 w) (fieldAltAddr w))
  | 0x15#6 => .ok (.stba (fieldRd w) (fieldRs1 w) (fieldAltAddr w))
  | 0x16#6 => .ok (.stha (fieldRd w) (fieldRs1 w) (fieldAltAddr w))
  | 0x17#6 => .ok (.stda (fieldRd w) (fieldRs1 w) (fieldAltAddr w))
  | 0x19#6 => .ok (.ldsba (fieldRd w) (fieldRs1 w) (fieldAltAddr w))
  | 0x1A#6 => .ok (.ldsha (fieldRd w) (fieldRs1 w) (fieldAltAddr w))
  | 0x1D#6 => .ok (.ldstuba (fieldRd w) (fieldRs1 w) (fieldAltAddr w))
  | 0x1F#6 => .ok (.swapa (fieldRd w) (fieldRs1 w) (fieldAltAddr w))
  | 0x20#6 => .ok (.ldf (fieldRd w) (fieldRs1 w) (fieldOperand2 w))
  | 0x21#6 => .ok (.ldfsr (fieldRs1 w) (fieldOperand2 w))
  | 0x23#6 => .ok (.lddf (fieldRd w) (fieldRs1 w) (fieldOperand2 w))
  | 0x24#6 => .ok (.stf (fieldRd w) (fieldRs1 w) (fieldOperand2 w))
  | 0x25#6 => .ok (.stfsr (fieldRs1 w) (fieldOperand2 w))
  | 0x26#6 => .ok (.stdfq (fieldRs1 w) (fieldOperand2 w))
  | 0x27#6 => .ok (.stdf (fieldRd w) (fieldRs1 w) (fieldOperand2 w))
  | 0x30#6 => .ok (.ldc (fieldRd w) (fieldRs1 w) (fieldOperand2 w))
  | 0x31#6 => .ok (.ldcsr (fieldRs1 w) (fieldOperand2 w))
  | 0x33#6 => .ok (.lddc (fieldRd w) (fieldRs1 w) (fieldOperand2 w))
  | 0x34#6 => .ok (.stc (fieldRd w) (fieldRs1 w) (fieldOperand2 w))
  | 0x35#6 => .ok (.stcsr (fieldRs1 w) (fieldOperand2 w))
  | 0x36#6 => .ok (.stdcq (fieldRs1 w) (fieldOperand2 w))
  | 0x37#6 => .ok (.stdc (fieldRd w) (fieldRs1 w) (fieldOperand2 w))
  | _ => .error .unassignedOp3

/-- The decoding procedure (R282). -/
def decode (w : Word) : Except DecodeError Instr :=
  match fieldOp w with
  | 0#2 => decodeFormat2 w
  | 1#2 => .ok (.call (fieldDisp30 w))
  | 2#2 => decodeArith w
  | 3#2 => decodeMemory w

/-- The word of four bytes, the first at the lowest address (big-endian, R122). -/
def wordOfBytes (b0 b1 b2 b3 : Byte) : Word := b0 ++ b1 ++ b2 ++ b3

/-- The four bytes of a word, the first at the lowest address (R122). -/
def bytesOfWord (w : Word) : List Byte :=
  [w.extractLsb' 24 8, w.extractLsb' 16 8, w.extractLsb' 8 8, w.extractLsb' 0 8]

/-- The instruction at the front of a list of bytes, and the bytes that follow it. -/
def decodeBytes : List Byte → Except DecodeError (Instr × List Byte)
  | b0 :: b1 :: b2 :: b3 :: rest =>
    match decode (wordOfBytes b0 b1 b2 b3) with
    | .ok i => .ok (i, rest)
    | .error e => .error e
  | _ => .error .truncated

/-- The instruction the decoder reads from an opcode-table row's word `w` of `nbits` bits (every row has 32). -/
def decodeTableWord (nbits w : Nat) : Option Instr :=
  match decodeBytes (bytesOfWord (BitVec.ofNat 32 (w % 2 ^ nbits))) with
  | .ok (i, _) => some i
  | .error _ => none

/-! Encoding. -/

/-- Format 3 (R263): `lo` is bits 13:0. -/
def format3 (op : BitVec 2) (rd : RegNum) (op3 : BitVec 6) (rs1 : RegNum) (lo : BitVec 14) : Word :=
  op ++ rd ++ op3 ++ rs1 ++ lo

/-- A branch word (R262). -/
def formatBranch (a : Bool) (cond : BitVec 4) (op2 : BitVec 3) (disp22 : BitVec 22) : Word :=
  0#2 ++ BitVec.ofBool a ++ cond ++ op2 ++ disp22

/-- SETHI and UNIMP (R262). -/
def formatImm22 (rd : RegNum) (op2 : BitVec 3) (imm22 : BitVec 22) : Word := 0#2 ++ rd ++ op2 ++ imm22

/-- CALL (R261). -/
def formatCall (disp30 : BitVec 30) : Word := 1#2 ++ disp30

/-- A Ticc word (R490): cond stands in bits 28:25, bit 29 is reserved. -/
def formatTicc (cond : BitVec 4) (rs1 : RegNum) (lo : BitVec 14) : Word :=
  format3 2#2 (0#1 ++ cond) 0x3A#6 rs1 lo

/-- Bits 13:0 with a second operand (R263). -/
def Operand2.encode : Operand2 → BitVec 14
  | .reg rs2 => 0#1 ++ 0#8 ++ rs2
  | .imm simm13 => 1#1 ++ simm13

/-- Bits 13:0 of an alternate-space instruction. -/
def AltAddr.encode : AltAddr → BitVec 14
  | .reg asi rs2 => 0#1 ++ asi ++ rs2
  | .imm simm13 => 1#1 ++ simm13

/-- Bits 13:0 of a shift (R404). -/
def ShiftCount.encode : ShiftCount → BitVec 14
  | .reg rs2 => 0#1 ++ 0#8 ++ rs2
  | .imm shcnt => 1#1 ++ 0#8 ++ shcnt

/-- Bits 13:0 of Ticc (R490). -/
def TrapOperand.encode : TrapOperand → BitVec 14
  | .reg rs2 => 0#1 ++ 0#8 ++ rs2
  | .imm imm7 => 1#1 ++ 0#6 ++ imm7

/-- Bits 13:0 of an FPop or CPop (R263). -/
def opfLow (opf : BitVec 9) (rs2 : RegNum) : BitVec 14 := opf ++ rs2

/-- The word of an instruction (R284). -/
def Instr.encode : Instr → Word
  | .ldsb rd rs1 op2 => format3 3#2 rd 0x09#6 rs1 op2.encode
  | .ldsh rd rs1 op2 => format3 3#2 rd 0x0A#6 rs1 op2.encode
  | .ldub rd rs1 op2 => format3 3#2 rd 0x01#6 rs1 op2.encode
  | .lduh rd rs1 op2 => format3 3#2 rd 0x02#6 rs1 op2.encode
  | .ld rd rs1 op2 => format3 3#2 rd 0x00#6 rs1 op2.encode
  | .ldd rd rs1 op2 => format3 3#2 rd 0x03#6 rs1 op2.encode
  | .ldsba rd rs1 alt => format3 3#2 rd 0x19#6 rs1 alt.encode
  | .ldsha rd rs1 alt => format3 3#2 rd 0x1A#6 rs1 alt.encode
  | .lduba rd rs1 alt => format3 3#2 rd 0x11#6 rs1 alt.encode
  | .lduha rd rs1 alt => format3 3#2 rd 0x12#6 rs1 alt.encode
  | .lda rd rs1 alt => format3 3#2 rd 0x10#6 rs1 alt.encode
  | .ldda rd rs1 alt => format3 3#2 rd 0x13#6 rs1 alt.encode
  | .ldf rd rs1 op2 => format3 3#2 rd 0x20#6 rs1 op2.encode
  | .lddf rd rs1 op2 => format3 3#2 rd 0x23#6 rs1 op2.encode
  | .ldfsr rs1 op2 => format3 3#2 0#5 0x21#6 rs1 op2.encode
  | .ldc rd rs1 op2 => format3 3#2 rd 0x30#6 rs1 op2.encode
  | .lddc rd rs1 op2 => format3 3#2 rd 0x33#6 rs1 op2.encode
  | .ldcsr rs1 op2 => format3 3#2 0#5 0x31#6 rs1 op2.encode
  | .stb rd rs1 op2 => format3 3#2 rd 0x05#6 rs1 op2.encode
  | .sth rd rs1 op2 => format3 3#2 rd 0x06#6 rs1 op2.encode
  | .st rd rs1 op2 => format3 3#2 rd 0x04#6 rs1 op2.encode
  | .std rd rs1 op2 => format3 3#2 rd 0x07#6 rs1 op2.encode
  | .stba rd rs1 alt => format3 3#2 rd 0x15#6 rs1 alt.encode
  | .stha rd rs1 alt => format3 3#2 rd 0x16#6 rs1 alt.encode
  | .sta rd rs1 alt => format3 3#2 rd 0x14#6 rs1 alt.encode
  | .stda rd rs1 alt => format3 3#2 rd 0x17#6 rs1 alt.encode
  | .stf rd rs1 op2 => format3 3#2 rd 0x24#6 rs1 op2.encode
  | .stdf rd rs1 op2 => format3 3#2 rd 0x27#6 rs1 op2.encode
  | .stfsr rs1 op2 => format3 3#2 0#5 0x25#6 rs1 op2.encode
  | .stdfq rs1 op2 => format3 3#2 0#5 0x26#6 rs1 op2.encode
  | .stc rd rs1 op2 => format3 3#2 rd 0x34#6 rs1 op2.encode
  | .stdc rd rs1 op2 => format3 3#2 rd 0x37#6 rs1 op2.encode
  | .stcsr rs1 op2 => format3 3#2 0#5 0x35#6 rs1 op2.encode
  | .stdcq rs1 op2 => format3 3#2 0#5 0x36#6 rs1 op2.encode
  | .ldstub rd rs1 op2 => format3 3#2 rd 0x0D#6 rs1 op2.encode
  | .ldstuba rd rs1 alt => format3 3#2 rd 0x1D#6 rs1 alt.encode
  | .swap rd rs1 op2 => format3 3#2 rd 0x0F#6 rs1 op2.encode
  | .swapa rd rs1 alt => format3 3#2 rd 0x1F#6 rs1 alt.encode
  | .sethi rd imm22 => formatImm22 rd 4#3 imm22
  | .nop => 0x01000000#32
  | .unimp const22 => formatImm22 0#5 0#3 const22
  | .and rd rs1 op2 => format3 2#2 rd 0x01#6 rs1 op2.encode
  | .andcc rd rs1 op2 => format3 2#2 rd 0x11#6 rs1 op2.encode
  | .andn rd rs1 op2 => format3 2#2 rd 0x05#6 rs1 op2.encode
  | .andncc rd rs1 op2 => format3 2#2 rd 0x15#6 rs1 op2.encode
  | .or rd rs1 op2 => format3 2#2 rd 0x02#6 rs1 op2.encode
  | .orcc rd rs1 op2 => format3 2#2 rd 0x12#6 rs1 op2.encode
  | .orn rd rs1 op2 => format3 2#2 rd 0x06#6 rs1 op2.encode
  | .orncc rd rs1 op2 => format3 2#2 rd 0x16#6 rs1 op2.encode
  | .xor rd rs1 op2 => format3 2#2 rd 0x03#6 rs1 op2.encode
  | .xorcc rd rs1 op2 => format3 2#2 rd 0x13#6 rs1 op2.encode
  | .xnor rd rs1 op2 => format3 2#2 rd 0x07#6 rs1 op2.encode
  | .xnorcc rd rs1 op2 => format3 2#2 rd 0x17#6 rs1 op2.encode
  | .sll rd rs1 cnt => format3 2#2 rd 0x25#6 rs1 cnt.encode
  | .srl rd rs1 cnt => format3 2#2 rd 0x26#6 rs1 cnt.encode
  | .sra rd rs1 cnt => format3 2#2 rd 0x27#6 rs1 cnt.encode
  | .add rd rs1 op2 => format3 2#2 rd 0x00#6 rs1 op2.encode
  | .addcc rd rs1 op2 => format3 2#2 rd 0x10#6 rs1 op2.encode
  | .addx rd rs1 op2 => format3 2#2 rd 0x08#6 rs1 op2.encode
  | .addxcc rd rs1 op2 => format3 2#2 rd 0x18#6 rs1 op2.encode
  | .taddcc rd rs1 op2 => format3 2#2 rd 0x20#6 rs1 op2.encode
  | .taddcctv rd rs1 op2 => format3 2#2 rd 0x22#6 rs1 op2.encode
  | .sub rd rs1 op2 => format3 2#2 rd 0x04#6 rs1 op2.encode
  | .subcc rd rs1 op2 => format3 2#2 rd 0x14#6 rs1 op2.encode
  | .subx rd rs1 op2 => format3 2#2 rd 0x0C#6 rs1 op2.encode
  | .subxcc rd rs1 op2 => format3 2#2 rd 0x1C#6 rs1 op2.encode
  | .tsubcc rd rs1 op2 => format3 2#2 rd 0x21#6 rs1 op2.encode
  | .tsubcctv rd rs1 op2 => format3 2#2 rd 0x23#6 rs1 op2.encode
  | .mulscc rd rs1 op2 => format3 2#2 rd 0x24#6 rs1 op2.encode
  | .umul rd rs1 op2 => format3 2#2 rd 0x0A#6 rs1 op2.encode
  | .smul rd rs1 op2 => format3 2#2 rd 0x0B#6 rs1 op2.encode
  | .umulcc rd rs1 op2 => format3 2#2 rd 0x1A#6 rs1 op2.encode
  | .smulcc rd rs1 op2 => format3 2#2 rd 0x1B#6 rs1 op2.encode
  | .udiv rd rs1 op2 => format3 2#2 rd 0x0E#6 rs1 op2.encode
  | .sdiv rd rs1 op2 => format3 2#2 rd 0x0F#6 rs1 op2.encode
  | .udivcc rd rs1 op2 => format3 2#2 rd 0x1E#6 rs1 op2.encode
  | .sdivcc rd rs1 op2 => format3 2#2 rd 0x1F#6 rs1 op2.encode
  | .save rd rs1 op2 => format3 2#2 rd 0x3C#6 rs1 op2.encode
  | .restore rd rs1 op2 => format3 2#2 rd 0x3D#6 rs1 op2.encode
  | .bn a disp22 => formatBranch a 0x0#4 2#3 disp22
  | .be a disp22 => formatBranch a 0x1#4 2#3 disp22
  | .ble a disp22 => formatBranch a 0x2#4 2#3 disp22
  | .bl a disp22 => formatBranch a 0x3#4 2#3 disp22
  | .bleu a disp22 => formatBranch a 0x4#4 2#3 disp22
  | .bcs a disp22 => formatBranch a 0x5#4 2#3 disp22
  | .bneg a disp22 => formatBranch a 0x6#4 2#3 disp22
  | .bvs a disp22 => formatBranch a 0x7#4 2#3 disp22
  | .ba a disp22 => formatBranch a 0x8#4 2#3 disp22
  | .bne a disp22 => formatBranch a 0x9#4 2#3 disp22
  | .bg a disp22 => formatBranch a 0xA#4 2#3 disp22
  | .bge a disp22 => formatBranch a 0xB#4 2#3 disp22
  | .bgu a disp22 => formatBranch a 0xC#4 2#3 disp22
  | .bcc a disp22 => formatBranch a 0xD#4 2#3 disp22
  | .bpos a disp22 => formatBranch a 0xE#4 2#3 disp22
  | .bvc a disp22 => formatBranch a 0xF#4 2#3 disp22
  | .fbn a disp22 => formatBranch a 0x0#4 6#3 disp22
  | .fbne a disp22 => formatBranch a 0x1#4 6#3 disp22
  | .fblg a disp22 => formatBranch a 0x2#4 6#3 disp22
  | .fbul a disp22 => formatBranch a 0x3#4 6#3 disp22
  | .fbl a disp22 => formatBranch a 0x4#4 6#3 disp22
  | .fbug a disp22 => formatBranch a 0x5#4 6#3 disp22
  | .fbg a disp22 => formatBranch a 0x6#4 6#3 disp22
  | .fbu a disp22 => formatBranch a 0x7#4 6#3 disp22
  | .fba a disp22 => formatBranch a 0x8#4 6#3 disp22
  | .fbe a disp22 => formatBranch a 0x9#4 6#3 disp22
  | .fbue a disp22 => formatBranch a 0xA#4 6#3 disp22
  | .fbge a disp22 => formatBranch a 0xB#4 6#3 disp22
  | .fbuge a disp22 => formatBranch a 0xC#4 6#3 disp22
  | .fble a disp22 => formatBranch a 0xD#4 6#3 disp22
  | .fbule a disp22 => formatBranch a 0xE#4 6#3 disp22
  | .fbo a disp22 => formatBranch a 0xF#4 6#3 disp22
  | .cbn a disp22 => formatBranch a 0x0#4 7#3 disp22
  | .cb123 a disp22 => formatBranch a 0x1#4 7#3 disp22
  | .cb12 a disp22 => formatBranch a 0x2#4 7#3 disp22
  | .cb13 a disp22 => formatBranch a 0x3#4 7#3 disp22
  | .cb1 a disp22 => formatBranch a 0x4#4 7#3 disp22
  | .cb23 a disp22 => formatBranch a 0x5#4 7#3 disp22
  | .cb2 a disp22 => formatBranch a 0x6#4 7#3 disp22
  | .cb3 a disp22 => formatBranch a 0x7#4 7#3 disp22
  | .cba a disp22 => formatBranch a 0x8#4 7#3 disp22
  | .cb0 a disp22 => formatBranch a 0x9#4 7#3 disp22
  | .cb03 a disp22 => formatBranch a 0xA#4 7#3 disp22
  | .cb02 a disp22 => formatBranch a 0xB#4 7#3 disp22
  | .cb023 a disp22 => formatBranch a 0xC#4 7#3 disp22
  | .cb01 a disp22 => formatBranch a 0xD#4 7#3 disp22
  | .cb013 a disp22 => formatBranch a 0xE#4 7#3 disp22
  | .cb012 a disp22 => formatBranch a 0xF#4 7#3 disp22
  | .call disp30 => formatCall disp30
  | .jmpl rd rs1 op2 => format3 2#2 rd 0x38#6 rs1 op2.encode
  | .rett rs1 op2 => format3 2#2 0#5 0x39#6 rs1 op2.encode
  | .tn rs1 opn => formatTicc 0x0#4 rs1 opn.encode
  | .te rs1 opn => formatTicc 0x1#4 rs1 opn.encode
  | .tle rs1 opn => formatTicc 0x2#4 rs1 opn.encode
  | .tl rs1 opn => formatTicc 0x3#4 rs1 opn.encode
  | .tleu rs1 opn => formatTicc 0x4#4 rs1 opn.encode
  | .tcs rs1 opn => formatTicc 0x5#4 rs1 opn.encode
  | .tneg rs1 opn => formatTicc 0x6#4 rs1 opn.encode
  | .tvs rs1 opn => formatTicc 0x7#4 rs1 opn.encode
  | .ta rs1 opn => formatTicc 0x8#4 rs1 opn.encode
  | .tne rs1 opn => formatTicc 0x9#4 rs1 opn.encode
  | .tg rs1 opn => formatTicc 0xA#4 rs1 opn.encode
  | .tge rs1 opn => formatTicc 0xB#4 rs1 opn.encode
  | .tgu rs1 opn => formatTicc 0xC#4 rs1 opn.encode
  | .tcc rs1 opn => formatTicc 0xD#4 rs1 opn.encode
  | .tpos rs1 opn => formatTicc 0xE#4 rs1 opn.encode
  | .tvc rs1 opn => formatTicc 0xF#4 rs1 opn.encode
  | .stbar => format3 2#2 0#5 0x28#6 15#5 0#14
  | .rdy rd => format3 2#2 rd 0x28#6 0#5 0#14
  | .rdasr rd rs1 => format3 2#2 rd 0x28#6 rs1 0#14
  | .rdpsr rd => format3 2#2 rd 0x29#6 0#5 0#14
  | .rdwim rd => format3 2#2 rd 0x2A#6 0#5 0#14
  | .rdtbr rd => format3 2#2 rd 0x2B#6 0#5 0#14
  | .wry rs1 op2 => format3 2#2 0#5 0x30#6 rs1 op2.encode
  | .wrasr rd rs1 op2 => format3 2#2 rd 0x30#6 rs1 op2.encode
  | .wrpsr rs1 op2 => format3 2#2 0#5 0x31#6 rs1 op2.encode
  | .wrwim rs1 op2 => format3 2#2 0#5 0x32#6 rs1 op2.encode
  | .wrtbr rs1 op2 => format3 2#2 0#5 0x33#6 rs1 op2.encode
  | .flush rs1 op2 => format3 2#2 0#5 0x3B#6 rs1 op2.encode
  | .fitos rd rs2 => format3 2#2 rd 0x34#6 0#5 (opfLow 0x0C4#9 rs2)
  | .fitod rd rs2 => format3 2#2 rd 0x34#6 0#5 (opfLow 0x0C8#9 rs2)
  | .fitoq rd rs2 => format3 2#2 rd 0x34#6 0#5 (opfLow 0x0CC#9 rs2)
  | .fstoi rd rs2 => format3 2#2 rd 0x34#6 0#5 (opfLow 0x0D1#9 rs2)
  | .fdtoi rd rs2 => format3 2#2 rd 0x34#6 0#5 (opfLow 0x0D2#9 rs2)
  | .fqtoi rd rs2 => format3 2#2 rd 0x34#6 0#5 (opfLow 0x0D3#9 rs2)
  | .fstod rd rs2 => format3 2#2 rd 0x34#6 0#5 (opfLow 0x0C9#9 rs2)
  | .fstoq rd rs2 => format3 2#2 rd 0x34#6 0#5 (opfLow 0x0CD#9 rs2)
  | .fdtos rd rs2 => format3 2#2 rd 0x34#6 0#5 (opfLow 0x0C6#9 rs2)
  | .fdtoq rd rs2 => format3 2#2 rd 0x34#6 0#5 (opfLow 0x0CE#9 rs2)
  | .fqtos rd rs2 => format3 2#2 rd 0x34#6 0#5 (opfLow 0x0C7#9 rs2)
  | .fqtod rd rs2 => format3 2#2 rd 0x34#6 0#5 (opfLow 0x0CB#9 rs2)
  | .fmovs rd rs2 => format3 2#2 rd 0x34#6 0#5 (opfLow 0x001#9 rs2)
  | .fnegs rd rs2 => format3 2#2 rd 0x34#6 0#5 (opfLow 0x005#9 rs2)
  | .fabss rd rs2 => format3 2#2 rd 0x34#6 0#5 (opfLow 0x009#9 rs2)
  | .fsqrts rd rs2 => format3 2#2 rd 0x34#6 0#5 (opfLow 0x029#9 rs2)
  | .fsqrtd rd rs2 => format3 2#2 rd 0x34#6 0#5 (opfLow 0x02A#9 rs2)
  | .fsqrtq rd rs2 => format3 2#2 rd 0x34#6 0#5 (opfLow 0x02B#9 rs2)
  | .fadds rd rs1 rs2 => format3 2#2 rd 0x34#6 rs1 (opfLow 0x041#9 rs2)
  | .faddd rd rs1 rs2 => format3 2#2 rd 0x34#6 rs1 (opfLow 0x042#9 rs2)
  | .faddq rd rs1 rs2 => format3 2#2 rd 0x34#6 rs1 (opfLow 0x043#9 rs2)
  | .fsubs rd rs1 rs2 => format3 2#2 rd 0x34#6 rs1 (opfLow 0x045#9 rs2)
  | .fsubd rd rs1 rs2 => format3 2#2 rd 0x34#6 rs1 (opfLow 0x046#9 rs2)
  | .fsubq rd rs1 rs2 => format3 2#2 rd 0x34#6 rs1 (opfLow 0x047#9 rs2)
  | .fmuls rd rs1 rs2 => format3 2#2 rd 0x34#6 rs1 (opfLow 0x049#9 rs2)
  | .fmuld rd rs1 rs2 => format3 2#2 rd 0x34#6 rs1 (opfLow 0x04A#9 rs2)
  | .fmulq rd rs1 rs2 => format3 2#2 rd 0x34#6 rs1 (opfLow 0x04B#9 rs2)
  | .fsmuld rd rs1 rs2 => format3 2#2 rd 0x34#6 rs1 (opfLow 0x069#9 rs2)
  | .fdmulq rd rs1 rs2 => format3 2#2 rd 0x34#6 rs1 (opfLow 0x06E#9 rs2)
  | .fdivs rd rs1 rs2 => format3 2#2 rd 0x34#6 rs1 (opfLow 0x04D#9 rs2)
  | .fdivd rd rs1 rs2 => format3 2#2 rd 0x34#6 rs1 (opfLow 0x04E#9 rs2)
  | .fdivq rd rs1 rs2 => format3 2#2 rd 0x34#6 rs1 (opfLow 0x04F#9 rs2)
  | .fcmps rs1 rs2 => format3 2#2 0#5 0x35#6 rs1 (opfLow 0x051#9 rs2)
  | .fcmpd rs1 rs2 => format3 2#2 0#5 0x35#6 rs1 (opfLow 0x052#9 rs2)
  | .fcmpq rs1 rs2 => format3 2#2 0#5 0x35#6 rs1 (opfLow 0x053#9 rs2)
  | .fcmpes rs1 rs2 => format3 2#2 0#5 0x35#6 rs1 (opfLow 0x055#9 rs2)
  | .fcmped rs1 rs2 => format3 2#2 0#5 0x35#6 rs1 (opfLow 0x056#9 rs2)
  | .fcmpeq rs1 rs2 => format3 2#2 0#5 0x35#6 rs1 (opfLow 0x057#9 rs2)
  | .fpop1Unassigned rd rs1 opf rs2 => format3 2#2 rd 0x34#6 rs1 (opfLow opf rs2)
  | .fpop2Unassigned rd rs1 opf rs2 => format3 2#2 rd 0x35#6 rs1 (opfLow opf rs2)
  | .cpop1 rd rs1 opc rs2 => format3 2#2 rd 0x36#6 rs1 (opfLow opc rs2)
  | .cpop2 rd rs1 opc rs2 => format3 2#2 rd 0x37#6 rs1 (opfLow opc rs2)

end Sys2Proof
end

