-- ==== Sys2Proof/Config.lean ====
section
/-! DEFINITION. What an implementation fixes (spec/00_scope.md R9, R10) and the free values the manual leaves
open. `Config` is plain data that State carries and no instruction writes (log 1); the free values are opaque
constants, so that nothing can be proved of which value they have (spec/93_implementation_defined.md, "any value"). -/

namespace Sys2Proof

/-- What the memory system answers on an access to a physical address (R126, R132, R136, R690, R692): the access is made
to memory, or to a device interface (an I/O location); MAE = 1, an access error, or an MMU miss. -/
inductive BusOutcome where
  | ok | device | mae | accessError | mmuMiss
  deriving DecidableEq, Repr, Inhabited

/-- One range of the memory map (R131, R132, R136): what reads and writes of it answer. An address no region covers is RAM. -/
structure Region where
  base : Nat
  size : Nat
  onRead : BusOutcome
  onWrite : BusOutcome
  deriving DecidableEq, Repr, Inhabited

/-- What ASI_MAP makes of an address space (R139): storage of its own, a device interface of its own, or the physical
addresses whose bits 35:32 are `upper`. -/
inductive SpaceKind where
  | storage | device
  | physical (upper : BitVec 4)
  deriving DecidableEq, Repr, Inhabited

/-- FLUSH_BEHAVIOUR of R10 (R530, R532). -/
inductive FlushBehaviour where
  | implemented | unimplementedFlushTrap | illegalInstructionTrap
  deriving DecidableEq, Repr, Inhabited

/-- The implementation parameters of R10. FP_UNFINISHED and the coprocessor's functions are parameters too; functions of their
operands, they are the opaque constants below (log 19, log 14). -/
structure Config where
  /-- NWINDOWS - 2, so that NWINDOWS is 2..32 (R21). -/
  nwinMinus2 : Fin 31
  /-- PSR_IMPL, PSR_VER (R33, R34). -/
  psrImpl : BitVec 4
  psrVer : BitVec 4
  /-- WRITE_STATE_DELAY (R45). -/
  writeStateDelay : Fin 4
  /-- ASR_IMPLEMENTED, ASR_PRIVILEGED: bit k is register 16 + k (R54). -/
  asrImplemented : BitVec 16
  asrPrivileged : BitVec 16
  /-- HAS_FPU, FSR_VER (R80, R99). -/
  hasFpu : Bool
  fsrVer : BitVec 3
  /-- FP_MISALIGNED_REG_TRAPS (R84). -/
  fpMisalignedRegTraps : Bool
  /-- FSR_NS_IMPLEMENTED (R98). -/
  fsrNsImplemented : Bool
  /-- FSR_OPTION (R96): the exceptions NV, OF, UF, DZ whose bits are state bits (all zero is option 1). -/
  fsrStateBits : BitVec 4
  /-- HAS_FQ, FQ_DEPTH (R105). -/
  hasFq : Bool
  fqDepth : Nat
  /-- FP_TRAPS_DEFERRED (R107). -/
  fpTrapsDeferred : Bool
  /-- Whether the deferred FPU's sequence error of a floating-point load or FBfcc is taken at once (R323, R477, R695), not at the next
  floating-point instruction (R107, R553): no parameter of R10, but the two readings of the rules (log 12). -/
  fpSequenceErrorAtOnce : Bool
  /-- FP_UNFINISHED is not "never" (R613). -/
  fpUnfinishedPossible : Bool
  /-- HAS_CP, whether it has a queue, whether cp_exception is deferred (R630, R633, R634). -/
  hasCp : Bool
  hasCq : Bool
  cpTrapsDeferred : Bool
  /-- The coprocessor may report exceptions and sequence errors at all (R633, R634). -/
  cpExceptionsPossible : Bool
  /-- UNIMPL_SET: mnemonics of the opcode table (R283). -/
  unimplSet : List String
  flushBehaviour : FlushBehaviour
  /-- HAS_PSO (R176). -/
  hasPso : Bool
  /-- SDIV_NEG_OVERFLOW is B (R442). -/
  sdivNegOverflowB : Bool
  /-- DIV_Y_RESULT is remainder (R442). -/
  divYRemainder : Bool
  /-- LDD_ODD_RD_TRAPS (R331). -/
  lddOddRdTraps : Bool
  /-- HAS_REF_MMU and its parameters (R253). -/
  hasRefMmu : Bool
  mmuImpl : BitVec 4
  mmuVer : BitVec 4
  /-- MMU_CONTEXT_BITS (R236). -/
  mmuContextBits : Fin 33
  /-- The SC bits of the MMU's Control Register that exist (R231), and the EBE bits of its Fault Status Register (R237). -/
  mmuScBits : BitVec 16
  mmuEbeBits : BitVec 8
  /-- An instruction buffer that a fetch may read instead of memory (R181, R768). -/
  hasIbuf : Bool
  /-- The memory map (R131) over physical addresses. -/
  memMap : List Region
  /-- ASI_MAP: the implementation-dependent address spaces there are (R139). -/
  altSpaces : List (BitVec 8 × SpaceKind)
  /-- IMPLEMENTED_TRAPS, as tt values (R677, D39). -/
  implementedTraps : List (BitVec 8)
  /-- TRAP_MODEL is enhanced (R674): the enhanced model only lets traps be deferred that no rule defers, and the default one must
  be there too, so the model behaves as the default one whichever it is (log 18). -/
  enhancedTrapModel : Bool
  /-- IU_DEFERRED_TRAP_QUEUE (R55): how many IU deferred-trap queues there are; they are reached only as device
  spaces of `altSpaces` (log 25). -/
  iuDeferredTrapQueues : Nat
  deriving DecidableEq, Repr, Inhabited

/-- NWINDOWS (R21). -/
def Config.nwindows (c : Config) : Nat := c.nwinMinus2.val + 2

/-- The reference configuration of spec/92_eei_decisions.md (D1). PSR_IMPL, PSR_VER, FSR_VER, MMU_CONTEXT_BITS and the MMU's
IMPL, VER, SC and EBE are open there: DESIGN CHOICE 15, 14, 0, 8 and zeros (log 2). -/
def Config.reference : Config where
  nwinMinus2 := 6
  psrImpl := 0xF#4
  psrVer := 0xE#4
  writeStateDelay := 3
  asrImplemented := 0#16
  asrPrivileged := 0#16
  hasFpu := true
  fsrVer := 0#3
  fpMisalignedRegTraps := true
  fsrNsImplemented := false
  fsrStateBits := 0#4
  hasFq := false
  fqDepth := 0
  fpTrapsDeferred := false
  fpSequenceErrorAtOnce := false
  fpUnfinishedPossible := false
  hasCp := false
  hasCq := false
  cpTrapsDeferred := false
  cpExceptionsPossible := false
  unimplSet := []
  flushBehaviour := .implemented
  hasPso := false
  sdivNegOverflowB := false
  divYRemainder := false
  lddOddRdTraps := false
  hasRefMmu := false
  mmuImpl := 0#4
  mmuVer := 0#4
  mmuContextBits := 8
  mmuScBits := 0#16
  mmuEbeBits := 0#8
  hasIbuf := false
  memMap := []
  altSpaces := []
  implementedTraps :=
    [0x01#8, 0x03#8, 0x02#8, 0x04#8, 0x24#8, 0x05#8, 0x06#8, 0x07#8, 0x08#8, 0x09#8, 0x0A#8, 0x2A#8] ++
      (List.range 128).map (fun n => BitVec.ofNat 8 (0x80 + n)) ++ (List.range 15).map (fun n => BitVec.ofNat 8 (0x11 + n))
  enhancedTrapModel := false
  iuDeferredTrapQueues := 0

/-- The coprocessor's state, `cp_state` of R633: the condition code `bp_CP_cc`, and whatever else a coprocessor keeps, as words
that only the coprocessor's own functions read. -/
structure CpState where
  cc : BitVec 2
  words : List Word
  deriving DecidableEq, Repr, Inhabited

/-- What a coprocessor load or store names (R347 to R349, R366 to R368): a coprocessor register, or the state register. -/
inductive CpPlace where
  | register (n : RegNum)
  | status
  deriving DecidableEq, Repr

/-- One access to a device interface (R136), as the processor makes it of the outside (R12, R126, R127): the address space, the location of
the byte addressed, whether it writes, which bytes of its word (all four in a read, which has no mask), the word read or written, and the
sync of a write. -/
structure IoAccess where
  asi : BitVec 8
  key : Nat
  write : Bool
  mask : BitVec 4
  data : Word
  sync : Bool
  deriving DecidableEq, Repr, Inhabited

/-- The word a device interface answers to a read, of the accesses made before it, oldest first, the address space and the location of the
byte addressed (R12, R126; R136: what a device does is not the spec's, log 38). -/
opaque Config.deviceWord : List IoAccess → BitVec 8 → Nat → Word

/-- The word RDASR of a reserved ancillary state register reads (R512, U42). -/
opaque Config.freeAsrWord : Nat → Word

/-- The decision of an FBfcc right after an FPop2 (R765, U44). -/
opaque Config.freeBranch : Nat → Bool

/-- The fcc an FBfcc within three instructions of an LDFSR sees (R765, U45). -/
opaque Config.freeFcc : Nat → BitVec 2

/-- How many of the stores to a location a fetch of it has missed, when an instruction buffer may hold an old word (R768, U20):
none, one, and so on from the oldest. -/
opaque Config.freeFetch : Nat → Nat

/-- The FT an MMU probe records where R244 says only that the fault registers are updated (log 20). -/
opaque Config.freeFaultFt : Nat → BitVec 3

/-- The AT an MMU fault records where R237 gives none: that of a probe or of a pass-through access (log 20). -/
opaque Config.freeFaultAt : Nat → BitVec 3

/-- The L of a fault on a pass-through access, which no table entry caused (log 20). -/
opaque Config.freeFaultLevel : Nat → BitVec 2

/-- The EBE bits of an external bus error: their meanings are implementation-dependent (R237). -/
opaque Config.freeEbe : Nat → BitVec 8

/-- FP_UNFINISHED (R613): when the FPU gives up on an implemented FPop, of its mnemonic and its two operands. -/
opaque Config.fpUnfinishedWhen : String → Nat → Nat → Bool

/-- CP_OPERATE (R633): CPop1 is 1, CPop2 is 2; then rd, rs1, opc, rs2 and the coprocessor's state. -/
opaque Config.cpOperate : Nat → RegNum → RegNum → BitVec 9 → RegNum → CpState → CpState × Bool

/-- The coprocessor's state after a word was loaded into a place (R633). -/
opaque Config.cpLoadWord : CpPlace → Word → CpState → CpState

/-- The word a place of the coprocessor stores (R633). -/
opaque Config.cpStoreWord : CpPlace → CpState → Word

/-- The doubleword at the front of the coprocessor queue; of an empty one an implementation-dependent value (R369, R633). -/
opaque Config.cpQueueFront : CpState → BitVec 64

/-- The coprocessor's state once STDCQ has stored the front of its queue (R369, R633). -/
opaque Config.cpQueuePop : CpState → CpState

/-- `a_CP_sequence_error_is_detected` (R633). -/
opaque Config.cpSequenceError : CpState → Bool

end Sys2Proof
end

