-- ==== Sys2Proof/Machine/State.lean ====
section
/-! DEFINITION. The machine's state (spec/10_state.md, 11_fpu_state.md, 22_reference_mmu.md, 46_coprocessor.md), as plain
data, and the state after reset (spec/70_reset_and_hazards.md R751). -/

namespace Sys2Proof.Machine

/-- The integer condition codes, PSR bits 23:20 (R35). -/
structure Icc where
  n : Bool
  z : Bool
  v : Bool
  c : Bool
  deriving DecidableEq, Repr

/-- The writable fields of the PSR (R32). impl and ver are hardwired in the configuration; bits 19:14 read zero. -/
structure Psr where
  icc : Icc
  ec : Bool
  ef : Bool
  pil : BitVec 4
  s : Bool
  ps : Bool
  et : Bool
  cwp : BitVec 5
  deriving DecidableEq, Repr

/-- The fields a WRPSR writes after the delay (R47: ET and PIL are written at once). -/
structure PsrWrite where
  icc : Icc
  ec : Bool
  ef : Bool
  s : Bool
  ps : Bool
  cwp : BitVec 5
  deriving DecidableEq, Repr

/-- A delayed write of a state register (R45). `asr k` is register 16 + k. -/
inductive StateWrite where
  | psr (fields : PsrWrite)
  | wim (value : Word)
  | tba (value : BitVec 20)
  | y (value : Word)
  | asr (k : BitVec 4) (value : Word)
  deriving DecidableEq, Repr

/-- A pending write and its countdown (R45). -/
structure PendingWrite where
  countdown : Nat
  write : StateWrite
  deriving DecidableEq, Repr

/-- Processor modes (R56, R750). -/
inductive Mode where
  | execute | reset | error
  deriving DecidableEq, Repr

/-- The exceptions and interrupt requests of Table 7-1 but reset (R677). -/
inductive Trap where
  | dataStoreError
  | instructionAccessMmuMiss
  | instructionAccessError
  | rRegisterAccessError
  | instructionAccessException
  | privilegedInstruction
  | illegalInstruction
  | fpDisabled
  | cpDisabled
  | unimplementedFlush
  | watchpointDetected
  | windowOverflow
  | windowUnderflow
  | memAddressNotAligned
  | fpException
  | cpException
  | dataAccessError
  | dataAccessMmuMiss
  | dataAccessException
  | tagOverflow
  | divisionByZero
  | trapInstruction (number : BitVec 7)
  | interrupt (level : BitVec 4)
  deriving DecidableEq, Repr

/-- The request flags of R57, with the three R677 adds. -/
structure Requests where
  resetTrap : Bool
  dataStoreError : Bool
  instructionAccessMmuMiss : Bool
  instructionAccessError : Bool
  rRegisterAccessError : Bool
  instructionAccessException : Bool
  privilegedInstruction : Bool
  illegalInstruction : Bool
  fpDisabled : Bool
  cpDisabled : Bool
  unimplementedFlush : Bool
  watchpointDetected : Bool
  windowOverflow : Bool
  windowUnderflow : Bool
  memAddressNotAligned : Bool
  fpException : Bool
  cpException : Bool
  dataAccessError : Bool
  dataAccessMmuMiss : Bool
  dataAccessException : Bool
  tagOverflow : Bool
  divisionByZero : Bool
  trapInstruction : Bool
  ticcTrapType : BitVec 7
  interruptLevel : BitVec 4
  deriving DecidableEq, Repr

/-- No request: what select_trap leaves (R704). -/
def Requests.none : Requests where
  resetTrap := false
  dataStoreError := false
  instructionAccessMmuMiss := false
  instructionAccessError := false
  rRegisterAccessError := false
  instructionAccessException := false
  privilegedInstruction := false
  illegalInstruction := false
  fpDisabled := false
  cpDisabled := false
  unimplementedFlush := false
  watchpointDetected := false
  windowOverflow := false
  windowUnderflow := false
  memAddressNotAligned := false
  fpException := false
  cpException := false
  dataAccessError := false
  dataAccessMmuMiss := false
  dataAccessException := false
  tagOverflow := false
  divisionByZero := false
  trapInstruction := false
  ticcTrapType := 0#7
  interruptLevel := 0#4

/-- The trap an instruction raised in the last step, and what its entry has overwritten (R14, R57, R700): the spec takes that trap
at the top of the next step, where a reset or a higher request may still come before it (log 5). While it stands, the `trap` bit
and the request flag of `trap` are set. -/
structure Raised where
  trap : Trap
  pc : Word
  npc : Word
  annul : Bool
  psr : Psr
  wim : Word
  tba : BitVec 20
  tt : BitVec 8
  y : Word
  asr : Vector Word 16
  pending : List PendingWrite
  windows : Vector Word 512
  deriving DecidableEq, Repr

/-- The stored fields of the FSR (R90). ver is hardwired, qne is derived from the queue, bits 29, 28, 21, 20, 12 read 0. -/
structure Fsr where
  rd : BitVec 2
  tem : BitVec 5
  ns : Bool
  ftt : BitVec 3
  fcc : BitVec 2
  aexc : BitVec 5
  cexc : BitVec 5
  deriving DecidableEq, Repr

/-- The states of the deferred-trap FPU (R107). -/
inductive FpuMode where
  | execute | exceptionPending | exception
  deriving DecidableEq, Repr

/-- The coprocessor (R633) and whether a deferred cp_exception is outstanding (R634). -/
structure Coprocessor where
  state : CpState
  exceptionPending : Bool
  deriving DecidableEq, Repr

/-- Classes of MMU fault (R238). -/
inductive FaultClass where
  | instruction | data | translation
  deriving DecidableEq, Repr

/-- The Reference MMU's registers (R253). `cls` is the class of the fault the status register holds, none when it has been
read. -/
structure Mmu where
  sc : BitVec 16
  pso : Bool
  nf : Bool
  e : Bool
  ctp : BitVec 30
  ctx : Word
  ebe : BitVec 8
  l : BitVec 2
  accType : BitVec 3
  ft : BitVec 3
  fav : Bool
  ow : Bool
  far : Word
  cls : Option FaultClass
  deriving DecidableEq, Repr

/-- What an instruction buffer may still know of the past (R181, R182), by the memory key of the word or doubleword: a word
that a store replaced, or a FLUSH not yet executed, `left` instructions (its own among them) before it must be. -/
inductive IBufEvent where
  | store (key : Nat) (old : Word)
  | flush (double : Nat) (left : Nat)
  deriving DecidableEq, Repr

/-- Memory: (key, byte) pairs in canonical form, keys strictly rising and no byte equal to what an unlisted key reads as.
A key below 2^36 is a physical address; the byte of address a in an address space i that the configuration backs is at key
(i + 1) * 2^36 + a. -/
abbrev Memory := List Host.Cell

/-- The machine. Every field is described by the rule INVENTORY.md names for it. -/
structure State where
  cfg : Config
  globals : Vector Word 8
  windows : Vector Word 512
  pc : Word
  npc : Word
  psr : Psr
  wim : Word
  tba : BitVec 20
  tt : BitVec 8
  y : Word
  asr : Vector Word 16
  pending : List PendingWrite
  annul : Bool
  mode : Mode
  pbError : Bool
  requests : Requests
  raised : Option Raised
  storeBarrierPending : Bool
  pbBlockByte : Bool
  pbBlockWord : Bool
  lastWriteSync : Bool
  irl : BitVec 4
  resetIn : Bool
  rRegisterError : Bool
  f : Vector Word 32
  fsr : Fsr
  fq : List (BitVec 64)
  fpuMode : FpuMode
  pendingFp : Option (BitVec 64)
  cp : Coprocessor
  mmu : Mmu
  ibuf : List IBufEvent
  io : List IoAccess
  ir : Word
  hzFcmp : Nat
  hzLdfsr : Nat
  freeCtr : Nat
  mem : Memory
  deriving DecidableEq, Repr

/-- Why a run stops with a fault: never. Every exception of the manual is a trap whose entry the model takes, and error_mode
is a state (R707, R750), so this type has no constructor. -/
inductive Fault where
  deriving DecidableEq, Repr

/-- Why a run stops with a refusal. -/
inductive Refusal where
  /-- The instruction has no meaning yet. No arm of `exec` answers it; it would be safe (the model stops). -/
  | notModelled (mnemonic : String)
  deriving DecidableEq, Repr

/-- What a meaning answers. -/
abbrev Answer := Host.Outcome State Fault Refusal

/-- The machine right after reset, about to fetch at address 0 (R751): ET = 0, S = 1, PC = 0, nPC = 4, nothing pending.
Every register R751 leaves unspecified is 0 (DESIGN CHOICE, log 3); the configuration is the reference one (log 1). -/
def State.reset : State where
  cfg := Config.reference
  globals := Vector.replicate 8 0#32
  windows := Vector.replicate 512 0#32
  pc := 0#32
  npc := 4#32
  psr := { icc := ⟨false, false, false, false⟩, ec := false, ef := false, pil := 0#4, s := true, ps := false,
           et := false, cwp := 0#5 }
  wim := 0#32
  tba := 0#20
  tt := 0#8
  y := 0#32
  asr := Vector.replicate 16 0#32
  pending := []
  annul := false
  mode := .execute
  pbError := false
  requests := Requests.none
  raised := Option.none
  storeBarrierPending := false
  pbBlockByte := false
  pbBlockWord := false
  lastWriteSync := false
  irl := 0#4
  resetIn := false
  rRegisterError := false
  f := Vector.replicate 32 0#32
  fsr := { rd := 0#2, tem := 0#5, ns := false, ftt := 0#3, fcc := 0#2, aexc := 0#5, cexc := 0#5 }
  fq := []
  fpuMode := .execute
  pendingFp := Option.none
  cp := { state := { cc := 0#2, words := [] }, exceptionPending := false }
  mmu := { sc := 0#16, pso := false, nf := false, e := false, ctp := 0#30, ctx := 0#32, ebe := 0#8, l := 0#2,
           accType := 0#3, ft := 0#3, fav := false, ow := false, far := 0#32, cls := Option.none }
  ibuf := []
  io := []
  ir := 0#32
  hzFcmp := 0
  hzLdfsr := 0
  freeCtr := 0
  mem := []

end Sys2Proof.Machine
end

