-- ==== Sys2Proof/Machine/Ops.lean ====
section
/-! DEFINITION. The named operations over registers, state words, memory bytes and the program counters; taking a trap
(spec/60_exceptions.md R704, R705, R707) and returning from one (spec/43_control_transfer.md R486). -/

namespace Sys2Proof.Machine

/-! Memory bytes. -/

/-- What a key no pair lists reads as: 0x00 (DESIGN CHOICE, log 4: R751 leaves memory unspecified). -/
def Memory.unlisted : Byte := 0x00#8

/-- The byte at a key. -/
def Memory.read : Memory → Nat → Byte
  | [], _ => Memory.unlisted
  | (k, b) :: rest, a => if k = a then b else Memory.read rest a

/-- Put a byte at a key: a byte equal to what the key reads as unlisted is not listed. -/
def Memory.write : Memory → Nat → Byte → Memory
  | [], a, b => if b = Memory.unlisted then [] else [(a, b)]
  | (k, c) :: rest, a, b =>
    if a < k then (if b = Memory.unlisted then (k, c) :: rest else (a, b) :: (k, c) :: rest)
    else if a = k then (if b = Memory.unlisted then rest else (a, b) :: rest)
    else (k, c) :: Memory.write rest a b

/-- The canonical form: keys strictly rising, no pair that an unlisted key would read as. -/
def Memory.wf : Memory → Bool
  | [] => true
  | [(_, b)] => b != Memory.unlisted
  | (k, b) :: (k', b') :: rest => b != Memory.unlisted && decide (k < k') && Memory.wf ((k', b') :: rest)

/-- The big-endian word at a key (R122). -/
def Memory.readWord (m : Memory) (a : Nat) : Word :=
  wordOfBytes (Memory.read m a) (Memory.read m (a + 1)) (Memory.read m (a + 2)) (Memory.read m (a + 3))

/-- Put a byte, if its bit of the byte mask is set. -/
def Memory.writeIf (m : Memory) (enabled : Bool) (a : Nat) (b : Byte) : Memory :=
  if enabled then Memory.write m a b else m

/-- external_memory_write's bytes (R127): mask bit 3 is the byte at the word's own address, data bits 31:24. -/
def Memory.writeMasked (m : Memory) (a : Nat) (mask : BitVec 4) (data : Word) : Memory :=
  let m := Memory.writeIf m (mask.getLsbD 3) a (data.extractLsb' 24 8)
  let m := Memory.writeIf m (mask.getLsbD 2) (a + 1) (data.extractLsb' 16 8)
  let m := Memory.writeIf m (mask.getLsbD 1) (a + 2) (data.extractLsb' 8 8)
  Memory.writeIf m (mask.getLsbD 0) (a + 3) (data.extractLsb' 0 8)

/-! The r registers (R22, R23, R24). -/

/-- Where window `cwp` keeps r[n], 8 ≤ n (R23). -/
def windowIndex (c : Config) (cwp : BitVec 5) (n : RegNum) : Nat :=
  ((n.toNat - 8) + cwp.toNat * 16) % (16 * c.nwindows)

/-- r[n] in window `cwp` (R23); r[0] reads 0 (R24). -/
def State.regIn (s : State) (cwp : BitVec 5) (n : RegNum) : Word :=
  if n = 0#5 then 0#32
  else if n.toNat < 8 then s.globals[n.toNat % 8]'(Nat.mod_lt _ (by decide))
  else s.windows[windowIndex s.cfg cwp n % 512]'(Nat.mod_lt _ (by decide))

/-- r[n] (R22): the current window's. -/
def State.reg (s : State) (n : RegNum) : Word := s.regIn s.psr.cwp n

/-- r[n] in window `cwp` becomes `v`; a write of r[0] is discarded (R24). -/
def State.setRegIn (s : State) (cwp : BitVec 5) (n : RegNum) (v : Word) : State :=
  if n = 0#5 then s
  else if n.toNat < 8 then { s with globals := s.globals.set (n.toNat % 8) v (Nat.mod_lt _ (by decide)) }
  else { s with windows := s.windows.set (windowIndex s.cfg cwp n % 512) v (Nat.mod_lt _ (by decide)) }

/-- `r[n] <- v` (R14). -/
def State.setReg (s : State) (n : RegNum) (v : Word) : State := s.setRegIn s.psr.cwp n v

/-- (CWP - 1) mod NWINDOWS (R25, R26). -/
def prevWindow (c : Config) (cwp : BitVec 5) : BitVec 5 :=
  BitVec.ofNat 5 ((cwp.toNat + (c.nwindows - 1)) % c.nwindows)

/-- (CWP + 1) mod NWINDOWS (R25, R26). -/
def nextWindow (c : Config) (cwp : BitVec 5) : BitVec 5 := BitVec.ofNat 5 ((cwp.toNat + 1) % c.nwindows)

/-- WIM bit of a window (R49). -/
def State.windowInvalid (s : State) (cwp : BitVec 5) : Bool := s.wim.getLsbD cwp.toNat

/-! The f registers (R82, R83). -/

/-- f[n] (R82). -/
def State.freg (s : State) (n : RegNum) : Word := s.f[n.toNat]'n.isLt

/-- `f[n] <- v`. -/
def State.setFreg (s : State) (n : RegNum) (v : Word) : State := { s with f := s.f.set n.toNat v n.isLt }

/-- Register n of an aligned pair's even half (R331). -/
def evenReg (n : RegNum) : RegNum := n &&& 0x1E#5

/-- Register n of an aligned pair's odd half (R331). -/
def oddReg (n : RegNum) : RegNum := n ||| 1#5

/-- The first register of an aligned quadruple (R83). -/
def quadReg (n : RegNum) : RegNum := n &&& 0x1C#5

/-- D(k): the double in the pair of register k (R83, R84). -/
def State.fdouble (s : State) (k : RegNum) : BitVec 64 := s.freg (evenReg k) ++ s.freg (oddReg k)

/-- Q(k): the quad in the quadruple of register k (R83, R84). -/
def State.fquad (s : State) (k : RegNum) : BitVec 128 :=
  s.freg (quadReg k) ++ s.freg (quadReg k + 1#5) ++ s.freg (quadReg k + 2#5) ++ s.freg (quadReg k + 3#5)

/-- `D(k) <- v`. -/
def State.setFdouble (s : State) (k : RegNum) (v : BitVec 64) : State :=
  (s.setFreg (evenReg k) (v.extractLsb' 32 32)).setFreg (oddReg k) (v.extractLsb' 0 32)

/-- `Q(k) <- v`. -/
def State.setFquad (s : State) (k : RegNum) (v : BitVec 128) : State :=
  (((s.setFreg (quadReg k) (v.extractLsb' 96 32)).setFreg (quadReg k + 1#5) (v.extractLsb' 64 32)).setFreg
    (quadReg k + 2#5) (v.extractLsb' 32 32)).setFreg (quadReg k + 3#5) (v.extractLsb' 0 32)

/-! The program counters (R42, R43). -/

/-- The default advance (R43). -/
def State.advance (s : State) : State := { s with pc := s.npc, npc := s.npc + 4#32 }

/-- A delayed transfer to `target` (R471). -/
def State.jump (s : State) (target : Word) : State := { s with pc := s.npc, npc := target }

/-! State registers as words. -/

/-- The four bits N, Z, V, C (R32). -/
def Icc.bits (i : Icc) : BitVec 4 :=
  BitVec.ofBool i.n ++ BitVec.ofBool i.z ++ BitVec.ofBool i.v ++ BitVec.ofBool i.c

/-- N, Z, V, C from four bits (R32). -/
def Icc.ofBits (b : BitVec 4) : Icc := ⟨b.getLsbD 3, b.getLsbD 2, b.getLsbD 1, b.getLsbD 0⟩

/-- What RDPSR reads (R32, R513): impl, ver, icc, reserved zero, EC, EF, PIL, S, PS, ET, CWP. EF and EC read 0 when the unit
is absent (R38). -/
def State.psrWord (s : State) : Word :=
  s.cfg.psrImpl ++ s.cfg.psrVer ++ s.psr.icc.bits ++ 0#6 ++ BitVec.ofBool (s.psr.ec && s.cfg.hasCp) ++
    BitVec.ofBool (s.psr.ef && s.cfg.hasFpu) ++ s.psr.pil ++ BitVec.ofBool s.psr.s ++ BitVec.ofBool s.psr.ps ++
    BitVec.ofBool s.psr.et ++ s.psr.cwp

/-- 2^NWINDOWS - 1 (R48). -/
def wimMask (c : Config) : Word := BitVec.ofNat 32 (2 ^ c.nwindows - 1)

/-- What RDWIM reads (R48, R514). -/
def State.wimWord (s : State) : Word := s.wim &&& wimMask s.cfg

/-- The TBR (R50): TBA, tt, four zeros. -/
def State.tbrWord (s : State) : Word := s.tba ++ s.tt ++ 0#4

/-- FSR.qne (R100). -/
def State.qne (s : State) : Bool := s.cfg.hasFq && !s.fq.isEmpty

/-- What STFSR stores (R90, R364); the unused and reserved bits read 0 (R92), NS reads 0 unless implemented (R98). -/
def State.fsrWord (s : State) : Word :=
  s.fsr.rd ++ 0#2 ++ s.fsr.tem ++ BitVec.ofBool (s.fsr.ns && s.cfg.fsrNsImplemented) ++ 0#2 ++ s.cfg.fsrVer ++ s.fsr.ftt ++
    BitVec.ofBool s.qne ++ 0#1 ++ s.fsr.fcc ++ s.fsr.aexc ++ s.fsr.cexc

/-- The fields LDFSR writes (R346): RD, TEM, NS where implemented, fcc, aexc, cexc. -/
def State.loadFsr (s : State) (w : Word) : State :=
  { s with fsr := { s.fsr with rd := w.extractLsb' 30 2, tem := w.extractLsb' 23 5, ns := w.getLsbD 22 && s.cfg.fsrNsImplemented, fcc := w.extractLsb' 10 2, aexc := w.extractLsb' 5 5, cexc := w.extractLsb' 0 5 } }

/-! Delayed writes (R45, R47). -/

/-- A delayed write reaches its register. -/
def State.applyWrite (s : State) : StateWrite → State
  | .psr w => { s with psr := { s.psr with icc := w.icc, ec := w.ec, ef := w.ef, s := w.s, ps := w.ps, cwp := w.cwp } }
  | .wim v => { s with wim := v }
  | .tba v => { s with tba := v }
  | .y v => { s with y := v }
  | .asr k v => { s with asr := s.asr.set k.toNat v k.isLt }

/-- A write state register instruction's write (R45, R516). -/
def State.enqueue (s : State) (w : StateWrite) : State :=
  { s with pending := s.pending ++ [⟨s.cfg.writeStateDelay.val, w⟩] }

/-- Apply writes in program order. -/
def State.applyWrites (s : State) (ws : List PendingWrite) : State := ws.foldl (fun t p => t.applyWrite p.write) s

/-- The start of an instruction: writes whose countdown is 0 are applied and removed, the others count down (R45). -/
def State.tickPending (s : State) : State :=
  { s.applyWrites (s.pending.filter (fun p => p.countdown == 0)) with
    pending := (s.pending.filter (fun p => p.countdown != 0)).map (fun p => { p with countdown := p.countdown - 1 }) }

/-- Taking a trap drains the pending writes (R47). -/
def State.drainPending (s : State) : State := { s.applyWrites s.pending with pending := [] }

/-! Traps. -/

/-- The tt value of an exception or interrupt (R677). -/
def Trap.tt : Trap → BitVec 8
  | .dataStoreError => 0x2B#8
  | .instructionAccessMmuMiss => 0x3C#8
  | .instructionAccessError => 0x21#8
  | .rRegisterAccessError => 0x20#8
  | .instructionAccessException => 0x01#8
  | .privilegedInstruction => 0x03#8
  | .illegalInstruction => 0x02#8
  | .fpDisabled => 0x04#8
  | .cpDisabled => 0x24#8
  | .unimplementedFlush => 0x25#8
  | .watchpointDetected => 0x0B#8
  | .windowOverflow => 0x05#8
  | .windowUnderflow => 0x06#8
  | .memAddressNotAligned => 0x07#8
  | .fpException => 0x08#8
  | .cpException => 0x28#8
  | .dataAccessError => 0x29#8
  | .dataAccessMmuMiss => 0x2C#8
  | .dataAccessException => 0x09#8
  | .tagOverflow => 0x0A#8
  | .divisionByZero => 0x2A#8
  | .trapInstruction n => 1#1 ++ n
  | .interrupt level => 0x1#4 ++ level

/-- select_trap's choice: the highest-priority request (R677, R704). -/
def Requests.select (r : Requests) : Option Trap :=
  if r.dataStoreError then some .dataStoreError
  else if r.instructionAccessMmuMiss then some .instructionAccessMmuMiss
  else if r.instructionAccessError then some .instructionAccessError
  else if r.rRegisterAccessError then some .rRegisterAccessError
  else if r.instructionAccessException then some .instructionAccessException
  else if r.privilegedInstruction then some .privilegedInstruction
  else if r.illegalInstruction then some .illegalInstruction
  else if r.fpDisabled then some .fpDisabled
  else if r.cpDisabled then some .cpDisabled
  else if r.unimplementedFlush then some .unimplementedFlush
  else if r.watchpointDetected then some .watchpointDetected
  else if r.windowOverflow then some .windowOverflow
  else if r.windowUnderflow then some .windowUnderflow
  else if r.memAddressNotAligned then some .memAddressNotAligned
  else if r.fpException then some .fpException
  else if r.cpException then some .cpException
  else if r.dataAccessError then some .dataAccessError
  else if r.dataAccessMmuMiss then some .dataAccessMmuMiss
  else if r.dataAccessException then some .dataAccessException
  else if r.tagOverflow then some .tagOverflow
  else if r.divisionByZero then some .divisionByZero
  else if r.trapInstruction then some (.trapInstruction r.ticcTrapType)
  else if r.interruptLevel != 0#4 then some (.interrupt r.interruptLevel)
  else Option.none

/-- A precise trap with ET = 0 (R707): error_mode, pb_error asserted, the requests cleared, nothing else. -/
def State.enterErrorMode (s : State) : State := { s with mode := .error, pbError := true, requests := Requests.none }

/-- The part of trap entry that reset shares (R705): pending writes drained, ET, PS, S and CWP changed, the trapped program
counters in r[17] and r[18] of the new window, annul and the requests cleared. -/
def State.enterTrapWindow (s : State) : State :=
  let d := s.drainPending
  let w := prevWindow d.cfg d.psr.cwp
  let t := { d with
    psr := { d.psr with et := false, ps := d.psr.s, s := true, cwp := w }
    annul := false
    requests := Requests.none }
  (t.setReg 17#5 (if s.annul then s.npc else s.pc)).setReg 18#5 (if s.annul then s.npc + 4#32 else s.npc)

/-- Taking the trap `t` (R705): with ET = 0 error_mode (R707), otherwise entry at TBA ++ tt ++ 0000. -/
def takeTrap (t : Trap) (s : State) : State :=
  if s.psr.et then
    let e := { s with tt := t.tt }.enterTrapWindow
    { e with pc := e.tbrWord, npc := e.tbrWord + 4#32 }
  else s.enterErrorMode

/-- What the entry of trap `t` overwrites at `s`. -/
def State.beforeTrap (s : State) (t : Trap) : Raised where
  trap := t
  pc := s.pc
  npc := s.npc
  annul := s.annul
  psr := s.psr
  wim := s.wim
  tba := s.tba
  tt := s.tt
  y := s.y
  asr := s.asr
  pending := s.pending
  windows := s.windows

/-- `raise t` of an instruction's rule (R14, R671): the trap is entered at once, and what the entry overwrote is kept until the
next step has seen whether a reset or a higher request comes before it (R700, log 5). -/
def raise (t : Trap) (s : State) : State := { takeTrap t s with raised := some (s.beforeTrap t) }

/-- The request flag of `t` is set (R14, R57). -/
def Requests.flag (r : Requests) : Trap → Requests
  | .dataStoreError => { r with dataStoreError := true }
  | .instructionAccessMmuMiss => { r with instructionAccessMmuMiss := true }
  | .instructionAccessError => { r with instructionAccessError := true }
  | .rRegisterAccessError => { r with rRegisterAccessError := true }
  | .instructionAccessException => { r with instructionAccessException := true }
  | .privilegedInstruction => { r with privilegedInstruction := true }
  | .illegalInstruction => { r with illegalInstruction := true }
  | .fpDisabled => { r with fpDisabled := true }
  | .cpDisabled => { r with cpDisabled := true }
  | .unimplementedFlush => { r with unimplementedFlush := true }
  | .watchpointDetected => { r with watchpointDetected := true }
  | .windowOverflow => { r with windowOverflow := true }
  | .windowUnderflow => { r with windowUnderflow := true }
  | .memAddressNotAligned => { r with memAddressNotAligned := true }
  | .fpException => { r with fpException := true }
  | .cpException => { r with cpException := true }
  | .dataAccessError => { r with dataAccessError := true }
  | .dataAccessMmuMiss => { r with dataAccessMmuMiss := true }
  | .dataAccessException => { r with dataAccessException := true }
  | .tagOverflow => { r with tagOverflow := true }
  | .divisionByZero => { r with divisionByZero := true }
  | .trapInstruction n => { r with trapInstruction := true, ticcTrapType := n }
  | .interrupt level => { r with interruptLevel := level }

/-- The requests that stand, the trap an instruction raised in the last step among them (R57, R700). -/
def State.standing (s : State) : Requests :=
  match s.raised with
  | some r => s.requests.flag r.trap
  | none => s.requests

/-- The `trap` bit (R57): some exception or interrupt request stands. -/
def State.trapBit (s : State) : Bool := s.standing != Requests.none

/-- The entry of a raised trap taken back: the state its instruction left, the requests standing (R14, R700). What the instruction
itself did before it raised the trap stays done, a deferred exception it found outstanding being so no more (DESIGN CHOICE, logs 5, 14). -/
def State.undoTrap (s : State) (r : Raised) : State :=
  { s with
    pc := r.pc
    npc := r.npc
    annul := r.annul
    psr := r.psr
    wim := r.wim
    tba := r.tba
    tt := r.tt
    y := r.y
    asr := r.asr
    pending := r.pending
    windows := r.windows
    mode := .execute
    pbError := false
    requests := s.requests.flag r.trap
    raised := none }

/-- The reset trap (R753, R751): whatever ET is, to address 0, tt unchanged; the FPU queue and the store barrier start
empty; the Reference MMU is disabled and in TSO (R251). -/
def takeReset (s : State) : State :=
  { s.enterTrapWindow with
    pc := 0#32
    npc := 4#32
    mode := .execute
    pbError := false
    fq := []
    fpuMode := .execute
    pendingFp := none
    storeBarrierPending := false
    hzFcmp := 0
    hzLdfsr := 0
    mmu := { s.mmu with e := false, pso := false } }

/-- error_stop of RETT's error cases (R487): the exception's request flag, and with it the `trap` bit (R57), is set, tt is written, and
the processor stops in error_mode; no trap is taken. -/
def State.errorStop (s : State) (t : Trap) : State :=
  { s.enterErrorMode with tt := t.tt, requests := s.requests.flag t }

/-- Returning from a trap to `target` in window `w` (R486). -/
def State.returnFromTrap (s : State) (w : BitVec 5) (target : Word) : State :=
  { s.jump target with psr := { s.psr with et := true, cwp := w, s := s.psr.ps } }

/-! Exceptions an implementation may lack. -/

/-- The tt values of the exceptions that only some implementations detect, and that the platform alone raises (R680, R687, R690
to R693): IMPLEMENTED_TRAPS decides on them (R10, D39). -/
def optionalTraps : List (BitVec 8) := [0x2B#8, 0x3C#8, 0x21#8, 0x20#8, 0x0B#8, 0x29#8, 0x2C#8]

/-- The implementation detects this exception (R10). -/
def detects (c : Config) (t : Trap) : Bool := !optionalTraps.contains t.tt || c.implementedTraps.contains t.tt

/-- The requests without those of exceptions the implementation does not detect (log 18). -/
def Requests.detected (r : Requests) (c : Config) : Requests :=
  { r with
    dataStoreError := r.dataStoreError && detects c .dataStoreError
    instructionAccessMmuMiss := r.instructionAccessMmuMiss && detects c .instructionAccessMmuMiss
    instructionAccessError := r.instructionAccessError && detects c .instructionAccessError
    rRegisterAccessError := r.rRegisterAccessError && detects c .rRegisterAccessError
    watchpointDetected := r.watchpointDetected && detects c .watchpointDetected
    dataAccessError := r.dataAccessError && detects c .dataAccessError
    dataAccessMmuMiss := r.dataAccessMmuMiss && detects c .dataAccessMmuMiss }

/-! Free values. -/

/-- The next free value has been used. -/
def State.drawn (s : State) : State := { s with freeCtr := s.freeCtr + 1 }

end Sys2Proof.Machine
end

