-- ==== Sys2Proof/Machine/Operands.lean ====
section
/-! DEFINITION. Operand forms: the second operand, addresses and address spaces, shift counts, trap numbers, branch targets
(spec/30_encoding.md R268, spec/40_load_store.md R321). -/

namespace Sys2Proof.Machine

/-- operand2 (R268): r[rs2], or simm13 sign-extended. -/
def State.operand2 (s : State) : Operand2 → Word
  | .reg rs2 => s.reg rs2
  | .imm simm13 => simm13.signExtend 32

/-- r[rs1] + operand2, modulo 2^32 (R125, R321). -/
def State.address (s : State) (rs1 : RegNum) (op2 : Operand2) : Word := s.reg rs1 + s.operand2 op2

/-- The address of an alternate-space instruction (R321). -/
def State.altAddress (s : State) (rs1 rs2 : RegNum) : Word := s.reg rs1 + s.reg rs2

/-- The address space of an ordinary data access (R129): 0x0A for user, 0x0B for supervisor. -/
def State.dataAsi (s : State) : BitVec 8 := if s.psr.s then 0x0B#8 else 0x0A#8

/-- The address space of a fetch (R129): 8 for user, 9 for supervisor. -/
def State.fetchAsi (s : State) : BitVec 8 := if s.psr.s then 0x09#8 else 0x08#8

/-- The shift count, 0..31 (R404). -/
def State.shiftCount (s : State) : ShiftCount → Nat
  | .reg rs2 => ((s.reg rs2).extractLsb' 0 5).toNat
  | .imm shcnt => shcnt.toNat

/-- The software trap number: bits 6:0 of the sum (R490). -/
def State.trapNumber (s : State) (rs1 : RegNum) : TrapOperand → BitVec 7
  | .reg rs2 => (s.reg rs1 + s.reg rs2).extractLsb' 0 7
  | .imm imm7 => (s.reg rs1 + imm7.signExtend 32).extractLsb' 0 7

/-- PC + 4 * sext(disp22) (R475). -/
def branchTarget (pc : Word) (disp22 : BitVec 22) : Word := pc + (disp22 ++ 0#2).signExtend 32

/-- PC + (disp30 ++ 00) (R480). -/
def callTarget (pc : Word) (disp30 : BitVec 30) : Word := pc + (disp30 ++ 0#2)

/-- SETHI's value (R408). -/
def sethiValue (imm22 : BitVec 22) : Word := imm22 ++ 0#10

/-- The floating-point unit may be used (R684). -/
def State.fpEnabled (s : State) : Bool := s.psr.ef && s.cfg.hasFpu

/-- The coprocessor may be used (R685). -/
def State.cpEnabled (s : State) : Bool := s.psr.ec && s.cfg.hasCp

end Sys2Proof.Machine
end

