-- ==== Sys2Proof/Machine/IBuf.lean ====
section
/-! DEFINITION. The instruction buffer (spec/21_memory_model.md R180 to R185, spec/70_reset_and_hazards.md R768), as the past it
may still answer from: the words that stores replaced and the FLUSHes not yet executed, in the order they were made (log 17). A
configuration without one remembers nothing. -/

namespace Sys2Proof.Machine

/-- The event remembers an old word of the doubleword at key `8 * double`. -/
def IBufEvent.inDouble (double : Nat) : IBufEvent → Bool
  | .store key _ => key / 8 == double
  | .flush _ _ => false

/-- The event remembers an old word of this key. -/
def IBufEvent.ofKey (k : Nat) : IBufEvent → Bool
  | .store key _ => key == k
  | .flush _ _ => false

/-- Every FLUSH of a stretch of the past is executed, in order (R182): the words it invalidates are forgotten. -/
def runFlushes (es : List IBufEvent) : List IBufEvent :=
  es.foldl (fun kept e => match e with
    | .store _ _ => kept ++ [e]
    | .flush double _ => kept.filter (fun x => !x.inDouble double)) []

/-- The FLUSHes whose time is up are executed, the earlier ones before them (R182: their order is preserved). -/
def expireFlushes (es : List IBufEvent) : List IBufEvent :=
  es.foldl (fun kept e => match e with
    | .flush double 0 => (runFlushes kept).filter (fun x => !x.inDouble double)
    | _ => kept ++ [e]) []

/-- Completed FLUSHes take effect (R182). -/
def State.expireIBuf (s : State) : State := { s with ibuf := expireFlushes s.ibuf }

/-- The past up to the `n`-th remembered store of key `k`, and what followed it. -/
def splitAtStore (k : Nat) : Nat → List IBufEvent → List IBufEvent × List IBufEvent
  | 0, es => ([], es)
  | _ + 1, [] => ([], [])
  | n + 1, e :: es =>
    match splitAtStore k (if e.ofKey k then n else n + 1) es with
    | (before, after) => (e :: before, after)

/-- A fetch of key `k` has seen its first `n` remembered stores: no later fetch sees the words they replaced (R185), nor any word
whose FLUSH came before the last of them (R180, R182). The location of R185 is taken to be the word, although R163 speaks of doublewords:
the other word of the doubleword may still be fetched old (DESIGN CHOICE, log 17). -/
def seeStores (k n : Nat) (es : List IBufEvent) : List IBufEvent :=
  match splitAtStore k n es with
  | (before, after) => (runFlushes before).filter (fun e => !e.ofKey k) ++ after

/-- The words the stores to key `k` replaced, oldest first. -/
def oldWords (k : Nat) (es : List IBufEvent) : List Word :=
  es.filterMap (fun e => match e with
    | .store key old => if key = k then some old else none
    | .flush _ _ => none)

/-- The word a fetch of key `k` delivers, `w` being memory's (U20): where an instruction buffer may hold old words, one of them or
memory's, freely. -/
def State.fetchedWord (s : State) (k : Nat) (w : Word) : State × Word :=
  match oldWords k s.ibuf with
  | [] => (s, w)
  | olds =>
    ({ s with ibuf := seeStores k (min (Config.freeFetch s.freeCtr) olds.length) s.ibuf }.drawn,
     olds.getD (Config.freeFetch s.freeCtr) w)

/-- The bytes of the mask are written at a key; an instruction buffer may keep the word that stood there (R181, U20). -/
def State.storeKey (s : State) (k : Nat) (mask : BitVec 4) (data : Word) : State :=
  { s with
    mem := Memory.writeMasked s.mem k mask data
    ibuf := if s.cfg.hasIbuf then s.ibuf ++ [.store k (Memory.readWord s.mem k)] else s.ibuf }

end Sys2Proof.Machine
end

