-- ==== Sys2Proof/Machine/Mmu.lean ====
section
/-! DEFINITION. The SPARC Reference MMU (spec/22_reference_mmu.md): the table walk, the permission check, fault recording,
the registers of ASI 4, flush and probe of ASI 3. It acts only when the configuration has it. There is no page descriptor
cache (R213, decision D22): every translation walks the tables. -/

namespace Sys2Proof.Machine

/-- The memory map's answer at a key (R131, R132): the first region that covers it, else RAM. -/
def regionOutcome (write : Bool) (key : Nat) : List Region → BusOutcome
  | [] => .ok
  | r :: rest =>
    if r.base ≤ key && key < r.base + r.size then (if write then r.onWrite else r.onRead)
    else regionOutcome write key rest

/-- The memory map's answer (R132). -/
def State.busOutcome (s : State) (write : Bool) (key : Nat) : BusOutcome := regionOutcome write key s.cfg.memMap

/-- A page-table word (R212); none is a bus error on it. Tables are in memory: a table word at a device interface is a bus error
(DESIGN CHOICE, log 20). -/
def State.tableWord (s : State) (pa : Nat) : Option Word :=
  if s.busOutcome false pa = .ok then some (Memory.readWord s.mem pa) else none

/-- ET of an entry (R208). -/
def entryType (e : Word) : BitVec 2 := e.extractLsb' 0 2

/-- ACC of a PTE (R209). -/
def entryAcc (e : Word) : BitVec 3 := e.extractLsb' 2 3

/-- The physical address a PTP names (R207): PTP ++ 000000. -/
def tableBase (e : Word) : Nat := (e.extractLsb' 2 30 ++ 0#6 : BitVec 36).toNat

/-- The three table indexes of an address (R204), with the level each is used at. -/
def tableIndexes (va : Word) : List Nat :=
  [(va.extractLsb' 24 8).toNat, (va.extractLsb' 18 6).toNat, (va.extractLsb' 12 6).toNat]

/-- The physical address of the root pointer: Context Table[context] (R205, R212). -/
def State.rootAddress (s : State) : Nat :=
  ((s.mmu.ctp ++ 0#6 : BitVec 36).toNat + s.mmu.ctx.toNat * 4) % 2 ^ 36

/-- What a walk of the tables ends in (R212). -/
inductive Walk where
  /-- A PTE, where it stands, and its level. -/
  | pte (address : Nat) (entry : Word) (level : Nat)
  /-- An entry of another type, where it is no PTD to follow. -/
  | stopped (entry : Word) (level : Nat)
  /-- A bus error on the table of `level`. -/
  | busError (level : Nat)
  deriving DecidableEq, Repr

/-- Walk from the entry at `address`, of level `level`, with the indexes of the levels below (R212). -/
def State.walk (s : State) (address level : Nat) : List Nat → Walk
  | [] =>
    match s.tableWord address with
    | none => .busError level
    | some e => if entryType e = 2#2 then .pte address e level else .stopped e level
  | i :: rest =>
    match s.tableWord address with
    | none => .busError level
    | some e =>
      if entryType e = 2#2 then .pte address e level
      else if entryType e = 1#2 then s.walk ((tableBase e + i * 4) % 2 ^ 36) (level + 1) rest
      else .stopped e level

/-- FT of an entry that ends a translation (R212, R237): 1 invalid address, 4 translation error. -/
def stoppedFt (e : Word) : BitVec 3 := if entryType e = 0#2 then 1#3 else 4#3

/-- AT of an access (R237): bit 2 store, bit 1 instruction space, bit 0 supervisor. -/
def accessType (asi : BitVec 8) (store : Bool) : BitVec 3 :=
  BitVec.ofBool store ++ BitVec.ofBool (asi == 0x08#8 || asi == 0x09#8) ++
    BitVec.ofBool (asi == 0x09#8 || asi == 0x0B#8)

/-- The permission table (R214): rows AT 0 to 7, columns ACC 0 to 7; 0 no error, 2 protection, 3 privilege violation. -/
def permissionTable : List (List (BitVec 3)) :=
  [[0, 0, 0, 0, 2, 0, 3, 3],
   [0, 0, 0, 0, 2, 0, 0, 0],
   [2, 2, 0, 0, 0, 2, 3, 3],
   [2, 2, 0, 0, 0, 2, 0, 0],
   [2, 0, 2, 0, 2, 2, 3, 3],
   [2, 0, 2, 0, 2, 0, 2, 0],
   [2, 2, 2, 0, 2, 2, 3, 3],
   [2, 2, 2, 0, 2, 2, 2, 0]]

/-- The fault type of an access of type `accType` to a page with permissions `acc` (R214). -/
def permissionFault (accType acc : BitVec 3) : BitVec 3 :=
  (permissionTable.getD accType.toNat []).getD acc.toNat 2#3

/-- The address bits below a PTE of a level that are not translated (R211, Table H-1). -/
def regionBits : Nat → Nat
  | 0 => 32
  | 1 => 24
  | 2 => 18
  | _ => 12

/-- The physical address (R211): (PPN ++ 000) or VA[k-1:0]. -/
def translated (entry va : Word) (level : Nat) : Nat :=
  ((entry.extractLsb' 8 24 ++ 0#12 : BitVec 36).toNat) ||| (va.toNat % 2 ^ regionBits level)

/-- What a fault puts in the status and address registers (R237, R239). -/
structure FaultInfo where
  ebe : BitVec 8
  l : BitVec 2
  accType : BitVec 3
  ft : BitVec 3
  va : Word
  deriving DecidableEq, Repr

/-- A fault of class `c` reaches the status and address registers (R238, R239): a later fault of the same class sets OW; an
instruction fault does not displace a data fault; nothing but a translation fault displaces a translation fault. -/
def Mmu.record (m : Mmu) (c : FaultClass) (i : FaultInfo) : Mmu :=
  let latch (ow : Bool) : Mmu :=
    { m with ebe := i.ebe, l := i.l, accType := i.accType, ft := i.ft, fav := true, ow := ow, far := i.va, cls := some c }
  match m.cls, c with
  | none, _ => latch false
  | some .translation, .translation => latch true
  | some .translation, _ => m
  | some _, .translation => latch false
  | some .instruction, .instruction => latch true
  | some .instruction, .data => latch false
  | some .data, .data => latch true
  | some .data, .instruction => m

/-- The class of a fault on an access with this ASI (R238). -/
def faultClass (asi : BitVec 8) (fetch : Bool) : FaultClass :=
  if fetch && (asi == 0x08#8 || asi == 0x09#8) then .instruction else .data

/-- How an access ends that does not answer data (R126, R690, R692). -/
inductive BusError where
  | mae | accessError | mmuMiss
  deriving DecidableEq, Repr

/-- Where an access goes: a memory key; a device interface (R136); nowhere, the fault being suppressed by NF (R233); or to an
error. -/
inductive Reach where
  | key (k : Nat)
  | device (k : Nat)
  | suppressed
  | failed (e : BusError)
  deriving DecidableEq, Repr

/-- The memory map's answer as a reach. -/
def State.reachKey (s : State) (write : Bool) (key : Nat) : Reach :=
  match s.busOutcome write key with
  | .ok => .key key
  | .device => .device key
  | .mae => .failed .mae
  | .accessError => .failed .accessError
  | .mmuMiss => .failed .mmuMiss

/-- The EBE bits of an external bus error: free values of the bits an implementation has (R237, log 20). -/
def State.busErrorBits (s : State) : BitVec 8 := Config.freeEbe s.freeCtr &&& s.cfg.mmuEbeBits

/-- An MMU fault (R218, R233): it is recorded; NF keeps it from the processor unless the ASI is 9; FT 5 and 6 are access
errors, the others MAE. Each access to memory that faults is recorded: with NF = 1 an atomic load-store whose two parts fault records
both, and so does a doubleword load or store whose two words fault (OW = 1, the Fault Address Register holding the second word's address,
a + 4); R128 makes two accesses of a doubleword, R163 and R329 one decision (DESIGN CHOICE, log 20). -/
def State.mmuFault (s : State) (asi : BitVec 8) (c : FaultClass) (i : FaultInfo) : State × Reach :=
  ({ s with mmu := s.mmu.record c i },
   if s.mmu.nf && asi != 0x09#8 then .suppressed
   else if i.ft = 5#3 || i.ft = 6#3 then .failed .accessError else .failed .mae)

/-- An MMU fault that an external bus error causes: EBE says which (R237). -/
def State.mmuBusFault (s : State) (asi : BitVec 8) (c : FaultClass) (i : FaultInfo) : State × Reach :=
  s.drawn.mmuFault asi c { i with ebe := s.busErrorBits }

/-- A PTE after a successful translation (R215): R set, and M on a write. -/
def referencedEntry (entry : Word) (store : Bool) : Word :=
  entry ||| 0x20#32 ||| (if store then 0x40#32 else 0#32)

/-- The address of the word that holds a byte (R126). -/
def wordAddress (a : Word) : Word := a &&& 0xFFFFFFFC#32

/-- A translated access whose page grants it (R211, R215, R237): an access error at the physical address is FT 5; one that fails
in another way is passed on; else R, and M on a write, are set in the entry, and the access goes to the physical address. An access
that fails changes no memory (R127, R132). That an MAE there is no external bus error, that FT 5 records as L the level of the page
table entry used, which caused no fault itself, and that an entry the map does not let be written is FT 4, are DESIGN CHOICEs (log 20). -/
def State.accessPage (s : State) (asi : BitVec 8) (c : FaultClass) (store : Bool) (address : Nat) (e : Word) (i : FaultInfo) :
    State × Reach :=
  match s.reachKey store (translated e (wordAddress i.va) i.l.toNat) with
  | .failed .accessError => s.mmuBusFault asi c { i with ft := 5#3 }
  | .failed x => (s, .failed x)
  | r =>
    if referencedEntry e store = e then (s, r)
    else if s.busOutcome true address = .ok then (s.storeKey address 0xF#4 (referencedEntry e store), r)
    else s.mmuBusFault asi .translation { i with ft := 4#3 }

/-- A translated access (R253): walk, check, update R and M, then the physical access. -/
def State.translate (s : State) (asi : BitVec 8) (fetch store : Bool) (va : Word) : State × Reach :=
  let info (level : Nat) (ft : BitVec 3) : FaultInfo := ⟨0#8, BitVec.ofNat 2 level, accessType asi store, ft, va⟩
  match s.walk s.rootAddress 0 (tableIndexes va) with
  | .busError level => s.mmuBusFault asi .translation (info level 4#3)
  | .stopped e level => s.mmuFault asi (faultClass asi fetch) (info level (stoppedFt e))
  | .pte address e level =>
    if permissionFault (accessType asi store) (entryAcc e) = 0#3 then
      s.accessPage asi (faultClass asi fetch) store address e (info level 0#3)
    else s.mmuFault asi (faultClass asi fetch) (info level (permissionFault (accessType asi store) (entryAcc e)))

/-- A pass-through access (R217): the upper four bits of the physical address are the ASI's. With the MMU enabled an access error
there is FT 5 (R237); no table entry caused it and no access type of R237 fits it, so L and AT are free values (log 20). -/
def State.passThrough (s : State) (asi : BitVec 8) (store : Bool) (va : Word) : State × Reach :=
  match s.reachKey store (asi.extractLsb' 0 4 ++ wordAddress va : BitVec 36).toNat with
  | .failed .accessError =>
    if s.mmu.e then
      s.mmuBusFault asi .data ⟨0#8, Config.freeFaultLevel s.freeCtr, Config.freeFaultAt s.freeCtr, 5#3, va⟩
    else (s, .failed .accessError)
  | r => (s, r)

/-- An access to an address space that ASI_MAP supplies (R139): storage and devices have addresses of their own, so that the byte
at address a of space i is at key (i + 1) * 2^36 + a. -/
def State.otherSpace (s : State) (kind : SpaceKind) (asi : BitVec 8) (store : Bool) (va : Word) : Reach :=
  match kind with
  | .storage => s.reachKey store ((asi.toNat + 1) * 2 ^ 36 + (wordAddress va).toNat)
  | .device => .device ((asi.toNat + 1) * 2 ^ 36 + (wordAddress va).toNat)
  | .physical upper => s.reachKey store (upper ++ wordAddress va : BitVec 36).toNat

/-- The space is one of 8, 9, 0xA, 0xB (R129). -/
def realAsi (asi : BitVec 8) : Bool := asi == 0x08#8 || asi == 0x09#8 || asi == 0x0A#8 || asi == 0x0B#8

/-- Where the word access that holds the byte (asi, va) goes (R130, R132, R139, R216, R217). -/
def State.reach (s : State) (asi : BitVec 8) (fetch store : Bool) (va : Word) : State × Reach :=
  if realAsi asi then
    if s.cfg.hasRefMmu && s.mmu.e then s.translate asi fetch store va else (s, s.reachKey store (wordAddress va).toNat)
  else if s.cfg.hasRefMmu && asi.extractLsb' 4 4 == 2#4 then s.passThrough asi store va
  else match s.cfg.altSpaces.lookup asi with
    | some kind => (s, s.otherSpace kind asi store va)
    | none => (s, .failed .mae)

/-! Registers (R230). -/

/-- The Control Register (R231). -/
def State.mmuControl (s : State) : Word :=
  s.cfg.mmuImpl ++ s.cfg.mmuVer ++ (s.mmu.sc &&& s.cfg.mmuScBits) ++ BitVec.ofBool s.mmu.pso ++ 0#5 ++ BitVec.ofBool s.mmu.nf ++
    BitVec.ofBool s.mmu.e

/-- The Fault Status Register (R237). -/
def State.mmuStatus (s : State) : Word :=
  0#14 ++ (s.mmu.ebe &&& s.cfg.mmuEbeBits) ++ s.mmu.l ++ s.mmu.accType ++ s.mmu.ft ++ BitVec.ofBool s.mmu.fav ++
    BitVec.ofBool s.mmu.ow

/-- The bits of the Context Register an implementation has (R236). -/
def contextMask (c : Config) : Word := BitVec.ofNat 32 (2 ^ c.mmuContextBits.val - 1)

/-- A read of ASI 4 (R230, R237: reading the status clears it; a reserved address, or an access that is not a word, reads 0, U31). That a
read of the status that is not a word leaves it as it was is a DESIGN CHOICE (log 20): R237 says that reading clears it and names no
width, U31 gives the 0 alone. -/
def State.mmuRead (s : State) (va : Word) (isWord : Bool) : State × Word :=
  if isWord then
    match va.extractLsb' 8 24 with
    | 0#24 => (s, s.mmuControl)
    | 1#24 => (s, s.mmu.ctp ++ 0#2)
    | 2#24 => (s, s.mmu.ctx &&& contextMask s.cfg)
    | 3#24 =>
      ({ s with mmu := { s.mmu with ebe := 0#8, l := 0#2, accType := 0#3, ft := 0#3, fav := false, ow := false, cls := none } },
       s.mmuStatus)
    | 4#24 => (s, s.mmu.far)
    | _ => (s, 0#32)
  else (s, 0#32)

/-- A word write of ASI 4 (R231 to R236; the fault registers ignore writes, R237, R239). -/
def State.mmuWrite (s : State) (va data : Word) (isWord : Bool) : State :=
  if isWord then
    match va.extractLsb' 8 24 with
    | 0#24 => { s with mmu := { s.mmu with sc := data.extractLsb' 8 16 &&& s.cfg.mmuScBits, pso := data.getLsbD 7, nf := data.getLsbD 1, e := data.getLsbD 0 } }
    | 1#24 => { s with mmu := { s.mmu with ctp := data.extractLsb' 2 30 } }
    | 2#24 => { s with mmu := { s.mmu with ctx := data &&& contextMask s.cfg } }
    | _ => s
  else s

/-! Probe (R244 to R246). -/

/-- An entry as a probe of its own level answers it (R245): a reserved entry gives 0, and so does a PTD at level 3. Neither is
recorded as a fault (DESIGN CHOICE, log 20: R244 records only what comes before the probed level). -/
def probeEntry (e : Word) (level : Nat) : Word :=
  if entryType e = 3#2 || (level = 3 && entryType e = 1#2) then 0#32 else e

/-- What a probe that walks to `target` finds. -/
inductive Probe where
  | value (w : Word)
  | stopped (entry : Word) (level : Nat)
  | busError (level : Nat)
  deriving DecidableEq, Repr

/-- Probe types 0 to 3 (R245): follow PTDs down `down` levels, then answer the entry. -/
def State.probeDown (s : State) (address level down : Nat) : List Nat → Probe
  | [] =>
    match s.tableWord address with
    | none => .busError level
    | some e => .value (probeEntry e level)
  | i :: rest =>
    match s.tableWord address with
    | none => .busError level
    | some e =>
      if down = 0 then .value (probeEntry e level)
      else if entryType e = 1#2 then s.probeDown ((tableBase e + i * 4) % 2 ^ 36) (level + 1) (down - 1) rest
      else .stopped e level

/-- A probe by its type (R240, R245): 0 page to 3 context look at level 3 to 0; 4 walks as a translation does. -/
def State.probeWalk (s : State) (va : Word) : Probe :=
  match va.extractLsb' 8 4 with
  | 0#4 => s.probeDown s.rootAddress 0 3 (tableIndexes va)
  | 1#4 => s.probeDown s.rootAddress 0 2 (tableIndexes va)
  | 2#4 => s.probeDown s.rootAddress 0 1 (tableIndexes va)
  | 3#4 => s.probeDown s.rootAddress 0 0 (tableIndexes va)
  | 4#4 =>
    match s.walk s.rootAddress 0 (tableIndexes va) with
    | .pte _ e _ => .value e
    | .stopped e level => .stopped e level
    | .busError level => .busError level
  | _ => .value 0#32

/-- FT of an entry that stops a probe above its level (R244, log 20): none is stated for a PTE. -/
def State.probeFt (s : State) (e : Word) : BitVec 3 :=
  if entryType e = 2#2 then Config.freeFaultFt s.freeCtr else stoppedFt e

/-- A load from ASI 3 (R244): an error records a fault and answers 0; no exception is signalled. AT is a free value, and the fault
address register gets the whole composed address, its type bits included; the probe walks and records whether or not the MMU is
enabled (DESIGN CHOICE, log 20). -/
def State.mmuProbe (s : State) (va : Word) : State × Word :=
  let info (level : Nat) (ebe : BitVec 8) (ft : BitVec 3) : FaultInfo :=
    ⟨ebe, BitVec.ofNat 2 level, Config.freeFaultAt s.freeCtr, ft, va⟩
  match s.probeWalk va with
  | .value w => (s, w)
  | .stopped e level => ({ s with mmu := s.mmu.record .data (info level 0#8 (s.probeFt e)) }.drawn, 0#32)
  | .busError level => ({ s with mmu := s.mmu.record .translation (info level s.busErrorBits 4#3) }.drawn, 0#32)

/-- The key of the word at an address, found without any effect: no fault is recorded, no bit of an entry set, no permission
asked; none where nothing is mapped (log 17: how FLUSH and an instruction buffer find a location). -/
def State.locate (s : State) (va : Word) : Option Nat :=
  if s.cfg.hasRefMmu && s.mmu.e then
    match s.walk s.rootAddress 0 (tableIndexes va) with
    | .pte _ e level => some (translated e (wordAddress va) level)
    | _ => none
  else some (wordAddress va).toNat

end Sys2Proof.Machine
end

