-- ==== Sys2Proof/Machine/Bus.lean ====
section
/-! DEFINITION. The memory interface (spec/20_memory.md R126 to R128): memory_read, memory_write, device interfaces (R136),
sub-word placement, the accesses that turn an error into the exception R324 names, and FLUSH's effect (R530). -/

namespace Sys2Proof.Machine

/-- Access widths (R121); a doubleword is two word accesses (R128). -/
inductive AccessSize where
  | byte | half | word | double
  deriving DecidableEq, Repr

/-- The alignment test (R124). -/
def AccessSize.aligned (size : AccessSize) (a : Word) : Bool :=
  match size with
  | .byte => true
  | .half => !a.getLsbD 0
  | .word => a.extractLsb' 0 2 == 0#2
  | .double => a.extractLsb' 0 3 == 0#3

/-- The location of the byte at the address `a`, `k` being its word's: the ISP passes the unmodified byte address (R126). -/
def byteKey (k : Nat) (a : Word) : Nat := k + a.toNat % 4

/-- A word is read from a device interface (R136): the device answers, knowing the address space and the byte addressed (R12, R126), and
the access joins its past. -/
def State.readDevice (s : State) (asi : BitVec 8) (k : Nat) : State × Word :=
  ({ s with io := s.io ++ [⟨asi, k, false, 0xF#4, Config.deviceWord s.io asi k, false⟩] }, Config.deviceWord s.io asi k)

/-- The bytes of the mask are written to a device interface (R136): memory stays, and the access, with its address space and sync (R12,
R127), joins the device's past. -/
def State.writeDevice (s : State) (asi : BitVec 8) (k : Nat) (mask : BitVec 4) (data : Word) : State :=
  { s with io := s.io ++ [⟨asi, k, true, mask, data, s.lastWriteSync⟩] }

/-- memory_read's word (R126): `fetch` is an instruction access, `isWord` a word access (the widths ASI 4 tells apart). A read of
ASI 3 probes whatever its width, and with Control.E = 0 too (DESIGN CHOICE, log 20); a fetch may be answered by an instruction buffer (R181).
A read whose fault NF suppresses answers 0 (R233, U32); that a fetch does so too (ASI 8 with NF = 1), the 0 running as UNIMP, is a
DESIGN CHOICE (log 20): R233 and U32 speak of a load and a store only. -/
def State.memoryRead (s : State) (asi : BitVec 8) (fetch isWord : Bool) (a : Word) : State × Except BusError Word :=
  if s.cfg.hasRefMmu && asi == 0x03#8 then
    let (t, w) := s.mmuProbe a
    (t, .ok w)
  else if s.cfg.hasRefMmu && asi == 0x04#8 then
    let (t, w) := s.mmuRead a isWord
    (t, .ok w)
  else
    match s.reach asi fetch false a with
    | (t, .key k) =>
      if fetch then ((t.fetchedWord k (Memory.readWord t.mem k)).1, .ok (t.fetchedWord k (Memory.readWord t.mem k)).2)
      else (t, .ok (Memory.readWord t.mem k))
    | (t, .device k) => ((t.readDevice asi (byteKey k a)).1, .ok (t.readDevice asi (byteKey k a)).2)
    | (t, .suppressed) => (t, .ok 0#32)
    | (t, .failed e) => (t, .error e)

/-- PSO_mode (R59, R232, R176): the MMU's PSO bit, where the processor has PSO. -/
def State.psoMode (s : State) : Bool := s.cfg.hasRefMmu && s.cfg.hasPso && s.mmu.pso

/-- memory_write (R127): sync is computed and store_barrier_pending cleared, then the bytes of the mask are written unless
the access fails. A write of ASI 3 is a flush whatever its width (DESIGN CHOICE, log 20). -/
def State.memoryWrite (s : State) (asi : BitVec 8) (isWord : Bool) (a : Word) (mask : BitVec 4) (data : Word) :
    State × Option BusError :=
  let s := { s with lastWriteSync := s.storeBarrierPending || !s.psoMode, storeBarrierPending := false }
  if s.cfg.hasRefMmu && asi == 0x03#8 then (s, none)
  else if s.cfg.hasRefMmu && asi == 0x04#8 then (s.mmuWrite a data isWord, none)
  else
    match s.reach asi false true a with
    | (t, .key k) => (t.storeKey k mask data, none)
    | (t, .device k) => (t.writeDevice asi (byteKey k a) mask data, none)
    | (t, .suppressed) => (t, none)
    | (t, .failed e) => (t, some e)

/-! Sub-word placement (R123, R327). -/

/-- Address bits 1:0. -/
def lane (a : Word) : BitVec 2 := a.extractLsb' 0 2

/-- The byte of a word that an address names. -/
def byteLane (w a : Word) : Byte :=
  match lane a with
  | 0#2 => w.extractLsb' 24 8
  | 1#2 => w.extractLsb' 16 8
  | 2#2 => w.extractLsb' 8 8
  | 3#2 => w.extractLsb' 0 8

/-- The halfword of a word that an address names. -/
def halfLane (w a : Word) : BitVec 16 :=
  if a.getLsbD 1 then w.extractLsb' 0 16 else w.extractLsb' 16 16

/-- The value a load of this width delivers from the word read (R327). -/
def loadValue (size : AccessSize) (signed : Bool) (w a : Word) : Word :=
  match size with
  | .byte => if signed then (byteLane w a).signExtend 32 else (byteLane w a).zeroExtend 32
  | .half => if signed then (halfLane w a).signExtend 32 else (halfLane w a).zeroExtend 32
  | .word => w
  | .double => w

/-- The byte mask of a store (R327, R350 to R352). -/
def storeMask (size : AccessSize) (a : Word) : BitVec 4 :=
  match size with
  | .byte =>
    match lane a with
    | 0#2 => 0b1000#4
    | 1#2 => 0b0100#4
    | 2#2 => 0b0010#4
    | 3#2 => 0b0001#4
  | .half => if a.getLsbD 1 then 0b0011#4 else 0b1100#4
  | .word => 0b1111#4
  | .double => 0b1111#4

/-- The word a store drives, its datum in the lane of the address (R128, R327). -/
def storeData (size : AccessSize) (a v : Word) : Word :=
  match size with
  | .byte =>
    match lane a with
    | 0#2 => v <<< 24
    | 1#2 => v <<< 16
    | 2#2 => v <<< 8
    | 3#2 => v
  | .half => if a.getLsbD 1 then v else v <<< 16
  | .word => v
  | .double => v

/-! Exceptions of an access. -/

/-- The exception of a failed data access (R324, R690, R692). -/
def BusError.dataTrap : BusError → Trap
  | .mae => .dataAccessException
  | .accessError => .dataAccessError
  | .mmuMiss => .dataAccessMmuMiss

/-- The exception of a failed fetch (R681, R692, R693). -/
def BusError.fetchTrap : BusError → Trap
  | .mae => .instructionAccessException
  | .accessError => .instructionAccessError
  | .mmuMiss => .instructionAccessMmuMiss

/-- The same on an implementation that does not detect errors of this kind as an exception of their own (R10): MAE's exception
(DESIGN CHOICE, log 18). -/
def State.dataTrap (s : State) (e : BusError) : Trap := if detects s.cfg e.dataTrap then e.dataTrap else .dataAccessException

def State.fetchTrap (s : State) (e : BusError) : Trap :=
  if detects s.cfg e.fetchTrap then e.fetchTrap else .instructionAccessException

/-- Read the word for an access and go on with it, or take the exception (R324). -/
def State.reading (s : State) (asi : BitVec 8) (size : AccessSize) (a : Word) (k : Word → State → State) : State :=
  match s.memoryRead asi false (size == .word) a with
  | (t, .ok w) => k w t
  | (t, .error e) => raise (t.dataTrap e) t

/-- Write for an access and go on, or take the exception (R324). -/
def State.writing (s : State) (asi : BitVec 8) (size : AccessSize) (a v : Word) (k : State → State) : State :=
  match s.memoryWrite asi (size == .word) a (storeMask size a) (storeData size a v) with
  | (t, none) => k t
  | (t, some e) => raise (t.dataTrap e) t

/-- Go on if the address is aligned for the width, else take mem_address_not_aligned (R124). -/
def State.ifAligned (s : State) (size : AccessSize) (a : Word) (k : State → State) : State :=
  if size.aligned a then k s else raise .memAddressNotAligned s

/-- Two word reads, the first delivered before the second is made (R128, R329). -/
def State.readingDouble (s : State) (asi : BitVec 8) (a : Word) (first : Word → State → State)
    (second : Word → State → State) : State :=
  s.reading asi .double a (fun w0 t => (first w0 t).reading asi .double (a + 4#32) second)

/-- Two word writes (R128, R329). Under the MMU each is translated anew, after the one before it: where the first word overwrites a page
table entry that maps the doubleword, the second can fault with the first in memory, or go elsewhere, although R329 says that any MMU
decides MAE per doubleword; R128 makes two accesses (DESIGN CHOICE, log 20). -/
def State.writingDouble (s : State) (asi : BitVec 8) (a v0 v1 : Word) (k : State → State) : State :=
  s.writing asi .double a v0 (fun t => t.writing asi .double (a + 4#32) v1 k)

/-! FLUSH (R530). -/

/-- FLUSH's effect on an instruction buffer (R181, R182): the doubleword's old words are gone once five further instructions have
executed; bits 2:0 of the address are ignored. The count starts at six because FLUSH itself is one. An address that nothing is
mapped at has nothing to flush (log 17). -/
def State.flushAddress (s : State) (a : Word) : State :=
  match s.locate a with
  | some k => { s with ibuf := if s.cfg.hasIbuf then s.ibuf ++ [.flush (k / 8) 6] else s.ibuf }
  | none => s

/-- A FLUSH has one instruction less to wait (R182). -/
def IBufEvent.aged : IBufEvent → IBufEvent
  | .store key old => .store key old
  | .flush double left => .flush double (left - 1)

/-- One more instruction has executed: hazard distances and the waits of FLUSHes shrink (R182, R765, R768). -/
def State.aged (s : State) : State :=
  { s with ibuf := s.ibuf.map IBufEvent.aged, hzFcmp := s.hzFcmp - 1, hzLdfsr := s.hzLdfsr - 1 }

end Sys2Proof.Machine
end

