-- ==== Sys2Proof/Machine/StateReg.lean ====
section
/-! DEFINITION. State registers, STBAR, UNIMP, FLUSH (spec/44_state_registers_misc.md R510 to R532). -/

namespace Sys2Proof.Machine

/-- Index of ancillary state register 16 + k. -/
def asrIndex (n : RegNum) : BitVec 4 := n.extractLsb' 0 4

/-- ASR_PRIVILEGED (R54). -/
def State.asrPrivileged (s : State) (n : RegNum) : Bool := s.cfg.asrPrivileged.getLsbD (asrIndex n).toNat

/-- ASR_IMPLEMENTED (R54). -/
def State.asrImplemented (s : State) (n : RegNum) : Bool := s.cfg.asrImplemented.getLsbD (asrIndex n).toNat

/-- Go on in supervisor mode, else take privileged_instruction (R510, R682). -/
def State.supervisor (s : State) (k : State) : State := if s.psr.s then k else raise .privilegedInstruction s

/-- The checks of an access to ASR 16 to 31 (R512, R518), then go on. -/
def State.accessAsr (s : State) (n : RegNum) (k : State) : State :=
  if s.asrPrivileged n && !s.psr.s then raise .privilegedInstruction s
  else if s.asrImplemented n then k
  else raise .illegalInstruction s

/-- A read of a state register (R510). -/
def readState (value : Word) (rd : RegNum) (s : State) : State := (s.setReg rd value).advance

/-- RDASR (R512): a reserved register gives a free value (U42, log 9). -/
def readAsr (rd rs1 : RegNum) (s : State) : State :=
  if rs1.getLsbD 4 then
    s.accessAsr rs1 (readState (s.asr[(asrIndex rs1).toNat]'(asrIndex rs1).isLt) rd s)
  else (readState (Config.freeAsrWord s.freeCtr) rd s).drawn

/-- What a write state register instruction writes (R516). -/
def State.writeValue (s : State) (rs1 : RegNum) (op2 : Operand2) : Word := s.reg rs1 ^^^ s.operand2 op2

/-- WRASR (R518): a reserved register changes nothing (U43, log 9). -/
def writeAsr (rd rs1 : RegNum) (op2 : Operand2) (s : State) : State :=
  if rd.getLsbD 4 then s.accessAsr rd (s.enqueue (.asr (asrIndex rd) (s.writeValue rs1 op2))).advance
  else s.advance

/-- The fields a WRPSR writes late (R520): EC and EF only where the unit is present (R38). -/
def psrWrite (c : Config) (w : Word) : PsrWrite where
  icc := Icc.ofBits (w.extractLsb' 20 4)
  ec := w.getLsbD 13 && c.hasCp
  ef := w.getLsbD 12 && c.hasFpu
  s := w.getLsbD 7
  ps := w.getLsbD 6
  cwp := w.extractLsb' 0 5

/-- WRPSR's immediate part (R47, R520): ET and PIL. -/
def State.setEtPil (s : State) (w : Word) : State :=
  { s with psr := { s.psr with et := w.getLsbD 5, pil := w.extractLsb' 8 4 } }

/-- WRPSR (R520). -/
def writePsr (rs1 : RegNum) (op2 : Operand2) (s : State) : State :=
  s.supervisor
    (if s.cfg.nwindows ≤ ((s.writeValue rs1 op2).extractLsb' 0 5).toNat then raise .illegalInstruction s
     else ((s.setEtPil (s.writeValue rs1 op2)).enqueue (.psr (psrWrite s.cfg (s.writeValue rs1 op2)))).advance)

/-- STBAR's effect (R526). -/
def State.setBarrier (s : State) : State := { s with storeBarrierPending := true }

/-- FLUSH (R530, R532). -/
def flush (a : Word) (s : State) : State :=
  match s.cfg.flushBehaviour with
  | .implemented => (s.flushAddress a).advance
  | .unimplementedFlushTrap => raise .unimplementedFlush s
  | .illegalInstructionTrap => raise .illegalInstruction s

/-- UNIMP (R528). -/
def execUnimp (_const22 : BitVec 22) (s : State) : Answer :=
  .next (raise .illegalInstruction s)

/-- RDY (R511). -/
def execRdy (rd : RegNum) (s : State) : Answer :=
  .next (readState s.y rd s)

/-- RDASR (R512). -/
def execRdasr (rd rs1 : RegNum) (s : State) : Answer :=
  .next (readAsr rd rs1 s)

/-- RDPSR (R513). -/
def execRdpsr (rd : RegNum) (s : State) : Answer :=
  .next (s.supervisor (readState s.psrWord rd s))

/-- RDWIM (R514). -/
def execRdwim (rd : RegNum) (s : State) : Answer :=
  .next (s.supervisor (readState s.wimWord rd s))

/-- RDTBR (R515). -/
def execRdtbr (rd : RegNum) (s : State) : Answer :=
  .next (s.supervisor (readState s.tbrWord rd s))

/-- WRY (R517). -/
def execWry (rs1 : RegNum) (op2 : Operand2) (s : State) : Answer :=
  .next (s.enqueue (.y (s.writeValue rs1 op2))).advance

/-- WRASR (R518). -/
def execWrasr (rd rs1 : RegNum) (op2 : Operand2) (s : State) : Answer :=
  .next (writeAsr rd rs1 op2 s)

/-- WRPSR (R520). -/
def execWrpsr (rs1 : RegNum) (op2 : Operand2) (s : State) : Answer :=
  .next (writePsr rs1 op2 s)

/-- WRWIM (R521). -/
def execWrwim (rs1 : RegNum) (op2 : Operand2) (s : State) : Answer :=
  .next (s.supervisor (s.enqueue (.wim (s.writeValue rs1 op2 &&& wimMask s.cfg))).advance)

/-- WRTBR (R522). -/
def execWrtbr (rs1 : RegNum) (op2 : Operand2) (s : State) : Answer :=
  .next (s.supervisor (s.enqueue (.tba ((s.writeValue rs1 op2).extractLsb' 12 20))).advance)

/-- STBAR (R526). -/
def execStbar (s : State) : Answer :=
  .next s.setBarrier.advance

/-- FLUSH (R530). -/
def execFlush (rs1 : RegNum) (op2 : Operand2) (s : State) : Answer :=
  .next (flush (s.address rs1 op2) s)

end Sys2Proof.Machine
end

