-- ==== Sys2Proof/Machine/Classify.lean ====
section
/-! DEFINITION. Which instructions are privileged, which read an r register, which are FPops or CPops: what the execution
loop asks before it dispatches one (spec/60_exceptions.md R680, R682, R683; spec/30_encoding.md R283). -/

namespace Sys2Proof.Machine

/-- The instruction is privileged (R682); RDASR and WRASR are as ASR_PRIVILEGED says (R54). -/
def isPrivileged (s : State) : Instr → Bool
  | .ldsb _ _ _ => false
  | .ldsh _ _ _ => false
  | .ldub _ _ _ => false
  | .lduh _ _ _ => false
  | .ld _ _ _ => false
  | .ldd _ _ _ => false
  | .ldsba _ _ _ => true
  | .ldsha _ _ _ => true
  | .lduba _ _ _ => true
  | .lduha _ _ _ => true
  | .lda _ _ _ => true
  | .ldda _ _ _ => true
  | .ldf _ _ _ => false
  | .lddf _ _ _ => false
  | .ldfsr _ _ => false
  | .ldc _ _ _ => false
  | .lddc _ _ _ => false
  | .ldcsr _ _ => false
  | .stb _ _ _ => false
  | .sth _ _ _ => false
  | .st _ _ _ => false
  | .std _ _ _ => false
  | .stba _ _ _ => true
  | .stha _ _ _ => true
  | .sta _ _ _ => true
  | .stda _ _ _ => true
  | .stf _ _ _ => false
  | .stdf _ _ _ => false
  | .stfsr _ _ => false
  | .stdfq _ _ => true
  | .stc _ _ _ => false
  | .stdc _ _ _ => false
  | .stcsr _ _ => false
  | .stdcq _ _ => true
  | .ldstub _ _ _ => false
  | .ldstuba _ _ _ => true
  | .swap _ _ _ => false
  | .swapa _ _ _ => true
  | .sethi _ _ => false
  | .nop => false
  | .unimp _ => false
  | .and _ _ _ => false
  | .andcc _ _ _ => false
  | .andn _ _ _ => false
  | .andncc _ _ _ => false
  | .or _ _ _ => false
  | .orcc _ _ _ => false
  | .orn _ _ _ => false
  | .orncc _ _ _ => false
  | .xor _ _ _ => false
  | .xorcc _ _ _ => false
  | .xnor _ _ _ => false
  | .xnorcc _ _ _ => false
  | .sll _ _ _ => false
  | .srl _ _ _ => false
  | .sra _ _ _ => false
  | .add _ _ _ => false
  | .addcc _ _ _ => false
  | .addx _ _ _ => false
  | .addxcc _ _ _ => false
  | .taddcc _ _ _ => false
  | .taddcctv _ _ _ => false
  | .sub _ _ _ => false
  | .subcc _ _ _ => false
  | .subx _ _ _ => false
  | .subxcc _ _ _ => false
  | .tsubcc _ _ _ => false
  | .tsubcctv _ _ _ => false
  | .mulscc _ _ _ => false
  | .umul _ _ _ => false
  | .smul _ _ _ => false
  | .umulcc _ _ _ => false
  | .smulcc _ _ _ => false
  | .udiv _ _ _ => false
  | .sdiv _ _ _ => false
  | .udivcc _ _ _ => false
  | .sdivcc _ _ _ => false
  | .save _ _ _ => false
  | .restore _ _ _ => false
  | .bn _ _ => false
  | .be _ _ => false
  | .ble _ _ => false
  | .bl _ _ => false
  | .bleu _ _ => false
  | .bcs _ _ => false
  | .bneg _ _ => false
  | .bvs _ _ => false
  | .ba _ _ => false
  | .bne _ _ => false
  | .bg _ _ => false
  | .bge _ _ => false
  | .bgu _ _ => false
  | .bcc _ _ => false
  | .bpos _ _ => false
  | .bvc _ _ => false
  | .fbn _ _ => false
  | .fbne _ _ => false
  | .fblg _ _ => false
  | .fbul _ _ => false
  | .fbl _ _ => false
  | .fbug _ _ => false
  | .fbg _ _ => false
  | .fbu _ _ => false
  | .fba _ _ => false
  | .fbe _ _ => false
  | .fbue _ _ => false
  | .fbge _ _ => false
  | .fbuge _ _ => false
  | .fble _ _ => false
  | .fbule _ _ => false
  | .fbo _ _ => false
  | .cbn _ _ => false
  | .cb123 _ _ => false
  | .cb12 _ _ => false
  | .cb13 _ _ => false
  | .cb1 _ _ => false
  | .cb23 _ _ => false
  | .cb2 _ _ => false
  | .cb3 _ _ => false
  | .cba _ _ => false
  | .cb0 _ _ => false
  | .cb03 _ _ => false
  | .cb02 _ _ => false
  | .cb023 _ _ => false
  | .cb01 _ _ => false
  | .cb013 _ _ => false
  | .cb012 _ _ => false
  | .call _ => false
  | .jmpl _ _ _ => false
  | .rett _ _ => true
  | .tn _ _ => false
  | .te _ _ => false
  | .tle _ _ => false
  | .tl _ _ => false
  | .tleu _ _ => false
  | .tcs _ _ => false
  | .tneg _ _ => false
  | .tvs _ _ => false
  | .ta _ _ => false
  | .tne _ _ => false
  | .tg _ _ => false
  | .tge _ _ => false
  | .tgu _ _ => false
  | .tcc _ _ => false
  | .tpos _ _ => false
  | .tvc _ _ => false
  | .stbar => false
  | .rdy _ => false
  | .rdasr _ rs1 => rs1.getLsbD 4 && s.asrPrivileged rs1
  | .rdpsr _ => true
  | .rdwim _ => true
  | .rdtbr _ => true
  | .wry _ _ => false
  | .wrasr rd _ _ => rd.getLsbD 4 && s.asrPrivileged rd
  | .wrpsr _ _ => true
  | .wrwim _ _ => true
  | .wrtbr _ _ => true
  | .flush _ _ => false
  | .fitos _ _ => false
  | .fitod _ _ => false
  | .fitoq _ _ => false
  | .fstoi _ _ => false
  | .fdtoi _ _ => false
  | .fqtoi _ _ => false
  | .fstod _ _ => false
  | .fstoq _ _ => false
  | .fdtos _ _ => false
  | .fdtoq _ _ => false
  | .fqtos _ _ => false
  | .fqtod _ _ => false
  | .fmovs _ _ => false
  | .fnegs _ _ => false
  | .fabss _ _ => false
  | .fsqrts _ _ => false
  | .fsqrtd _ _ => false
  | .fsqrtq _ _ => false
  | .fadds _ _ _ => false
  | .faddd _ _ _ => false
  | .faddq _ _ _ => false
  | .fsubs _ _ _ => false
  | .fsubd _ _ _ => false
  | .fsubq _ _ _ => false
  | .fmuls _ _ _ => false
  | .fmuld _ _ _ => false
  | .fmulq _ _ _ => false
  | .fsmuld _ _ _ => false
  | .fdmulq _ _ _ => false
  | .fdivs _ _ _ => false
  | .fdivd _ _ _ => false
  | .fdivq _ _ _ => false
  | .fcmps _ _ => false
  | .fcmpd _ _ => false
  | .fcmpq _ _ => false
  | .fcmpes _ _ => false
  | .fcmped _ _ => false
  | .fcmpeq _ _ => false
  | .fpop1Unassigned _ _ _ _ => false
  | .fpop2Unassigned _ _ _ _ => false
  | .cpop1 _ _ _ _ => false
  | .cpop2 _ _ _ _ => false

/-- The instruction reads an r register: an address, an integer operand, or the datum of an integer store (R680). -/
def readsRegister : Instr → Bool
  | .ldsb _ _ _ => true
  | .ldsh _ _ _ => true
  | .ldub _ _ _ => true
  | .lduh _ _ _ => true
  | .ld _ _ _ => true
  | .ldd _ _ _ => true
  | .ldsba _ _ _ => true
  | .ldsha _ _ _ => true
  | .lduba _ _ _ => true
  | .lduha _ _ _ => true
  | .lda _ _ _ => true
  | .ldda _ _ _ => true
  | .ldf _ _ _ => true
  | .lddf _ _ _ => true
  | .ldfsr _ _ => true
  | .ldc _ _ _ => true
  | .lddc _ _ _ => true
  | .ldcsr _ _ => true
  | .stb _ _ _ => true
  | .sth _ _ _ => true
  | .st _ _ _ => true
  | .std _ _ _ => true
  | .stba _ _ _ => true
  | .stha _ _ _ => true
  | .sta _ _ _ => true
  | .stda _ _ _ => true
  | .stf _ _ _ => true
  | .stdf _ _ _ => true
  | .stfsr _ _ => true
  | .stdfq _ _ => true
  | .stc _ _ _ => true
  | .stdc _ _ _ => true
  | .stcsr _ _ => true
  | .stdcq _ _ => true
  | .ldstub _ _ _ => true
  | .ldstuba _ _ _ => true
  | .swap _ _ _ => true
  | .swapa _ _ _ => true
  | .sethi _ _ => false
  | .nop => false
  | .unimp _ => false
  | .and _ _ _ => true
  | .andcc _ _ _ => true
  | .andn _ _ _ => true
  | .andncc _ _ _ => true
  | .or _ _ _ => true
  | .orcc _ _ _ => true
  | .orn _ _ _ => true
  | .orncc _ _ _ => true
  | .xor _ _ _ => true
  | .xorcc _ _ _ => true
  | .xnor _ _ _ => true
  | .xnorcc _ _ _ => true
  | .sll _ _ _ => true
  | .srl _ _ _ => true
  | .sra _ _ _ => true
  | .add _ _ _ => true
  | .addcc _ _ _ => true
  | .addx _ _ _ => true
  | .addxcc _ _ _ => true
  | .taddcc _ _ _ => true
  | .taddcctv _ _ _ => true
  | .sub _ _ _ => true
  | .subcc _ _ _ => true
  | .subx _ _ _ => true
  | .subxcc _ _ _ => true
  | .tsubcc _ _ _ => true
  | .tsubcctv _ _ _ => true
  | .mulscc _ _ _ => true
  | .umul _ _ _ => true
  | .smul _ _ _ => true
  | .umulcc _ _ _ => true
  | .smulcc _ _ _ => true
  | .udiv _ _ _ => true
  | .sdiv _ _ _ => true
  | .udivcc _ _ _ => true
  | .sdivcc _ _ _ => true
  | .save _ _ _ => true
  | .restore _ _ _ => true
  | .bn _ _ => false
  | .be _ _ => false
  | .ble _ _ => false
  | .bl _ _ => false
  | .bleu _ _ => false
  | .bcs _ _ => false
  | .bneg _ _ => false
  | .bvs _ _ => false
  | .ba _ _ => false
  | .bne _ _ => false
  | .bg _ _ => false
  | .bge _ _ => false
  | .bgu _ _ => false
  | .bcc _ _ => false
  | .bpos _ _ => false
  | .bvc _ _ => false
  | .fbn _ _ => false
  | .fbne _ _ => false
  | .fblg _ _ => false
  | .fbul _ _ => false
  | .fbl _ _ => false
  | .fbug _ _ => false
  | .fbg _ _ => false
  | .fbu _ _ => false
  | .fba _ _ => false
  | .fbe _ _ => false
  | .fbue _ _ => false
  | .fbge _ _ => false
  | .fbuge _ _ => false
  | .fble _ _ => false
  | .fbule _ _ => false
  | .fbo _ _ => false
  | .cbn _ _ => false
  | .cb123 _ _ => false
  | .cb12 _ _ => false
  | .cb13 _ _ => false
  | .cb1 _ _ => false
  | .cb23 _ _ => false
  | .cb2 _ _ => false
  | .cb3 _ _ => false
  | .cba _ _ => false
  | .cb0 _ _ => false
  | .cb03 _ _ => false
  | .cb02 _ _ => false
  | .cb023 _ _ => false
  | .cb01 _ _ => false
  | .cb013 _ _ => false
  | .cb012 _ _ => false
  | .call _ => false
  | .jmpl _ _ _ => true
  | .rett _ _ => true
  | .tn _ _ => true
  | .te _ _ => true
  | .tle _ _ => true
  | .tl _ _ => true
  | .tleu _ _ => true
  | .tcs _ _ => true
  | .tneg _ _ => true
  | .tvs _ _ => true
  | .ta _ _ => true
  | .tne _ _ => true
  | .tg _ _ => true
  | .tge _ _ => true
  | .tgu _ _ => true
  | .tcc _ _ => true
  | .tpos _ _ => true
  | .tvc _ _ => true
  | .stbar => false
  | .rdy _ => false
  | .rdasr _ _ => false
  | .rdpsr _ => false
  | .rdwim _ => false
  | .rdtbr _ => false
  | .wry _ _ => true
  | .wrasr _ _ _ => true
  | .wrpsr _ _ => true
  | .wrwim _ _ => true
  | .wrtbr _ _ => true
  | .flush _ _ => true
  | .fitos _ _ => false
  | .fitod _ _ => false
  | .fitoq _ _ => false
  | .fstoi _ _ => false
  | .fdtoi _ _ => false
  | .fqtoi _ _ => false
  | .fstod _ _ => false
  | .fstoq _ _ => false
  | .fdtos _ _ => false
  | .fdtoq _ _ => false
  | .fqtos _ _ => false
  | .fqtod _ _ => false
  | .fmovs _ _ => false
  | .fnegs _ _ => false
  | .fabss _ _ => false
  | .fsqrts _ _ => false
  | .fsqrtd _ _ => false
  | .fsqrtq _ _ => false
  | .fadds _ _ _ => false
  | .faddd _ _ _ => false
  | .faddq _ _ _ => false
  | .fsubs _ _ _ => false
  | .fsubd _ _ _ => false
  | .fsubq _ _ _ => false
  | .fmuls _ _ _ => false
  | .fmuld _ _ _ => false
  | .fmulq _ _ _ => false
  | .fsmuld _ _ _ => false
  | .fdmulq _ _ _ => false
  | .fdivs _ _ _ => false
  | .fdivd _ _ _ => false
  | .fdivq _ _ _ => false
  | .fcmps _ _ => false
  | .fcmpd _ _ => false
  | .fcmpq _ _ => false
  | .fcmpes _ _ => false
  | .fcmped _ _ => false
  | .fcmpeq _ _ => false
  | .fpop1Unassigned _ _ _ _ => false
  | .fpop2Unassigned _ _ _ _ => false
  | .cpop1 _ _ _ _ => false
  | .cpop2 _ _ _ _ => false

/-- FPop1, FPop2, CPop1 or CPop2: an unimplemented one is reported by its unit, not as illegal_instruction (R683). -/
def isOperate : Instr → Bool
  | .ldsb _ _ _ => false
  | .ldsh _ _ _ => false
  | .ldub _ _ _ => false
  | .lduh _ _ _ => false
  | .ld _ _ _ => false
  | .ldd _ _ _ => false
  | .ldsba _ _ _ => false
  | .ldsha _ _ _ => false
  | .lduba _ _ _ => false
  | .lduha _ _ _ => false
  | .lda _ _ _ => false
  | .ldda _ _ _ => false
  | .ldf _ _ _ => false
  | .lddf _ _ _ => false
  | .ldfsr _ _ => false
  | .ldc _ _ _ => false
  | .lddc _ _ _ => false
  | .ldcsr _ _ => false
  | .stb _ _ _ => false
  | .sth _ _ _ => false
  | .st _ _ _ => false
  | .std _ _ _ => false
  | .stba _ _ _ => false
  | .stha _ _ _ => false
  | .sta _ _ _ => false
  | .stda _ _ _ => false
  | .stf _ _ _ => false
  | .stdf _ _ _ => false
  | .stfsr _ _ => false
  | .stdfq _ _ => false
  | .stc _ _ _ => false
  | .stdc _ _ _ => false
  | .stcsr _ _ => false
  | .stdcq _ _ => false
  | .ldstub _ _ _ => false
  | .ldstuba _ _ _ => false
  | .swap _ _ _ => false
  | .swapa _ _ _ => false
  | .sethi _ _ => false
  | .nop => false
  | .unimp _ => false
  | .and _ _ _ => false
  | .andcc _ _ _ => false
  | .andn _ _ _ => false
  | .andncc _ _ _ => false
  | .or _ _ _ => false
  | .orcc _ _ _ => false
  | .orn _ _ _ => false
  | .orncc _ _ _ => false
  | .xor _ _ _ => false
  | .xorcc _ _ _ => false
  | .xnor _ _ _ => false
  | .xnorcc _ _ _ => false
  | .sll _ _ _ => false
  | .srl _ _ _ => false
  | .sra _ _ _ => false
  | .add _ _ _ => false
  | .addcc _ _ _ => false
  | .addx _ _ _ => false
  | .addxcc _ _ _ => false
  | .taddcc _ _ _ => false
  | .taddcctv _ _ _ => false
  | .sub _ _ _ => false
  | .subcc _ _ _ => false
  | .subx _ _ _ => false
  | .subxcc _ _ _ => false
  | .tsubcc _ _ _ => false
  | .tsubcctv _ _ _ => false
  | .mulscc _ _ _ => false
  | .umul _ _ _ => false
  | .smul _ _ _ => false
  | .umulcc _ _ _ => false
  | .smulcc _ _ _ => false
  | .udiv _ _ _ => false
  | .sdiv _ _ _ => false
  | .udivcc _ _ _ => false
  | .sdivcc _ _ _ => false
  | .save _ _ _ => false
  | .restore _ _ _ => false
  | .bn _ _ => false
  | .be _ _ => false
  | .ble _ _ => false
  | .bl _ _ => false
  | .bleu _ _ => false
  | .bcs _ _ => false
  | .bneg _ _ => false
  | .bvs _ _ => false
  | .ba _ _ => false
  | .bne _ _ => false
  | .bg _ _ => false
  | .bge _ _ => false
  | .bgu _ _ => false
  | .bcc _ _ => false
  | .bpos _ _ => false
  | .bvc _ _ => false
  | .fbn _ _ => false
  | .fbne _ _ => false
  | .fblg _ _ => false
  | .fbul _ _ => false
  | .fbl _ _ => false
  | .fbug _ _ => false
  | .fbg _ _ => false
  | .fbu _ _ => false
  | .fba _ _ => false
  | .fbe _ _ => false
  | .fbue _ _ => false
  | .fbge _ _ => false
  | .fbuge _ _ => false
  | .fble _ _ => false
  | .fbule _ _ => false
  | .fbo _ _ => false
  | .cbn _ _ => false
  | .cb123 _ _ => false
  | .cb12 _ _ => false
  | .cb13 _ _ => false
  | .cb1 _ _ => false
  | .cb23 _ _ => false
  | .cb2 _ _ => false
  | .cb3 _ _ => false
  | .cba _ _ => false
  | .cb0 _ _ => false
  | .cb03 _ _ => false
  | .cb02 _ _ => false
  | .cb023 _ _ => false
  | .cb01 _ _ => false
  | .cb013 _ _ => false
  | .cb012 _ _ => false
  | .call _ => false
  | .jmpl _ _ _ => false
  | .rett _ _ => false
  | .tn _ _ => false
  | .te _ _ => false
  | .tle _ _ => false
  | .tl _ _ => false
  | .tleu _ _ => false
  | .tcs _ _ => false
  | .tneg _ _ => false
  | .tvs _ _ => false
  | .ta _ _ => false
  | .tne _ _ => false
  | .tg _ _ => false
  | .tge _ _ => false
  | .tgu _ _ => false
  | .tcc _ _ => false
  | .tpos _ _ => false
  | .tvc _ _ => false
  | .stbar => false
  | .rdy _ => false
  | .rdasr _ _ => false
  | .rdpsr _ => false
  | .rdwim _ => false
  | .rdtbr _ => false
  | .wry _ _ => false
  | .wrasr _ _ _ => false
  | .wrpsr _ _ => false
  | .wrwim _ _ => false
  | .wrtbr _ _ => false
  | .flush _ _ => false
  | .fitos _ _ => true
  | .fitod _ _ => true
  | .fitoq _ _ => true
  | .fstoi _ _ => true
  | .fdtoi _ _ => true
  | .fqtoi _ _ => true
  | .fstod _ _ => true
  | .fstoq _ _ => true
  | .fdtos _ _ => true
  | .fdtoq _ _ => true
  | .fqtos _ _ => true
  | .fqtod _ _ => true
  | .fmovs _ _ => true
  | .fnegs _ _ => true
  | .fabss _ _ => true
  | .fsqrts _ _ => true
  | .fsqrtd _ _ => true
  | .fsqrtq _ _ => true
  | .fadds _ _ _ => true
  | .faddd _ _ _ => true
  | .faddq _ _ _ => true
  | .fsubs _ _ _ => true
  | .fsubd _ _ _ => true
  | .fsubq _ _ _ => true
  | .fmuls _ _ _ => true
  | .fmuld _ _ _ => true
  | .fmulq _ _ _ => true
  | .fsmuld _ _ _ => true
  | .fdmulq _ _ _ => true
  | .fdivs _ _ _ => true
  | .fdivd _ _ _ => true
  | .fdivq _ _ _ => true
  | .fcmps _ _ => true
  | .fcmpd _ _ => true
  | .fcmpq _ _ => true
  | .fcmpes _ _ => true
  | .fcmped _ _ => true
  | .fcmpeq _ _ => true
  | .fpop1Unassigned _ _ _ _ => true
  | .fpop2Unassigned _ _ _ _ => true
  | .cpop1 _ _ _ _ => true
  | .cpop2 _ _ _ _ => true

/-- The instruction is in UNIMPL_SET and the execution loop traps on it (R283). -/
def isUnimplemented (c : Config) (i : Instr) : Bool := c.unimplSet.contains i.mnemonic && !isOperate i

end Sys2Proof.Machine
end

