-- ==== Sys2Proof/Machine/Flags.lean ====
section
/-! DEFINITION. Condition codes: what each cc instruction writes (spec/41_logical_shift_sethi.md R391,
spec/42_arithmetic.md R421, R422, R429, R437, R442) and what each condition tests (spec/43_control_transfer.md R474, R476,
R478). -/

namespace Sys2Proof.Machine

/-- icc of a logical result, and of a multiply's low word (R391, R437). -/
def iccLogic (result : Word) : Icc := ⟨result.msb, result == 0#32, false, false⟩

/-- Arithmetic overflow of an addition (R421). -/
def addOverflow (a b result : Word) : Bool := (a.msb && b.msb && !result.msb) || (!a.msb && !b.msb && result.msb)

/-- Carry out of an addition (R421). -/
def addCarry (a b result : Word) : Bool := (a.msb && b.msb) || (!result.msb && (a.msb || b.msb))

/-- Arithmetic overflow of a subtraction (R422). -/
def subOverflow (a b result : Word) : Bool := (a.msb && !b.msb && !result.msb) || (!a.msb && b.msb && result.msb)

/-- Borrow of a subtraction (R422). -/
def subBorrow (a b result : Word) : Bool := (!a.msb && b.msb) || (result.msb && (!a.msb || b.msb))

/-- icc of an addition (R421). -/
def iccAdd (a b result : Word) : Icc := ⟨result.msb, result == 0#32, addOverflow a b result, addCarry a b result⟩

/-- icc of a subtraction (R422). -/
def iccSub (a b result : Word) : Icc := ⟨result.msb, result == 0#32, subOverflow a b result, subBorrow a b result⟩

/-- An operand has a nonzero tag (R429). -/
def tagged (a b : Word) : Bool := a.extractLsb' 0 2 != 0#2 || b.extractLsb' 0 2 != 0#2

/-- temp_v of a tagged addition (R429). -/
def tagAddOverflow (a b : Word) : Bool := addOverflow a b (a + b) || tagged a b

/-- temp_v of a tagged subtraction (R429). -/
def tagSubOverflow (a b : Word) : Bool := subOverflow a b (a - b) || tagged a b

/-- icc of a divide: N and Z of the quotient returned, V the overflow, C zero (R442). -/
def iccDiv (result : Word) (overflow : Bool) : Icc := ⟨result.msb, result == 0#32, overflow, false⟩

/-- The condition codes become `i`. -/
def State.setIcc (s : State) (i : Icc) : State := { s with psr := { s.psr with icc := i } }

/-- The C bit as a word, for the extended operations (R425, R432). -/
def State.carryWord (s : State) : Word := if s.psr.icc.c then 1#32 else 0#32

/-- eval_icc (R474): cond bit 3 inverts the test of bits 2:0. -/
def evalIcc (cond : BitVec 4) (i : Icc) : Bool :=
  let base := match cond.extractLsb' 0 3 with
    | 0#3 => false
    | 1#3 => i.z
    | 2#3 => i.z || (i.n ^^ i.v)
    | 3#3 => i.n ^^ i.v
    | 4#3 => i.c || i.z
    | 5#3 => i.c
    | 6#3 => i.n
    | _ => i.v -- 7#3, the one value left
  base ^^ cond.getLsbD 3

/-- eval_fcc (R476); fcc 0 is E, 1 is L, 2 is G, 3 is U. -/
def evalFcc (cond : BitVec 4) (fcc : BitVec 2) : Bool :=
  let e := fcc == 0#2
  let l := fcc == 1#2
  let g := fcc == 2#2
  let u := fcc == 3#2
  match cond with
  | 0x0#4 => false
  | 0x1#4 => l || g || u
  | 0x2#4 => l || g
  | 0x3#4 => l || u
  | 0x4#4 => l
  | 0x5#4 => g || u
  | 0x6#4 => g
  | 0x7#4 => u
  | 0x8#4 => true
  | 0x9#4 => e
  | 0xA#4 => e || u
  | 0xB#4 => e || g
  | 0xC#4 => e || g || u
  | 0xD#4 => e || l
  | 0xE#4 => e || l || u
  | _ => e || l || g -- 0xF#4, the one value left

/-- eval_bp_CP_cc (R478). -/
def evalCp (cond : BitVec 4) (cc : BitVec 2) : Bool :=
  let c0 := cc == 0#2
  let c1 := cc == 1#2
  let c2 := cc == 2#2
  let c3 := cc == 3#2
  match cond with
  | 0x0#4 => false
  | 0x1#4 => c1 || c2 || c3
  | 0x2#4 => c1 || c2
  | 0x3#4 => c1 || c3
  | 0x4#4 => c1
  | 0x5#4 => c2 || c3
  | 0x6#4 => c2
  | 0x7#4 => c3
  | 0x8#4 => true
  | 0x9#4 => c0
  | 0xA#4 => c0 || c3
  | 0xB#4 => c0 || c2
  | 0xC#4 => c0 || c2 || c3
  | 0xD#4 => c0 || c1
  | 0xE#4 => c0 || c1 || c3
  | _ => c0 || c1 || c2 -- 0xF#4, the one value left

end Sys2Proof.Machine
end

