-- ==== Sys2Proof/Machine/Arithmetic.lean ====
section
/-! DEFINITION. Add, subtract, tagged arithmetic, multiply, divide, SAVE and RESTORE (spec/42_arithmetic.md R420 to R449). -/

namespace Sys2Proof.Machine

/-- An arithmetic instruction that writes no condition codes (R420). -/
def arith (f : Word → Word → Word) (rd rs1 : RegNum) (op2 : Operand2) (s : State) : State :=
  (s.setReg rd (f (s.reg rs1) (s.operand2 op2))).advance

/-- An arithmetic instruction that writes icc: `icc a b result` (R421, R422, R429). -/
def arithCc (f : Word → Word → Word) (icc : Word → Word → Word → Icc) (rd rs1 : RegNum) (op2 : Operand2) (s : State) :
    State :=
  ((s.setReg rd (f (s.reg rs1) (s.operand2 op2))).setIcc
    (icc (s.reg rs1) (s.operand2 op2) (f (s.reg rs1) (s.operand2 op2)))).advance

/-- A tagged instruction that traps on tag overflow, writing nothing (R428, R435). -/
def arithTrap (f : Word → Word → Word) (icc : Word → Word → Word → Icc) (overflow : Word → Word → Bool)
    (rd rs1 : RegNum) (op2 : Operand2) (s : State) : State :=
  if overflow (s.reg rs1) (s.operand2 op2) then raise .tagOverflow s else arithCc f icc rd rs1 op2 s

/-- icc of TADDcc (R427) and of a TADDccTV that does not trap (R428). -/
def iccTagAdd (a b result : Word) : Icc := { iccAdd a b result with v := tagAddOverflow a b }

/-- icc of TSUBcc (R434) and of a TSUBccTV that does not trap (R435). -/
def iccTagSub (a b result : Word) : Icc := { iccSub a b result with v := tagSubOverflow a b }

/-- ADD (R423). -/
def execAdd (rd rs1 : RegNum) (op2 : Operand2) (s : State) : Answer :=
  .next (arith (fun a b => a + b) rd rs1 op2 s)

/-- ADDcc (R424). -/
def execAddcc (rd rs1 : RegNum) (op2 : Operand2) (s : State) : Answer :=
  .next (arithCc (fun a b => a + b) iccAdd rd rs1 op2 s)

/-- ADDX, add with carry (R425). -/
def execAddx (rd rs1 : RegNum) (op2 : Operand2) (s : State) : Answer :=
  .next (arith (fun a b => a + b + s.carryWord) rd rs1 op2 s)

/-- ADDXcc, add with carry and modify icc (R426). -/
def execAddxcc (rd rs1 : RegNum) (op2 : Operand2) (s : State) : Answer :=
  .next (arithCc (fun a b => a + b + s.carryWord) iccAdd rd rs1 op2 s)

/-- TADDcc, tagged add (R427). -/
def execTaddcc (rd rs1 : RegNum) (op2 : Operand2) (s : State) : Answer :=
  .next (arithCc (fun a b => a + b) iccTagAdd rd rs1 op2 s)

/-- TADDccTV, tagged add and trap on overflow (R428). -/
def execTaddcctv (rd rs1 : RegNum) (op2 : Operand2) (s : State) : Answer :=
  .next (arithTrap (fun a b => a + b) iccTagAdd tagAddOverflow rd rs1 op2 s)

/-- SUB (R430). -/
def execSub (rd rs1 : RegNum) (op2 : Operand2) (s : State) : Answer :=
  .next (arith (fun a b => a - b) rd rs1 op2 s)

/-- SUBcc (R431). -/
def execSubcc (rd rs1 : RegNum) (op2 : Operand2) (s : State) : Answer :=
  .next (arithCc (fun a b => a - b) iccSub rd rs1 op2 s)

/-- SUBX, subtract with carry (R432). -/
def execSubx (rd rs1 : RegNum) (op2 : Operand2) (s : State) : Answer :=
  .next (arith (fun a b => a - b - s.carryWord) rd rs1 op2 s)

/-- SUBXcc, subtract with carry and modify icc (R433). -/
def execSubxcc (rd rs1 : RegNum) (op2 : Operand2) (s : State) : Answer :=
  .next (arithCc (fun a b => a - b - s.carryWord) iccSub rd rs1 op2 s)

/-- TSUBcc, tagged subtract (R434). -/
def execTsubcc (rd rs1 : RegNum) (op2 : Operand2) (s : State) : Answer :=
  .next (arithCc (fun a b => a - b) iccTagSub rd rs1 op2 s)

/-- TSUBccTV, tagged subtract and trap on overflow (R435). -/
def execTsubcctv (rd rs1 : RegNum) (op2 : Operand2) (s : State) : Answer :=
  .next (arithTrap (fun a b => a - b) iccTagSub tagSubOverflow rd rs1 op2 s)

/-- Y becomes `v` at once (R437). -/
def State.setY (s : State) (v : Word) : State := { s with y := v }

/-- operand1 of MULScc: r[rs1] shifted right by one bit, N xor V entering (R436). -/
def mulsccOperand1 (i : Icc) (a : Word) : Word := BitVec.ofBool (i.n ^^ i.v) ++ a.extractLsb' 1 31

/-- operand2 of MULScc: zero unless Y<0> is 1 (R436). -/
def mulsccOperand2 (y b : Word) : Word := if y.getLsbD 0 then b else 0#32

/-- Y after MULScc (R436). -/
def mulsccY (y a : Word) : Word := a.extractLsb' 0 1 ++ y.extractLsb' 1 31

/-- MULScc (R436): every right-hand side is of the state before. -/
def multiplyStep (rd rs1 : RegNum) (op2 : Operand2) (s : State) : State :=
  let a := mulsccOperand1 s.psr.icc (s.reg rs1)
  let b := mulsccOperand2 s.y (s.operand2 op2)
  (((s.setReg rd (a + b)).setY (mulsccY s.y (s.reg rs1))).setIcc (iccAdd a b (a + b))).advance

/-- The unsigned 64-bit product (R438). -/
def umulProduct (a b : Word) : BitVec 64 := a.zeroExtend 64 * b.zeroExtend 64

/-- The signed 64-bit product (R439). -/
def smulProduct (a b : Word) : BitVec 64 := a.signExtend 64 * b.signExtend 64

/-- A multiply (R437): the product's high word into Y, its low word into r[rd]. -/
def multiply (product : Word → Word → BitVec 64) (rd rs1 : RegNum) (op2 : Operand2) (s : State) : State :=
  let p := product (s.reg rs1) (s.operand2 op2)
  ((s.setReg rd (p.extractLsb' 0 32)).setY (p.extractLsb' 32 32)).advance

/-- Its cc form (R437). -/
def multiplyCc (product : Word → Word → BitVec 64) (rd rs1 : RegNum) (op2 : Operand2) (s : State) : State :=
  let p := product (s.reg rs1) (s.operand2 op2)
  (((s.setReg rd (p.extractLsb' 0 32)).setY (p.extractLsb' 32 32)).setIcc (iccLogic (p.extractLsb' 0 32))).advance

/-- What a divide computes: the quotient returned, the remainder, and V (R442). -/
structure Quotient where
  result : Word
  remainder : Word
  overflow : Bool
  deriving DecidableEq, Repr

/-- Unsigned division of Y ++ a by b, b not zero (R443, R445). -/
def udivQuotient (_c : Config) (y a b : Word) : Quotient :=
  let n := (y ++ a : BitVec 64).toNat
  let q := n / b.toNat
  { result := if 2 ^ 32 ≤ q then 0xFFFFFFFF#32 else BitVec.ofNat 32 q
    remainder := BitVec.ofNat 32 (n % b.toNat)
    overflow := decide (2 ^ 32 ≤ q) }

/-- Signed division of Y ++ a by b, b not zero, rounding toward zero (R444, R446, decision D27). -/
def sdivQuotient (c : Config) (y a b : Word) : Quotient :=
  let n := (y ++ a : BitVec 64).toInt
  let q := n.tdiv b.toInt
  let r := n.tmod b.toInt
  { result := if 2 ^ 31 - 1 < q then 0x7FFFFFFF#32 else if q < -2 ^ 31 then 0x80000000#32 else BitVec.ofInt 32 q
    remainder := BitVec.ofInt 32 r
    overflow := decide (2 ^ 31 - 1 < q) || decide (q < -2 ^ 31) ||
      (c.sdivNegOverflowB && decide (q = -2 ^ 31) && decide (r ≠ 0)) }

/-- Y after a divide (R442, decision D28). -/
def State.divideY (s : State) (q : Quotient) : State := if s.cfg.divYRemainder then s.setY q.remainder else s

/-- A divide (R442): division_by_zero before anything is written. -/
def divide (quotient : Config → Word → Word → Word → Quotient) (rd rs1 : RegNum) (op2 : Operand2) (s : State) : State :=
  if s.operand2 op2 = 0#32 then raise .divisionByZero s
  else
    let q := quotient s.cfg s.y (s.reg rs1) (s.operand2 op2)
    ((s.setReg rd q.result).divideY q).advance

/-- Its cc form (R442). -/
def divideCc (quotient : Config → Word → Word → Word → Quotient) (rd rs1 : RegNum) (op2 : Operand2) (s : State) : State :=
  if s.operand2 op2 = 0#32 then raise .divisionByZero s
  else
    let q := quotient s.cfg s.y (s.reg rs1) (s.operand2 op2)
    (((s.setReg rd q.result).divideY q).setIcc (iccDiv q.result q.overflow)).advance

/-- MULScc, multiply step (R436). -/
def execMulscc (rd rs1 : RegNum) (op2 : Operand2) (s : State) : Answer :=
  .next (multiplyStep rd rs1 op2 s)

/-- UMUL (R438). -/
def execUmul (rd rs1 : RegNum) (op2 : Operand2) (s : State) : Answer :=
  .next (multiply umulProduct rd rs1 op2 s)

/-- SMUL (R439). -/
def execSmul (rd rs1 : RegNum) (op2 : Operand2) (s : State) : Answer :=
  .next (multiply smulProduct rd rs1 op2 s)

/-- UMULcc (R440). -/
def execUmulcc (rd rs1 : RegNum) (op2 : Operand2) (s : State) : Answer :=
  .next (multiplyCc umulProduct rd rs1 op2 s)

/-- SMULcc (R441). -/
def execSmulcc (rd rs1 : RegNum) (op2 : Operand2) (s : State) : Answer :=
  .next (multiplyCc smulProduct rd rs1 op2 s)

/-- UDIV (R443). -/
def execUdiv (rd rs1 : RegNum) (op2 : Operand2) (s : State) : Answer :=
  .next (divide udivQuotient rd rs1 op2 s)

/-- SDIV (R444). -/
def execSdiv (rd rs1 : RegNum) (op2 : Operand2) (s : State) : Answer :=
  .next (divide sdivQuotient rd rs1 op2 s)

/-- UDIVcc (R445). -/
def execUdivcc (rd rs1 : RegNum) (op2 : Operand2) (s : State) : Answer :=
  .next (divideCc udivQuotient rd rs1 op2 s)

/-- SDIVcc (R446). -/
def execSdivcc (rd rs1 : RegNum) (op2 : Operand2) (s : State) : Answer :=
  .next (divideCc sdivQuotient rd rs1 op2 s)

/-- CWP becomes `w`. -/
def State.setCwp (s : State) (w : BitVec 5) : State := { s with psr := { s.psr with cwp := w } }

/-- SAVE and RESTORE (R447, R448): the window check, then an addition whose operands are of the old window and whose result
goes to the new one. -/
def changeWindow (w : BitVec 5) (t : Trap) (rd rs1 : RegNum) (op2 : Operand2) (s : State) : State :=
  if s.windowInvalid w then raise t s
  else ((s.setCwp w).setReg rd (s.reg rs1 + s.operand2 op2)).advance

/-- SAVE (R447). -/
def execSave (rd rs1 : RegNum) (op2 : Operand2) (s : State) : Answer :=
  .next (changeWindow (prevWindow s.cfg s.psr.cwp) .windowOverflow rd rs1 op2 s)

/-- RESTORE (R448). -/
def execRestore (rd rs1 : RegNum) (op2 : Operand2) (s : State) : Answer :=
  .next (changeWindow (nextWindow s.cfg s.psr.cwp) .windowUnderflow rd rs1 op2 s)

end Sys2Proof.Machine
end

