-- ==== Sys2Proof/Machine/Float.lean ====
section
/-! DEFINITION. Floating-point arithmetic (spec/45_floating_point.md R554, R600 to R612) on the formats of
spec/11_fpu_state.md R85 to R88: operands are taken apart into exact integers, results computed exactly and rounded once. -/

namespace Sys2Proof.Machine

/-- The three formats (R85). -/
inductive Fmt where
  | single | double | quad
  deriving DecidableEq, Repr

/-- Width of the exponent field (R86 to R88). -/
def Fmt.expBits : Fmt → Nat
  | .single => 8
  | .double => 11
  | .quad => 15

/-- Width of the fraction field (R86 to R88). -/
def Fmt.fracBits : Fmt → Nat
  | .single => 23
  | .double => 52
  | .quad => 112

/-- The largest biased exponent, of infinities and NaNs. -/
def Fmt.expMax (t : Fmt) : Nat := 2 ^ t.expBits - 1

/-- The exponent bias (R86 to R88). -/
def Fmt.bias (t : Fmt) : Nat := 2 ^ (t.expBits - 1) - 1

/-- The sign bit's position. -/
def Fmt.signBit (t : Fmt) : Nat := t.expBits + t.fracBits

/-- An operand (R86 to R88). `num` is (-1)^sign * m * 2^e with m > 0. -/
inductive FpValue where
  | nan (sign : Bool) (frac : Nat)
  | inf (sign : Bool)
  | zero (sign : Bool)
  | num (sign : Bool) (m : Nat) (e : Int)
  deriving DecidableEq, Repr

/-- The value of a bit pattern. -/
def unpack (t : Fmt) (bits : Nat) : FpValue :=
  let sign := bits.testBit t.signBit
  let exp := (bits >>> t.fracBits) % 2 ^ t.expBits
  let frac := bits % 2 ^ t.fracBits
  if exp = t.expMax then (if frac = 0 then .inf sign else .nan sign frac)
  else if exp = 0 then
    (if frac = 0 then .zero sign else .num sign frac (1 - (t.bias : Int) - t.fracBits))
  else .num sign (2 ^ t.fracBits + frac) ((exp : Int) - t.bias - t.fracBits)

/-- A bit pattern from its sign and the rest. -/
def packBits (t : Fmt) (sign : Bool) (magnitude : Nat) : Nat := (if sign then 2 ^ t.signBit else 0) + magnitude

/-- An infinity. -/
def infBits (t : Fmt) (sign : Bool) : Nat := packBits t sign (t.expMax * 2 ^ t.fracBits)

/-- The largest finite number. -/
def maxBits (t : Fmt) (sign : Bool) : Nat := packBits t sign (t.expMax * 2 ^ t.fracBits - 1)

/-- The quiet NaN of an invalid operation on numbers (R607): sign 0, all other bits 1. -/
def defaultNan (t : Fmt) : Nat := 2 ^ t.signBit - 1

/-- The texc vector NV, OF, UF, DZ, NX (R553). -/
structure Texc where
  nv : Bool := false
  ov : Bool := false
  uf : Bool := false
  dz : Bool := false
  nx : Bool := false
  deriving DecidableEq, Repr

/-- texc as the five bits of cexc (R104). -/
def Texc.bits (x : Texc) : BitVec 5 :=
  BitVec.ofBool x.nv ++ BitVec.ofBool x.ov ++ BitVec.ofBool x.uf ++ BitVec.ofBool x.dz ++ BitVec.ofBool x.nx

/-- What an arithmetic routine returns (R554): the result's bits and texc. -/
structure FpResult where
  bits : Nat
  texc : Texc
  deriving DecidableEq, Repr

/-- What rounding depends on: FSR.RD, whether underflow traps (UFM, R610), whether nonstandard mode is on (R612). -/
structure FpEnv where
  rd : BitVec 2
  ufm : Bool
  ns : Bool
  deriving DecidableEq, Repr

/-- The untrapped result of an overflow (R554). -/
def overflowBits (t : Fmt) (rd : BitVec 2) (sign : Bool) : Nat :=
  match rd with
  | 0#2 => infBits t sign
  | 1#2 => maxBits t sign
  | 2#2 => if sign then maxBits t sign else infBits t sign
  | 3#2 => if sign then infBits t sign else maxBits t sign

/-- Whether rounding in direction `rd` (R91) goes to the larger magnitude: `half` compares the discarded part with one half,
`odd` is the last bit kept. -/
def roundsUp (rd : BitVec 2) (sign odd inexact : Bool) (half : Ordering) : Bool :=
  match rd with
  | 0#2 => half == .gt || (half == .eq && odd)
  | 1#2 => false
  | 2#2 => inexact && !sign
  | 3#2 => inexact && sign

/-- `fp_round` (R554, R610, R612) of the nonzero magnitude m * 2^e, or, with `sticky`, of a value strictly between that and
(m + 1) * 2^e, m having at least three bits more than the format's fraction. -/
def fpRound (t : Fmt) (env : FpEnv) (sign : Bool) (m : Nat) (e : Int) (sticky : Bool) : FpResult :=
  let exponent : Int := (Nat.log2 m : Int) + e
  let emin : Int := 1 - (t.bias : Int)
  let tiny := decide (exponent < emin)
  let quantum : Int := max (exponent - t.fracBits) (emin - t.fracBits)
  let shift := (quantum - e).toNat
  let kept := if quantum ≤ e then m * 2 ^ (e - quantum).toNat else m / 2 ^ shift
  let rest := if quantum ≤ e then 0 else m % 2 ^ shift
  let inexact := rest != 0 || sticky
  let half := if quantum ≤ e then Ordering.lt
    else if 2 * rest = 2 ^ shift then (if sticky then Ordering.gt else Ordering.eq) else compare (2 * rest) (2 ^ shift)
  let rounded := if roundsUp env.rd sign (kept % 2 == 1) inexact half then kept + 1 else kept
  let magnitude := (quantum + t.fracBits + t.bias - 1).toNat * 2 ^ t.fracBits + rounded
  if t.expMax * 2 ^ t.fracBits ≤ magnitude then
    ⟨overflowBits t env.rd sign, { ov := true, nx := true }⟩
  else
    let flushed := env.ns && magnitude != 0 && decide (magnitude < 2 ^ t.fracBits)
    let inexact := inexact || flushed
    ⟨packBits t sign (if flushed then 0 else magnitude), { uf := tiny && (inexact || env.ufm), nx := inexact }⟩

/-! NaNs. -/

/-- A signaling NaN: the quiet bit, the fraction's first, is 0 (R86). -/
def isSignaling (t : Fmt) : FpValue → Bool
  | .nan _ frac => !frac.testBit (t.fracBits - 1)
  | _ => false

/-- A NaN. -/
def FpValue.isNan : FpValue → Bool
  | .nan _ _ => true
  | _ => false

/-- The NaN transformation (R605), the sign copied (decision D35). -/
def nanBits (src dst : Fmt) (sign : Bool) (frac : Nat) : Nat :=
  let frac' := if src.fracBits ≤ dst.fracBits then frac * 2 ^ (dst.fracBits - src.fracBits)
    else frac / 2 ^ (src.fracBits - dst.fracBits)
  packBits dst sign (dst.expMax * 2 ^ dst.fracBits + (frac' ||| 2 ^ (dst.fracBits - 1)))

/-- The result of a one-operand instruction on a NaN (R604, R607). -/
def nanResult1 (src dst : Fmt) (v : FpValue) : FpResult :=
  match v with
  | .nan sign frac => ⟨nanBits src dst sign frac, { nv := isSignaling src v }⟩
  | _ => ⟨defaultNan dst, { nv := true }⟩

/-- The result of a two-operand instruction when an operand is a NaN (R607, R608): rs2's NaN, unless rs2 is no signaling NaN
and rs1 is one, or rs2 is a number. -/
def nanResult2 (src dst : Fmt) (v1 v2 : FpValue) : FpResult :=
  let nv := isSignaling src v1 || isSignaling src v2
  let chosen := if isSignaling src v2 then v2 else if isSignaling src v1 then v1 else if v2.isNan then v2 else v1
  { nanResult1 src dst chosen with texc := { nv := nv } }

/-- An invalid operation on numbers (R607). -/
def invalid (t : Fmt) : FpResult := ⟨defaultNan t, { nv := true }⟩

/-- An exact result. -/
def exactly (bits : Nat) : FpResult := ⟨bits, {}⟩

/-! Nonstandard mode's operands (R612). -/

/-- The operand is a subnormal number. -/
def isSubnormal (t : Fmt) : FpValue → Bool
  | .num _ m _ => m < 2 ^ t.fracBits
  | _ => false

/-- In nonstandard mode a subnormal operand is a zero of its sign (R612). -/
def flushOperand (t : Fmt) (env : FpEnv) (v : FpValue) : FpValue :=
  match v with
  | .num sign m e => if env.ns && m < 2 ^ t.fracBits then .zero sign else .num sign m e
  | v => v

/-- A flushed operand raises inexact if nothing else is raised (R612). -/
def Texc.withFlush (x : Texc) (flushed : Bool) : Texc :=
  if flushed && x.bits == 0#5 then { x with nx := true } else x

/-! Operations. -/

/-- The sign of an exact zero sum of numbers that are not both zeros of one sign (R554). -/
def zeroSumSign (rd : BitVec 2) : Bool := rd == 3#2

/-- Round the exact integer multiple `n * 2^e`. -/
def roundInt (t : Fmt) (env : FpEnv) (n e : Int) : FpResult :=
  if n = 0 then exactly (packBits t (zeroSumSign env.rd) 0)
  else fpRound t env (decide (n < 0)) n.natAbs e false

/-- A magnitude with a sign. -/
def signedMagnitude (sign : Bool) (m : Nat) : Int := if sign then -(m : Int) else m

/-- The sum of two operands that are no NaNs (R554, R578). -/
def addNumbers (t : Fmt) (env : FpEnv) : FpValue → FpValue → FpResult
  | .inf s1, .inf s2 => if s1 = s2 then exactly (infBits t s1) else invalid t
  | .inf s1, _ => exactly (infBits t s1)
  | _, .inf s2 => exactly (infBits t s2)
  | .zero s1, .zero s2 => exactly (packBits t (if s1 = s2 then s1 else zeroSumSign env.rd) 0)
  | .zero _, .num s2 m2 e2 => fpRound t env s2 m2 e2 false
  | .num s1 m1 e1, .zero _ => fpRound t env s1 m1 e1 false
  | .num s1 m1 e1, .num s2 m2 e2 =>
    let e := min e1 e2
    roundInt t env
      (signedMagnitude s1 (m1 * 2 ^ (e1 - e).toNat) + signedMagnitude s2 (m2 * 2 ^ (e2 - e).toNat)) e
  | _, _ => invalid t

/-- The product of two operands that are no NaNs, in format `t` (R584). For FsMULd and FdMULq, whose result has another format than
the operands, 0 times infinity gives the quiet NaN that R607 states for operands of the result's format (PRESUMED, log 22). -/
def mulNumbers (t : Fmt) (env : FpEnv) : FpValue → FpValue → FpResult
  | .inf _, .zero _ => invalid t
  | .zero _, .inf _ => invalid t
  | .inf s1, .inf s2 => exactly (infBits t (s1 ^^ s2))
  | .inf s1, .num s2 _ _ => exactly (infBits t (s1 ^^ s2))
  | .num s1 _ _, .inf s2 => exactly (infBits t (s1 ^^ s2))
  | .zero s1, .zero s2 => exactly (packBits t (s1 ^^ s2) 0)
  | .zero s1, .num s2 _ _ => exactly (packBits t (s1 ^^ s2) 0)
  | .num s1 _ _, .zero s2 => exactly (packBits t (s1 ^^ s2) 0)
  | .num s1 m1 e1, .num s2 m2 e2 => fpRound t env (s1 ^^ s2) (m1 * m2) (e1 + e2) false
  | _, _ => invalid t

/-- The quotient of two operands that are no NaNs (R589). -/
def divNumbers (t : Fmt) (env : FpEnv) : FpValue → FpValue → FpResult
  | .inf _, .inf _ => invalid t
  | .zero _, .zero _ => invalid t
  | .inf s1, .zero s2 => exactly (infBits t (s1 ^^ s2))
  | .inf s1, .num s2 _ _ => exactly (infBits t (s1 ^^ s2))
  | .num s1 _ _, .zero s2 => ⟨infBits t (s1 ^^ s2), { dz := true }⟩
  | .zero s1, .inf s2 => exactly (packBits t (s1 ^^ s2) 0)
  | .zero s1, .num s2 _ _ => exactly (packBits t (s1 ^^ s2) 0)
  | .num s1 _ _, .inf s2 => exactly (packBits t (s1 ^^ s2) 0)
  | .num s1 m1 e1, .num s2 m2 e2 =>
    let k := 2 * t.fracBits + 5
    let n := m1 * 2 ^ k
    fpRound t env (s1 ^^ s2) (n / m2) (e1 - k - e2) (n % m2 != 0)
  | _, _ => invalid t

/-- The integer square root of x, found from bit i downwards, r being the bits above. -/
def sqrtBits : Nat → Nat → Nat → Nat
  | 0, x, r => if (r + 1) * (r + 1) ≤ x then r + 1 else r
  | i + 1, x, r =>
    let r' := r + 2 ^ (i + 1)
    sqrtBits i x (if r' * r' ≤ x then r' else r)

/-- The largest r with r * r ≤ x. -/
def natSqrt (x : Nat) : Nat := sqrtBits (Nat.log2 x / 2 + 1) x 0

/-- The square root of an operand that is no NaN (R575). -/
def sqrtNumber (t : Fmt) (env : FpEnv) : FpValue → FpResult
  | .zero s => exactly (packBits t s 0)
  | .inf false => exactly (infBits t false)
  | .num false m e =>
    let k : Nat := 2 * t.fracBits + 10 + (if e % 2 = 0 then 0 else 1)
    let n := m * 2 ^ k
    let r := natSqrt n
    fpRound t env false r ((e - k) / 2) (r * r != n)
  | _ => invalid t

/-- A two-operand arithmetic instruction on `src` operands with a `dst` result (R607, R608, R612). -/
def binaryOp (op : Fmt → FpEnv → FpValue → FpValue → FpResult) (src dst : Fmt) (env : FpEnv) (a b : Nat) : FpResult :=
  let v1 := unpack src a
  let v2 := unpack src b
  if v1.isNan || v2.isNan then
    let r := nanResult2 src dst v1 v2
    { r with texc := r.texc.withFlush (env.ns && (isSubnormal src v1 || isSubnormal src v2)) }
  else
    let r := op dst env (flushOperand src env v1) (flushOperand src env v2)
    { r with texc := r.texc.withFlush (env.ns && (isSubnormal src v1 || isSubnormal src v2)) }

/-- The sign bit complemented. -/
def FpValue.negate : FpValue → FpValue
  | .nan s f => .nan s f
  | .inf s => .inf (!s)
  | .zero s => .zero (!s)
  | .num s m e => .num (!s) m e

/-- The difference of two operands that are no NaNs (R581). -/
def subNumbers (t : Fmt) (env : FpEnv) (v1 v2 : FpValue) : FpResult := addNumbers t env v1 v2.negate

/-- FADD (R578). -/
def fpAdd (t : Fmt) := binaryOp addNumbers t t

/-- FSUB (R581). -/
def fpSub (t : Fmt) := binaryOp subNumbers t t

/-- FMUL, and FsMULd and FdMULq with the wider result format (R584, R587). -/
def fpMul (src dst : Fmt) := binaryOp mulNumbers src dst

/-- FDIV (R589). -/
def fpDiv (t : Fmt) := binaryOp divNumbers t t

/-- FSQRT (R575). -/
def fpSqrt (t : Fmt) (env : FpEnv) (a : Nat) : FpResult :=
  let v := unpack t a
  if v.isNan then nanResult1 t t v
  else
    let r := sqrtNumber t env (flushOperand t env v)
    { r with texc := r.texc.withFlush (env.ns && isSubnormal t v) }

/-- A number in another format (R566). -/
def convertNumber (t : Fmt) (env : FpEnv) : FpValue → FpResult
  | .zero s => exactly (packBits t s 0)
  | .inf s => exactly (infBits t s)
  | .num s m e => fpRound t env s m e false
  | _ => invalid t

/-- F[sdq]TO[sdq] (R566, R604). -/
def fpConvert (src dst : Fmt) (env : FpEnv) (a : Nat) : FpResult :=
  let v := unpack src a
  if v.isNan then nanResult1 src dst v
  else
    let r := convertNumber dst env (flushOperand src env v)
    { r with texc := r.texc.withFlush (env.ns && isSubnormal src v) }

/-- FiTO[sdq] (R560): integer 0 gives +0. -/
def fpFromInt (t : Fmt) (env : FpEnv) (w : Word) : FpResult :=
  if w = 0#32 then exactly (packBits t false 0) else roundInt t env w.toInt 0

/-- The invalid result of F[sdq]TOi by the operand's sign (R611). -/
def intOverflow (sign : Bool) : FpResult := ⟨if sign then 0x80000000 else 0x7FFFFFFF, { nv := true }⟩

/-- F[sdq]TOi of an operand (R563, R611): truncation, RD ignored. -/
def toIntNumber : FpValue → FpResult
  | .nan s _ => intOverflow s
  | .inf s => intOverflow s
  | .zero _ => exactly 0
  | .num s m e =>
    let k := (-e).toNat
    let magnitude := if 0 ≤ e then m * 2 ^ e.toNat else m / 2 ^ k
    let inexact := !(decide (0 ≤ e)) && m % 2 ^ k != 0
    if (if s then 2 ^ 31 + 1 else 2 ^ 31) ≤ magnitude then intOverflow s
    else ⟨if s then (2 ^ 32 - magnitude) % 2 ^ 32 else magnitude, { nx := inexact }⟩

/-- F[sdq]TOi (R563). -/
def fpToInt (src : Fmt) (env : FpEnv) (a : Nat) : FpResult :=
  let v := unpack src a
  let r := toIntNumber (flushOperand src env v)
  { r with texc := r.texc.withFlush (env.ns && isSubnormal src v) }

/-- What a compare delivers (R592): tfcc and texc. -/
structure FpCompare where
  fcc : BitVec 2
  texc : Texc
  deriving DecidableEq, Repr

/-- The place of an operand in the order of numbers: infinities first and last, the zeros equal (R592). -/
def compareNumbers (v1 v2 : FpValue) : Ordering :=
  let key (v : FpValue) : Int := match v with
    | .inf s => if s then -1 else 1
    | _ => 0
  let part (v : FpValue) : Int × Int := match v with
    | .num s m e => (signedMagnitude s m, e)
    | _ => (0, 0)
  if key v1 = 0 && key v2 = 0 then
    let (n1, e1) := part v1
    let (n2, e2) := part v2
    let e := min e1 e2
    compare (n1 * 2 ^ (e1 - e).toNat) (n2 * 2 ^ (e2 - e).toNat)
  else compare (key v1) (key v2)

/-- FCMP, and with `signalsQuiet` FCMPE (R592, R595, R606). -/
def fpCompare (signalsQuiet : Bool) (t : Fmt) (env : FpEnv) (a b : Nat) : FpCompare :=
  let v1 := unpack t a
  let v2 := unpack t b
  let flushed := env.ns && (isSubnormal t v1 || isSubnormal t v2)
  if v1.isNan || v2.isNan then
    ⟨3#2, Texc.withFlush { nv := signalsQuiet || isSignaling t v1 || isSignaling t v2 } flushed⟩
  else
    ⟨match compareNumbers (flushOperand t env v1) (flushOperand t env v2) with
      | .eq => 0#2
      | .lt => 1#2
      | .gt => 2#2, Texc.withFlush {} flushed⟩

end Sys2Proof.Machine
end

