-- ==== Sys2Proof/Machine/Fpu.lean ====
section
/-! DEFINITION. The floating-point unit: when it accepts an instruction, how an FPop ends (spec/45_floating_point.md R553,
spec/11_fpu_state.md R107), and when a coprocessor accepts one (spec/46_coprocessor.md R634). The deferred machine is used
only when cfg.fpTrapsDeferred (log 12). -/

namespace Sys2Proof.Machine

/-- FSR.ftt values (R93). -/
def fttIeee : BitVec 3 := 1#3

def fttUnfinished : BitVec 3 := 2#3

def fttUnimplemented : BitVec 3 := 3#3

def fttSequenceError : BitVec 3 := 4#3

def fttInvalidRegister : BitVec 3 := 6#3

/-- FSR.ftt becomes `t`. -/
def State.setFtt (s : State) (t : BitVec 3) : State := { s with fsr := { s.fsr with ftt := t } }

/-- fp_exception at once with this ftt (R695). -/
def raiseFp (t : BitVec 3) (s : State) : State := raise .fpException (s.setFtt t)

/-- take_pending_fp_exception (R553 step 8): the remembered FPop enters the queue, the FPU goes to fp_exception. After a
sequence_error nothing is remembered (R107). -/
def takePendingFp (s : State) : State :=
  raise .fpException
    { s with
      fq := match s.pendingFp with
        | some e => if s.cfg.hasFq && decide (s.fq.length < s.cfg.fqDepth) then s.fq ++ [e] else s.fq
        | none => s.fq
      pendingFp := none
      fpuMode := .exception }

/-- The FPU meets, in fp_exception state, an instruction it cannot accept (R107, R553 step 2): ftt is sequence_error, and the FPU returns
to fp_exception_pending with nothing to enter in the queue. -/
def State.sequenceError (s : State) : State :=
  { s.setFtt fttSequenceError with fpuMode := .exceptionPending, pendingFp := none }

/-- An FPop in fp_exception state: the next floating-point instruction reports the sequence_error (R553 step 2). -/
def fpopSequenceError (s : State) : State := s.sequenceError.advance

/-- An FBfcc or a floating-point load in fp_exception state: as an FPop (R107, R553 step 2); or, where R323 step 5, R477 and R695 are read
as a trap of the instruction itself, it moves the FPU on to fp_exception and takes the trap (log 12). -/
def fpLoadSequenceError (s : State) : State :=
  if s.cfg.fpSequenceErrorAtOnce then takePendingFp s.sequenceError else s.sequenceError.advance

/-- The FPU's check for FBfcc and floating-point loads (R107, R323 step 5, R477). -/
def State.fpReady (s : State) (k : State → State) : State :=
  if s.cfg.fpTrapsDeferred then
    match s.fpuMode with
    | .execute => k s
    | .exceptionPending => takePendingFp s
    | .exception => fpLoadSequenceError s
  else k s

/-- The FPU's check for floating-point stores (R325): in fp_exception state they execute. -/
def State.fpStoreReady (s : State) (k : State → State) : State :=
  if s.cfg.fpTrapsDeferred && s.fpuMode == .exceptionPending then takePendingFp s else k s

/-- The FPU's check for FPops (R553 steps 1 and 2). -/
def State.fpopReady (s : State) (k : State → State) : State :=
  if s.fpEnabled then
    if s.cfg.fpTrapsDeferred then
      match s.fpuMode with
      | .execute => k s
      | .exceptionPending => takePendingFp s
      | .exception => fpopSequenceError s
    else k s
  else raise .fpDisabled s

/-- fp_trap (R553): at once, or in the deferred machine remembered and the FPop ends as if complete. -/
def fpTrap (t : BitVec 3) (s : State) : State :=
  if s.cfg.fpTrapsDeferred then
    { s.setFtt t with fpuMode := .exceptionPending, pendingFp := some (s.pc ++ s.ir) }.advance
  else raiseFp t s

/-- most_significant_bit_of (R103, R553): NV before OF before UF before DZ before NX. -/
def highestBit (x : BitVec 5) : BitVec 5 :=
  if x.getLsbD 4 then 0x10#5
  else if x.getLsbD 3 then 0x08#5
  else if x.getLsbD 2 then 0x04#5
  else if x.getLsbD 1 then 0x02#5
  else x &&& 1#5

/-- cexc becomes `x`. -/
def State.setCexc (s : State) (x : BitVec 5) : State := { s with fsr := { s.fsr with cexc := x } }

/-- The FSR of an FPop that completes (R553 step 7). -/
def State.completeFsr (s : State) (x : BitVec 5) : State :=
  { s with fsr := { s.fsr with cexc := x, aexc := s.fsr.aexc ||| x, ftt := 0#3 } }

/-- The end of an FPop (R553 step 7): a trap for an enabled exception, else the results. -/
def fpComplete (texc : BitVec 5) (write : State → State) (s : State) : State :=
  if texc &&& s.fsr.tem != 0#5 then fpTrap fttIeee (s.setCexc (highestBit (texc &&& s.fsr.tem)))
  else (write (s.completeFsr texc)).advance

/-- The operation did not complete (R613): FP_UNFINISHED, or an exception whose bit is a state bit (R96). -/
def State.unfinished (s : State) (name : String) (a b : Nat) (texc : BitVec 5) : Bool :=
  (s.cfg.fpUnfinishedPossible && Config.fpUnfinishedWhen name a b) ||
    (texc.extractLsb' 1 4 &&& s.cfg.fsrStateBits) != 0#4

/-- A double or quad register field is misaligned (R552). -/
def Fmt.misaligned (t : Fmt) (k : RegNum) : Bool :=
  match t with
  | .single => false
  | .double => k.getLsbD 0
  | .quad => k.extractLsb' 0 2 != 0#2

/-- S(k), D(k) or Q(k). -/
def State.fpOperand (s : State) (t : Fmt) (k : RegNum) : Nat :=
  match t with
  | .single => (s.freg k).toNat
  | .double => (s.fdouble k).toNat
  | .quad => (s.fquad k).toNat

/-- `S(k) <- v`, `D(k) <- v` or `Q(k) <- v`. -/
def State.setFp (s : State) (t : Fmt) (k : RegNum) (v : Nat) : State :=
  match t with
  | .single => s.setFreg k (BitVec.ofNat 32 v)
  | .double => s.setFdouble k (BitVec.ofNat 64 v)
  | .quad => s.setFquad k (BitVec.ofNat 128 v)

/-- What rounding depends on (R91, R97, R98). -/
def State.fpEnv (s : State) : FpEnv :=
  { rd := s.fsr.rd, ufm := s.fsr.tem.getLsbD 2, ns := s.fsr.ns && s.cfg.fsrNsImplemented }

/-- Steps 3 to 7 of an FPop (R553), its operands' values and its operation's results given. -/
def fpopBody (name : String) (misaligned : Bool) (a b : Nat) (texc : BitVec 5) (write : State → State) (s : State) :
    State :=
  if s.cfg.unimplSet.contains name then fpTrap fttUnimplemented s
  else if s.cfg.fpMisalignedRegTraps && misaligned then fpTrap fttInvalidRegister s
  else if s.unfinished name a b texc then fpTrap fttUnfinished s
  else fpComplete texc write s

/-- An FPop of one source operand. -/
def fpUnary (name : String) (src dst : Fmt) (op : FpEnv → Nat → FpResult) (rd rs2 : RegNum) (s : State) : State :=
  s.fpopReady fun s =>
    let a := s.fpOperand src rs2
    let r := op s.fpEnv a
    fpopBody name (src.misaligned rs2 || dst.misaligned rd) a 0 r.texc.bits (fun t => t.setFp dst rd r.bits) s

/-- An FPop of two source operands. -/
def fpBinary (name : String) (src dst : Fmt) (op : FpEnv → Nat → Nat → FpResult) (rd rs1 rs2 : RegNum) (s : State) :
    State :=
  s.fpopReady fun s =>
    let a := s.fpOperand src rs1
    let b := s.fpOperand src rs2
    let r := op s.fpEnv a b
    fpopBody name (src.misaligned rs1 || src.misaligned rs2 || dst.misaligned rd) a b r.texc.bits
      (fun t => t.setFp dst rd r.bits) s

/-- FMOVs, FNEGs, FABSs (R572 to R574): they always complete, without exception. -/
def fpMove (name : String) (f : Word → Word) (rd rs2 : RegNum) (s : State) : State :=
  s.fpopReady fun s =>
    if s.cfg.unimplSet.contains name then fpTrap fttUnimplemented s
    else fpComplete 0#5 (fun t => t.setFreg rd (f (s.freg rs2))) s

/-- fcc becomes `c`, written by an FPop2 (R765: the next instruction must not be an FBfcc). -/
def State.setFcc (s : State) (c : BitVec 2) : State := { s with fsr := { s.fsr with fcc := c }, hzFcmp := 2 }

/-- A compare (R592, R595). -/
def fpCmp (name : String) (signalsQuiet : Bool) (t : Fmt) (rs1 rs2 : RegNum) (s : State) : State :=
  s.fpopReady fun s =>
    let a := s.fpOperand t rs1
    let b := s.fpOperand t rs2
    let r := fpCompare signalsQuiet t s.fpEnv a b
    fpopBody name (t.misaligned rs1 || t.misaligned rs2) a b r.texc.bits (fun u => u.setFcc r.fcc) s

/-- An FPop whose opf is unassigned (R556). -/
def fpUnassigned (s : State) : State := s.fpopReady fun s => fpTrap fttUnimplemented s

/-- An outstanding deferred cp_exception is taken by the next coprocessor instruction (R634). That it is outstanding no more then, even if a
reset or a higher request comes before the trap's entry, and that with ET = 0 it is kept while the processor enters error_mode (R707:
nothing else changes there), is the model's choice (DESIGN CHOICE, log 14). -/
def State.cpReady (s : State) (k : State → State) : State :=
  if s.cp.exceptionPending then
    raise .cpException { s with cp := { s.cp with exceptionPending := s.cp.exceptionPending && !s.psr.et } }
  else k s

end Sys2Proof.Machine
end

