-- ==== Sys2Proof/Machine/Control.lean ====
section
/-! DEFINITION. Control transfer (spec/43_control_transfer.md R470 to R491): Bicc, FBfcc, CBccc, CALL, JMPL, RETT, Ticc.
What sets PC, nPC and annul is the pair of assignments of R471 and R472; a control transfer in a delay slot follows them
(R473, decision D29). -/

namespace Sys2Proof.Machine

/-- A conditional branch once its decision is known (R475): cond = 8 is branch always. -/
def branch (taken : Bool) (cond : BitVec 4) (a : Bool) (disp22 : BitVec 22) (s : State) : State :=
  if taken then { s.jump (branchTarget s.pc disp22) with annul := s.annul || (a && cond == 8#4) }
  else { s.advance with annul := s.annul || a }

/-- Bicc (R475). -/
def branchIcc (cond : BitVec 4) (a : Bool) (disp22 : BitVec 22) (s : State) : State :=
  branch (evalIcc cond s.psr.icc) cond a disp22 s

/-- FBfcc (R477). Right after an FPop2 the decision is free (R765, U44), within three instructions of an LDFSR the fcc is
(R765, U45); log 10. -/
def branchFcc (cond : BitVec 4) (a : Bool) (disp22 : BitVec 22) (s : State) : State :=
  if s.fpEnabled then
    s.fpReady fun s =>
      if s.hzFcmp != 0 then branch (Config.freeBranch s.freeCtr) cond a disp22 s.drawn
      else if s.hzLdfsr != 0 then branch (evalFcc cond (Config.freeFcc s.freeCtr)) cond a disp22 s.drawn
      else branch (evalFcc cond s.fsr.fcc) cond a disp22 s
  else raise .fpDisabled s

/-- CBccc (R479). -/
def branchCp (cond : BitVec 4) (a : Bool) (disp22 : BitVec 22) (s : State) : State :=
  if s.cpEnabled then s.cpReady fun s => branch (evalCp cond s.cp.state.cc) cond a disp22 s
  else raise .cpDisabled s

/-- Ticc (R490). -/
def trapIcc (cond : BitVec 4) (rs1 : RegNum) (opn : TrapOperand) (s : State) : State :=
  if evalIcc cond s.psr.icc then raise (.trapInstruction (s.trapNumber rs1 opn)) s else s.advance

/-- Call and link (R480). -/
def callLink (disp30 : BitVec 30) (s : State) : State := (s.setReg 15#5 s.pc).jump (callTarget s.pc disp30)

/-- Jump and link (R484): the address is computed before r[rd] is written. -/
def jumpLink (rd rs1 : RegNum) (op2 : Operand2) (s : State) : State :=
  s.ifAligned .word (s.address rs1 op2) fun t => (t.setReg rd t.pc).jump (s.address rs1 op2)

/-- Return from trap (R486, R487): with ET = 1 a trap; with ET = 0 the three tests that end in error_mode, in their order. -/
def returnTrap (rs1 : RegNum) (op2 : Operand2) (s : State) : State :=
  if s.psr.et then raise (if s.psr.s then .illegalInstruction else .privilegedInstruction) s
  else if !s.psr.s then s.errorStop .privilegedInstruction
  else if s.windowInvalid (nextWindow s.cfg s.psr.cwp) then s.errorStop .windowUnderflow
  else if !AccessSize.word.aligned (s.address rs1 op2) then s.errorStop .memAddressNotAligned
  else s.returnFromTrap (nextWindow s.cfg s.psr.cwp) (s.address rs1 op2)

/-- BN, cond 0 (R475). -/
def execBn (a : Bool) (disp22 : BitVec 22) (s : State) : Answer :=
  .next (branchIcc 0#4 a disp22 s)

/-- BE, cond 1 (R475). -/
def execBe (a : Bool) (disp22 : BitVec 22) (s : State) : Answer :=
  .next (branchIcc 1#4 a disp22 s)

/-- BLE, cond 2 (R475). -/
def execBle (a : Bool) (disp22 : BitVec 22) (s : State) : Answer :=
  .next (branchIcc 2#4 a disp22 s)

/-- BL, cond 3 (R475). -/
def execBl (a : Bool) (disp22 : BitVec 22) (s : State) : Answer :=
  .next (branchIcc 3#4 a disp22 s)

/-- BLEU, cond 4 (R475). -/
def execBleu (a : Bool) (disp22 : BitVec 22) (s : State) : Answer :=
  .next (branchIcc 4#4 a disp22 s)

/-- BCS, cond 5 (R475). -/
def execBcs (a : Bool) (disp22 : BitVec 22) (s : State) : Answer :=
  .next (branchIcc 5#4 a disp22 s)

/-- BNEG, cond 6 (R475). -/
def execBneg (a : Bool) (disp22 : BitVec 22) (s : State) : Answer :=
  .next (branchIcc 6#4 a disp22 s)

/-- BVS, cond 7 (R475). -/
def execBvs (a : Bool) (disp22 : BitVec 22) (s : State) : Answer :=
  .next (branchIcc 7#4 a disp22 s)

/-- BA, cond 8 (R475). -/
def execBa (a : Bool) (disp22 : BitVec 22) (s : State) : Answer :=
  .next (branchIcc 8#4 a disp22 s)

/-- BNE, cond 9 (R475). -/
def execBne (a : Bool) (disp22 : BitVec 22) (s : State) : Answer :=
  .next (branchIcc 9#4 a disp22 s)

/-- BG, cond 10 (R475). -/
def execBg (a : Bool) (disp22 : BitVec 22) (s : State) : Answer :=
  .next (branchIcc 10#4 a disp22 s)

/-- BGE, cond 11 (R475). -/
def execBge (a : Bool) (disp22 : BitVec 22) (s : State) : Answer :=
  .next (branchIcc 11#4 a disp22 s)

/-- BGU, cond 12 (R475). -/
def execBgu (a : Bool) (disp22 : BitVec 22) (s : State) : Answer :=
  .next (branchIcc 12#4 a disp22 s)

/-- BCC, cond 13 (R475). -/
def execBcc (a : Bool) (disp22 : BitVec 22) (s : State) : Answer :=
  .next (branchIcc 13#4 a disp22 s)

/-- BPOS, cond 14 (R475). -/
def execBpos (a : Bool) (disp22 : BitVec 22) (s : State) : Answer :=
  .next (branchIcc 14#4 a disp22 s)

/-- BVC, cond 15 (R475). -/
def execBvc (a : Bool) (disp22 : BitVec 22) (s : State) : Answer :=
  .next (branchIcc 15#4 a disp22 s)

/-- FBN, cond 0 (R477). -/
def execFbn (a : Bool) (disp22 : BitVec 22) (s : State) : Answer :=
  .next (branchFcc 0#4 a disp22 s)

/-- FBNE, cond 1 (R477). -/
def execFbne (a : Bool) (disp22 : BitVec 22) (s : State) : Answer :=
  .next (branchFcc 1#4 a disp22 s)

/-- FBLG, cond 2 (R477). -/
def execFblg (a : Bool) (disp22 : BitVec 22) (s : State) : Answer :=
  .next (branchFcc 2#4 a disp22 s)

/-- FBUL, cond 3 (R477). -/
def execFbul (a : Bool) (disp22 : BitVec 22) (s : State) : Answer :=
  .next (branchFcc 3#4 a disp22 s)

/-- FBL, cond 4 (R477). -/
def execFbl (a : Bool) (disp22 : BitVec 22) (s : State) : Answer :=
  .next (branchFcc 4#4 a disp22 s)

/-- FBUG, cond 5 (R477). -/
def execFbug (a : Bool) (disp22 : BitVec 22) (s : State) : Answer :=
  .next (branchFcc 5#4 a disp22 s)

/-- FBG, cond 6 (R477). -/
def execFbg (a : Bool) (disp22 : BitVec 22) (s : State) : Answer :=
  .next (branchFcc 6#4 a disp22 s)

/-- FBU, cond 7 (R477). -/
def execFbu (a : Bool) (disp22 : BitVec 22) (s : State) : Answer :=
  .next (branchFcc 7#4 a disp22 s)

/-- FBA, cond 8 (R477). -/
def execFba (a : Bool) (disp22 : BitVec 22) (s : State) : Answer :=
  .next (branchFcc 8#4 a disp22 s)

/-- FBE, cond 9 (R477). -/
def execFbe (a : Bool) (disp22 : BitVec 22) (s : State) : Answer :=
  .next (branchFcc 9#4 a disp22 s)

/-- FBUE, cond 10 (R477). -/
def execFbue (a : Bool) (disp22 : BitVec 22) (s : State) : Answer :=
  .next (branchFcc 10#4 a disp22 s)

/-- FBGE, cond 11 (R477). -/
def execFbge (a : Bool) (disp22 : BitVec 22) (s : State) : Answer :=
  .next (branchFcc 11#4 a disp22 s)

/-- FBUGE, cond 12 (R477). -/
def execFbuge (a : Bool) (disp22 : BitVec 22) (s : State) : Answer :=
  .next (branchFcc 12#4 a disp22 s)

/-- FBLE, cond 13 (R477). -/
def execFble (a : Bool) (disp22 : BitVec 22) (s : State) : Answer :=
  .next (branchFcc 13#4 a disp22 s)

/-- FBULE, cond 14 (R477). -/
def execFbule (a : Bool) (disp22 : BitVec 22) (s : State) : Answer :=
  .next (branchFcc 14#4 a disp22 s)

/-- FBO, cond 15 (R477). -/
def execFbo (a : Bool) (disp22 : BitVec 22) (s : State) : Answer :=
  .next (branchFcc 15#4 a disp22 s)

/-- CBN, cond 0 (R479). -/
def execCbn (a : Bool) (disp22 : BitVec 22) (s : State) : Answer :=
  .next (branchCp 0#4 a disp22 s)

/-- CB123, cond 1 (R479). -/
def execCb123 (a : Bool) (disp22 : BitVec 22) (s : State) : Answer :=
  .next (branchCp 1#4 a disp22 s)

/-- CB12, cond 2 (R479). -/
def execCb12 (a : Bool) (disp22 : BitVec 22) (s : State) : Answer :=
  .next (branchCp 2#4 a disp22 s)

/-- CB13, cond 3 (R479). -/
def execCb13 (a : Bool) (disp22 : BitVec 22) (s : State) : Answer :=
  .next (branchCp 3#4 a disp22 s)

/-- CB1, cond 4 (R479). -/
def execCb1 (a : Bool) (disp22 : BitVec 22) (s : State) : Answer :=
  .next (branchCp 4#4 a disp22 s)

/-- CB23, cond 5 (R479). -/
def execCb23 (a : Bool) (disp22 : BitVec 22) (s : State) : Answer :=
  .next (branchCp 5#4 a disp22 s)

/-- CB2, cond 6 (R479). -/
def execCb2 (a : Bool) (disp22 : BitVec 22) (s : State) : Answer :=
  .next (branchCp 6#4 a disp22 s)

/-- CB3, cond 7 (R479). -/
def execCb3 (a : Bool) (disp22 : BitVec 22) (s : State) : Answer :=
  .next (branchCp 7#4 a disp22 s)

/-- CBA, cond 8 (R479). -/
def execCba (a : Bool) (disp22 : BitVec 22) (s : State) : Answer :=
  .next (branchCp 8#4 a disp22 s)

/-- CB0, cond 9 (R479). -/
def execCb0 (a : Bool) (disp22 : BitVec 22) (s : State) : Answer :=
  .next (branchCp 9#4 a disp22 s)

/-- CB03, cond 10 (R479). -/
def execCb03 (a : Bool) (disp22 : BitVec 22) (s : State) : Answer :=
  .next (branchCp 10#4 a disp22 s)

/-- CB02, cond 11 (R479). -/
def execCb02 (a : Bool) (disp22 : BitVec 22) (s : State) : Answer :=
  .next (branchCp 11#4 a disp22 s)

/-- CB023, cond 12 (R479). -/
def execCb023 (a : Bool) (disp22 : BitVec 22) (s : State) : Answer :=
  .next (branchCp 12#4 a disp22 s)

/-- CB01, cond 13 (R479). -/
def execCb01 (a : Bool) (disp22 : BitVec 22) (s : State) : Answer :=
  .next (branchCp 13#4 a disp22 s)

/-- CB013, cond 14 (R479). -/
def execCb013 (a : Bool) (disp22 : BitVec 22) (s : State) : Answer :=
  .next (branchCp 14#4 a disp22 s)

/-- CB012, cond 15 (R479). -/
def execCb012 (a : Bool) (disp22 : BitVec 22) (s : State) : Answer :=
  .next (branchCp 15#4 a disp22 s)

/-- CALL (R480). -/
def execCall (disp30 : BitVec 30) (s : State) : Answer :=
  .next (callLink disp30 s)

/-- JMPL (R484). -/
def execJmpl (rd rs1 : RegNum) (op2 : Operand2) (s : State) : Answer :=
  .next (jumpLink rd rs1 op2 s)

/-- RETT (R486). -/
def execRett (rs1 : RegNum) (op2 : Operand2) (s : State) : Answer :=
  .next (returnTrap rs1 op2 s)

/-- TN, cond 0 (R490). -/
def execTn (rs1 : RegNum) (opn : TrapOperand) (s : State) : Answer :=
  .next (trapIcc 0#4 rs1 opn s)

/-- TE, cond 1 (R490). -/
def execTe (rs1 : RegNum) (opn : TrapOperand) (s : State) : Answer :=
  .next (trapIcc 1#4 rs1 opn s)

/-- TLE, cond 2 (R490). -/
def execTle (rs1 : RegNum) (opn : TrapOperand) (s : State) : Answer :=
  .next (trapIcc 2#4 rs1 opn s)

/-- TL, cond 3 (R490). -/
def execTl (rs1 : RegNum) (opn : TrapOperand) (s : State) : Answer :=
  .next (trapIcc 3#4 rs1 opn s)

/-- TLEU, cond 4 (R490). -/
def execTleu (rs1 : RegNum) (opn : TrapOperand) (s : State) : Answer :=
  .next (trapIcc 4#4 rs1 opn s)

/-- TCS, cond 5 (R490). -/
def execTcs (rs1 : RegNum) (opn : TrapOperand) (s : State) : Answer :=
  .next (trapIcc 5#4 rs1 opn s)

/-- TNEG, cond 6 (R490). -/
def execTneg (rs1 : RegNum) (opn : TrapOperand) (s : State) : Answer :=
  .next (trapIcc 6#4 rs1 opn s)

/-- TVS, cond 7 (R490). -/
def execTvs (rs1 : RegNum) (opn : TrapOperand) (s : State) : Answer :=
  .next (trapIcc 7#4 rs1 opn s)

/-- TA, cond 8 (R490). -/
def execTa (rs1 : RegNum) (opn : TrapOperand) (s : State) : Answer :=
  .next (trapIcc 8#4 rs1 opn s)

/-- TNE, cond 9 (R490). -/
def execTne (rs1 : RegNum) (opn : TrapOperand) (s : State) : Answer :=
  .next (trapIcc 9#4 rs1 opn s)

/-- TG, cond 10 (R490). -/
def execTg (rs1 : RegNum) (opn : TrapOperand) (s : State) : Answer :=
  .next (trapIcc 10#4 rs1 opn s)

/-- TGE, cond 11 (R490). -/
def execTge (rs1 : RegNum) (opn : TrapOperand) (s : State) : Answer :=
  .next (trapIcc 11#4 rs1 opn s)

/-- TGU, cond 12 (R490). -/
def execTgu (rs1 : RegNum) (opn : TrapOperand) (s : State) : Answer :=
  .next (trapIcc 12#4 rs1 opn s)

/-- TCC, cond 13 (R490). -/
def execTcc (rs1 : RegNum) (opn : TrapOperand) (s : State) : Answer :=
  .next (trapIcc 13#4 rs1 opn s)

/-- TPOS, cond 14 (R490). -/
def execTpos (rs1 : RegNum) (opn : TrapOperand) (s : State) : Answer :=
  .next (trapIcc 14#4 rs1 opn s)

/-- TVC, cond 15 (R490). -/
def execTvc (rs1 : RegNum) (opn : TrapOperand) (s : State) : Answer :=
  .next (trapIcc 15#4 rs1 opn s)

end Sys2Proof.Machine
end

