-- ==== Sys2Proof/Machine/Coproc.lean ====
section
/-! DEFINITION. The coprocessor's loads, stores and operates (spec/46_coprocessor.md R630 to R634, spec/40_load_store.md R347
to R349, R366 to R369). What the coprocessor itself does are opaque functions of Config (log 14). -/

namespace Sys2Proof.Machine

/-- The coprocessor's state becomes `c`. -/
def State.setCp (s : State) (c : CpState) : State := { s with cp := { s.cp with state := c } }

/-- A word loaded from memory reaches a place of the coprocessor (R347 to R349, R633). -/
def State.setCplace (s : State) (p : CpPlace) (w : Word) : State := s.setCp (Config.cpLoadWord p w s.cp.state)

/-- The word a place of the coprocessor stores (R366 to R368, R633). -/
def State.cplace (s : State) (p : CpPlace) : Word := Config.cpStoreWord p s.cp.state

/-- `a_CP_sequence_error_is_detected` (R633). -/
def State.cpSequenceError (s : State) : Bool := s.cfg.cpExceptionsPossible && Config.cpSequenceError s.cp.state

/-- The checks of a coprocessor load (R323, R347): a detected sequence error is cp_exception, and the additional actions R634 leaves to
the implementation are none, the coprocessor's state staying as it was (DESIGN CHOICE, log 14). -/
def cpLoad (size : AccessSize) (a : Word) (k : State → State) (s : State) : State :=
  if s.cpEnabled then
    s.ifAligned size a fun s =>
      s.cpReady fun s => if s.cpSequenceError then raise .cpException s else k s
  else raise .cpDisabled s

/-- The checks of a coprocessor store (R325, R366). -/
def cpStore (size : AccessSize) (a : Word) (k : State → State) (s : State) : State :=
  if s.cpEnabled then s.ifAligned size a fun s => s.cpReady k else raise .cpDisabled s

/-- A load of a word into a place of the coprocessor. -/
def loadCplace (p : CpPlace) (a : Word) (s : State) : State :=
  cpLoad .word a (fun s => s.reading s.dataAsi .word a fun w t => (t.setCplace p w).advance) s

/-- A store of a word from a place of the coprocessor (R366, R368). The implementation-dependent actions that R368 allows STCSR before the
store are none: the coprocessor's state stays as it was (DESIGN CHOICE, log 14). -/
def storeCplace (p : CpPlace) (a : Word) (s : State) : State :=
  cpStore .word a (fun s => s.writing s.dataAsi .word a (s.cplace p) State.advance) s

/-- LDDC (R348): the registers of the pair, the even one before the second word is read. No rule says what an odd rd names; the model
takes the pair that it is in (DESIGN CHOICE, log 14). -/
def loadDc (rd : RegNum) (a : Word) (s : State) : State :=
  cpLoad .double a
    (fun s => s.readingDouble s.dataAsi a (fun w0 t => t.setCplace (.register (evenReg rd)) w0)
      fun w1 t => (t.setCplace (.register (oddReg rd)) w1).advance) s

/-- STDC (R367). An odd rd names the pair that it is in, as in LDDC (DESIGN CHOICE, log 14). -/
def storeDc (rd : RegNum) (a : Word) (s : State) : State :=
  cpStore .double a
    (fun s => s.writingDouble s.dataAsi a (s.cplace (.register (evenReg rd))) (s.cplace (.register (oddReg rd)))
      State.advance) s

/-- The front entry of the coprocessor queue (R369, R633). -/
def State.cqFront (s : State) : BitVec 64 := Config.cpQueueFront s.cp.state

/-- The front entry has been stored, and the queue advances (R633; DEDUCED from STDFQ's pop, R365, as R369 shows none, log 14). -/
def State.popCq (s : State) : State := s.setCp (Config.cpQueuePop s.cp.state)

/-- STDCQ (R369). -/
def storeDcq (a : Word) (s : State) : State :=
  if s.psr.s then
    cpStore .double a
      (fun s =>
        if s.cfg.hasCq then
          s.writingDouble s.dataAsi a (s.cqFront.extractLsb' 32 32) (s.cqFront.extractLsb' 0 32) fun t => t.popCq.advance
        else raise .cpException s) s
  else raise .privilegedInstruction s

/-- cp_exception of a CPop (R634): at once, or deferred to the next coprocessor instruction. -/
def cpTrap (s : State) : State :=
  if s.cfg.cpTrapsDeferred then { s with cp := { s.cp with exceptionPending := true } }.advance else raise .cpException s

/-- The coprocessor's state after an operation: CPop1 leaves the condition code as it was (R631), CPop2 may change it (R632). -/
def cpOperated (which : Nat) (old new : CpState) : CpState := if which = 1 then { new with cc := old.cc } else new

/-- CPop1 and CPop2 (R631, R632): what the operation does is CP_OPERATE's; one the coprocessor lacks is a cp_exception, and leaves the
coprocessor's state, its queue among it, as it was (DESIGN CHOICE, log 14: R634 leaves that to the coprocessor). -/
def cpOp (which : Nat) (name : String) (rd rs1 : RegNum) (opc : BitVec 9) (rs2 : RegNum) (s : State) : State :=
  if s.cpEnabled then
    s.cpReady fun s =>
      if s.cfg.unimplSet.contains name then cpTrap s
      else
        let r := Config.cpOperate which rd rs1 opc rs2 s.cp.state
        let t := s.setCp (cpOperated which s.cp.state r.1)
        if s.cfg.cpExceptionsPossible && r.2 then cpTrap t else t.advance
  else raise .cpDisabled s

/-- LDC (R347). -/
def execLdc (rd rs1 : RegNum) (op2 : Operand2) (s : State) : Answer :=
  .next (loadCplace (.register rd) (s.address rs1 op2) s)

/-- LDDC (R348). -/
def execLddc (rd rs1 : RegNum) (op2 : Operand2) (s : State) : Answer :=
  .next (loadDc rd (s.address rs1 op2) s)

/-- LDCSR (R349). -/
def execLdcsr (rs1 : RegNum) (op2 : Operand2) (s : State) : Answer :=
  .next (loadCplace .status (s.address rs1 op2) s)

/-- STC (R366). -/
def execStc (rd rs1 : RegNum) (op2 : Operand2) (s : State) : Answer :=
  .next (storeCplace (.register rd) (s.address rs1 op2) s)

/-- STDC (R367). -/
def execStdc (rd rs1 : RegNum) (op2 : Operand2) (s : State) : Answer :=
  .next (storeDc rd (s.address rs1 op2) s)

/-- STCSR (R368). -/
def execStcsr (rs1 : RegNum) (op2 : Operand2) (s : State) : Answer :=
  .next (storeCplace .status (s.address rs1 op2) s)

/-- STDCQ (R369). -/
def execStdcq (rs1 : RegNum) (op2 : Operand2) (s : State) : Answer :=
  .next (storeDcq (s.address rs1 op2) s)

/-- CPop1 (R631). -/
def execCpop1 (rd rs1 : RegNum) (opc : BitVec 9) (rs2 : RegNum) (s : State) : Answer :=
  .next (cpOp 1 "CPop1" rd rs1 opc rs2 s)

/-- CPop2 (R632). -/
def execCpop2 (rd rs1 : RegNum) (opc : BitVec 9) (rs2 : RegNum) (s : State) : Answer :=
  .next (cpOp 2 "CPop2" rd rs1 opc rs2 s)

end Sys2Proof.Machine
end

