-- ==== Sys2Proof/Machine/FloatOps.lean ====
section
/-! DEFINITION. Floating-point loads and stores (spec/40_load_store.md R344 to R346, R358, R359, R364, R365) and the FPops
(spec/45_floating_point.md R560 to R597). -/

namespace Sys2Proof.Machine

/-- The checks of a floating-point load (R323 steps 2 to 5), `badReg` being LDDF's odd rd. Where traps are deferred and misaligned registers
trap, an LDDF with an odd rd takes fp_exception with ftt invalid_fp_register at once in every state of the FPU, which stays as it is:
R323 steps 4 and 5 and R345 have that order, R107 and R553 step 2 let nothing but the move out of fp_exception_pending trap and put
the pending exception or the sequence error first. In fp_exception_pending that ftt overwrites the pending exception's, which the
fp_exception taken later then reports (DESIGN CHOICEs, log 34). -/
def fpLoad (size : AccessSize) (badReg : Bool) (a : Word) (k : State → State) (s : State) : State :=
  if s.fpEnabled then
    s.ifAligned size a fun s =>
      if s.cfg.fpMisalignedRegTraps && badReg then raiseFp fttInvalidRegister s else s.fpReady k
  else raise .fpDisabled s

/-- The checks of a floating-point store (R325 steps 2 to 4), `badReg` being STDF's odd rd. In fp_exception state of an FPU whose traps
are deferred, an STDF with an odd rd, where misaligned registers trap, takes fp_exception with ftt invalid_fp_register (R325 step 4, R359),
although R107 says that no store there can cause one; the FPU's mode and queue stay as they were (DESIGN CHOICE, log 34). -/
def fpStore (size : AccessSize) (badReg : Bool) (a : Word) (k : State → State) (s : State) : State :=
  if s.fpEnabled then
    s.ifAligned size a fun s =>
      s.fpStoreReady fun s =>
        if s.cfg.fpMisalignedRegTraps && badReg then raiseFp fttInvalidRegister s else k s
  else raise .fpDisabled s

/-- LDF (R344). -/
def loadF (rd : RegNum) (a : Word) (s : State) : State :=
  fpLoad .word false a (fun s => s.reading s.dataAsi .word a fun w t => (t.setFreg rd w).advance) s

/-- LDDF (R345): the even register is written before the second word is read. -/
def loadDf (rd : RegNum) (a : Word) (s : State) : State :=
  fpLoad .double (rd.getLsbD 0) a
    (fun s => s.readingDouble s.dataAsi a (fun w0 t => t.setFreg (evenReg rd) w0)
      fun w1 t => (t.setFreg (oddReg rd) w1).advance) s

/-- Three instructions must not be FBfcc (R765, U45). -/
def State.fccLoaded (s : State) : State := { s with hzLdfsr := 4 }

/-- LDFSR (R346). -/
def loadFsrWord (a : Word) (s : State) : State :=
  fpLoad .word false a (fun s => s.reading s.dataAsi .word a fun w t => (t.loadFsr w).fccLoaded.advance) s

/-- STF (R358). -/
def storeF (rd : RegNum) (a : Word) (s : State) : State :=
  fpStore .word false a (fun s => s.writing s.dataAsi .word a (s.freg rd) State.advance) s

/-- STDF (R359). -/
def storeDf (rd : RegNum) (a : Word) (s : State) : State :=
  fpStore .double (rd.getLsbD 0) a
    (fun s => s.writingDouble s.dataAsi a (s.freg (evenReg rd)) (s.freg (oddReg rd)) State.advance) s

/-- STFSR (R364): no FPop is ever still executing, so it stores at once (conflict C18); ftt stays (decision D9). -/
def storeFsr (a : Word) (s : State) : State :=
  fpStore .word false a (fun s => s.writing s.dataAsi .word a s.fsrWord State.advance) s

/-- The queue advances; empty, the FPU is in fp_execute again (R106, R365). -/
def State.popFq (s : State) : State :=
  { s with fq := s.fq.tail, fpuMode := if s.fq.tail.isEmpty then .execute else s.fpuMode }

/-- STDFQ (R365). -/
def storeDfq (a : Word) (s : State) : State :=
  if s.psr.s then
    fpStore .double false a
      (fun s =>
        if s.qne then
          let e := s.fq.headD 0#64
          s.writingDouble s.dataAsi a (e.extractLsb' 32 32) (e.extractLsb' 0 32) fun t => t.popFq.advance
        else raiseFp fttSequenceError s) s
  else raise .privilegedInstruction s

/-- LDF (R344). -/
def execLdf (rd rs1 : RegNum) (op2 : Operand2) (s : State) : Answer :=
  .next (loadF rd (s.address rs1 op2) s)

/-- LDDF (R345). -/
def execLddf (rd rs1 : RegNum) (op2 : Operand2) (s : State) : Answer :=
  .next (loadDf rd (s.address rs1 op2) s)

/-- LDFSR (R346). -/
def execLdfsr (rs1 : RegNum) (op2 : Operand2) (s : State) : Answer :=
  .next (loadFsrWord (s.address rs1 op2) s)

/-- STF (R358). -/
def execStf (rd rs1 : RegNum) (op2 : Operand2) (s : State) : Answer :=
  .next (storeF rd (s.address rs1 op2) s)

/-- STDF (R359). -/
def execStdf (rd rs1 : RegNum) (op2 : Operand2) (s : State) : Answer :=
  .next (storeDf rd (s.address rs1 op2) s)

/-- STFSR (R364). -/
def execStfsr (rs1 : RegNum) (op2 : Operand2) (s : State) : Answer :=
  .next (storeFsr (s.address rs1 op2) s)

/-- STDFQ (R365). -/
def execStdfq (rs1 : RegNum) (op2 : Operand2) (s : State) : Answer :=
  .next (storeDfq (s.address rs1 op2) s)

/-- FiTOs (R560). -/
def execFitos (rd rs2 : RegNum) (s : State) : Answer :=
  .next (fpUnary "FiTOs" .single .single (fun env a => fpFromInt .single env (BitVec.ofNat 32 a)) rd rs2 s)

/-- FiTOd (R561). -/
def execFitod (rd rs2 : RegNum) (s : State) : Answer :=
  .next (fpUnary "FiTOd" .single .double (fun env a => fpFromInt .double env (BitVec.ofNat 32 a)) rd rs2 s)

/-- FiTOq (R562). -/
def execFitoq (rd rs2 : RegNum) (s : State) : Answer :=
  .next (fpUnary "FiTOq" .single .quad (fun env a => fpFromInt .quad env (BitVec.ofNat 32 a)) rd rs2 s)

/-- FsTOi (R563). -/
def execFstoi (rd rs2 : RegNum) (s : State) : Answer :=
  .next (fpUnary "FsTOi" .single .single (fpToInt .single) rd rs2 s)

/-- FdTOi (R564). -/
def execFdtoi (rd rs2 : RegNum) (s : State) : Answer :=
  .next (fpUnary "FdTOi" .double .single (fpToInt .double) rd rs2 s)

/-- FqTOi (R565). -/
def execFqtoi (rd rs2 : RegNum) (s : State) : Answer :=
  .next (fpUnary "FqTOi" .quad .single (fpToInt .quad) rd rs2 s)

/-- FsTOd (R566). -/
def execFstod (rd rs2 : RegNum) (s : State) : Answer :=
  .next (fpUnary "FsTOd" .single .double (fpConvert .single .double) rd rs2 s)

/-- FsTOq (R567). -/
def execFstoq (rd rs2 : RegNum) (s : State) : Answer :=
  .next (fpUnary "FsTOq" .single .quad (fpConvert .single .quad) rd rs2 s)

/-- FdTOs (R568). -/
def execFdtos (rd rs2 : RegNum) (s : State) : Answer :=
  .next (fpUnary "FdTOs" .double .single (fpConvert .double .single) rd rs2 s)

/-- FdTOq (R569). -/
def execFdtoq (rd rs2 : RegNum) (s : State) : Answer :=
  .next (fpUnary "FdTOq" .double .quad (fpConvert .double .quad) rd rs2 s)

/-- FqTOs (R570). -/
def execFqtos (rd rs2 : RegNum) (s : State) : Answer :=
  .next (fpUnary "FqTOs" .quad .single (fpConvert .quad .single) rd rs2 s)

/-- FqTOd (R571). -/
def execFqtod (rd rs2 : RegNum) (s : State) : Answer :=
  .next (fpUnary "FqTOd" .quad .double (fpConvert .quad .double) rd rs2 s)

/-- FMOVs (R572). -/
def execFmovs (rd rs2 : RegNum) (s : State) : Answer :=
  .next (fpMove "FMOVs" (fun w => w) rd rs2 s)

/-- FNEGs (R573). -/
def execFnegs (rd rs2 : RegNum) (s : State) : Answer :=
  .next (fpMove "FNEGs" (fun w => w ^^^ 0x80000000#32) rd rs2 s)

/-- FABSs (R574). -/
def execFabss (rd rs2 : RegNum) (s : State) : Answer :=
  .next (fpMove "FABSs" (fun w => w &&& 0x7FFFFFFF#32) rd rs2 s)

/-- FSQRTs (R575). -/
def execFsqrts (rd rs2 : RegNum) (s : State) : Answer :=
  .next (fpUnary "FSQRTs" .single .single (fpSqrt .single) rd rs2 s)

/-- FSQRTd (R576). -/
def execFsqrtd (rd rs2 : RegNum) (s : State) : Answer :=
  .next (fpUnary "FSQRTd" .double .double (fpSqrt .double) rd rs2 s)

/-- FSQRTq (R577). -/
def execFsqrtq (rd rs2 : RegNum) (s : State) : Answer :=
  .next (fpUnary "FSQRTq" .quad .quad (fpSqrt .quad) rd rs2 s)

/-- FADDs (R578). -/
def execFadds (rd rs1 rs2 : RegNum) (s : State) : Answer :=
  .next (fpBinary "FADDs" .single .single (fpAdd .single) rd rs1 rs2 s)

/-- FADDd (R579). -/
def execFaddd (rd rs1 rs2 : RegNum) (s : State) : Answer :=
  .next (fpBinary "FADDd" .double .double (fpAdd .double) rd rs1 rs2 s)

/-- FADDq (R580). -/
def execFaddq (rd rs1 rs2 : RegNum) (s : State) : Answer :=
  .next (fpBinary "FADDq" .quad .quad (fpAdd .quad) rd rs1 rs2 s)

/-- FSUBs (R581). -/
def execFsubs (rd rs1 rs2 : RegNum) (s : State) : Answer :=
  .next (fpBinary "FSUBs" .single .single (fpSub .single) rd rs1 rs2 s)

/-- FSUBd (R582). -/
def execFsubd (rd rs1 rs2 : RegNum) (s : State) : Answer :=
  .next (fpBinary "FSUBd" .double .double (fpSub .double) rd rs1 rs2 s)

/-- FSUBq (R583). -/
def execFsubq (rd rs1 rs2 : RegNum) (s : State) : Answer :=
  .next (fpBinary "FSUBq" .quad .quad (fpSub .quad) rd rs1 rs2 s)

/-- FMULs (R584). -/
def execFmuls (rd rs1 rs2 : RegNum) (s : State) : Answer :=
  .next (fpBinary "FMULs" .single .single (fpMul .single .single) rd rs1 rs2 s)

/-- FMULd (R585). -/
def execFmuld (rd rs1 rs2 : RegNum) (s : State) : Answer :=
  .next (fpBinary "FMULd" .double .double (fpMul .double .double) rd rs1 rs2 s)

/-- FMULq (R586). -/
def execFmulq (rd rs1 rs2 : RegNum) (s : State) : Answer :=
  .next (fpBinary "FMULq" .quad .quad (fpMul .quad .quad) rd rs1 rs2 s)

/-- FsMULd (R587). -/
def execFsmuld (rd rs1 rs2 : RegNum) (s : State) : Answer :=
  .next (fpBinary "FsMULd" .single .double (fpMul .single .double) rd rs1 rs2 s)

/-- FdMULq (R588). -/
def execFdmulq (rd rs1 rs2 : RegNum) (s : State) : Answer :=
  .next (fpBinary "FdMULq" .double .quad (fpMul .double .quad) rd rs1 rs2 s)

/-- FDIVs (R589). -/
def execFdivs (rd rs1 rs2 : RegNum) (s : State) : Answer :=
  .next (fpBinary "FDIVs" .single .single (fpDiv .single) rd rs1 rs2 s)

/-- FDIVd (R590). -/
def execFdivd (rd rs1 rs2 : RegNum) (s : State) : Answer :=
  .next (fpBinary "FDIVd" .double .double (fpDiv .double) rd rs1 rs2 s)

/-- FDIVq (R591). -/
def execFdivq (rd rs1 rs2 : RegNum) (s : State) : Answer :=
  .next (fpBinary "FDIVq" .quad .quad (fpDiv .quad) rd rs1 rs2 s)

/-- FCMPs (R592). -/
def execFcmps (rs1 rs2 : RegNum) (s : State) : Answer :=
  .next (fpCmp "FCMPs" false .single rs1 rs2 s)

/-- FCMPd (R593). -/
def execFcmpd (rs1 rs2 : RegNum) (s : State) : Answer :=
  .next (fpCmp "FCMPd" false .double rs1 rs2 s)

/-- FCMPq (R594). -/
def execFcmpq (rs1 rs2 : RegNum) (s : State) : Answer :=
  .next (fpCmp "FCMPq" false .quad rs1 rs2 s)

/-- FCMPEs (R595). -/
def execFcmpes (rs1 rs2 : RegNum) (s : State) : Answer :=
  .next (fpCmp "FCMPEs" true .single rs1 rs2 s)

/-- FCMPEd (R596). -/
def execFcmped (rs1 rs2 : RegNum) (s : State) : Answer :=
  .next (fpCmp "FCMPEd" true .double rs1 rs2 s)

/-- FCMPEq (R597). -/
def execFcmpeq (rs1 rs2 : RegNum) (s : State) : Answer :=
  .next (fpCmp "FCMPEq" true .quad rs1 rs2 s)

/-- FPop1__unassigned_opf (an unassigned opf) (R556). -/
def execFpop1Unassigned (_rd _rs1 : RegNum) (_opf : BitVec 9) (_rs2 : RegNum) (s : State) : Answer :=
  .next (fpUnassigned s)

/-- FPop2__unassigned_opf (an unassigned opf) (R556). -/
def execFpop2Unassigned (_rd _rs1 : RegNum) (_opf : BitVec 9) (_rs2 : RegNum) (s : State) : Answer :=
  .next (fpUnassigned s)

end Sys2Proof.Machine
end

