-- ==== Sys2Proof/Machine/LoadStore.lean ====
section
/-! DEFINITION. Loads, stores and atomic load-stores of the integer unit (spec/40_load_store.md R320 to R363). -/

namespace Sys2Proof.Machine

/-- The checks of an alternate-space instruction (R322): privileged_instruction, then illegal_instruction for i = 1; then go
on with the asi and rs2. -/
def State.alternate (s : State) (alt : AltAddr) (k : BitVec 8 → RegNum → State) : State :=
  if s.psr.s then
    match alt with
    | .reg asi rs2 => k asi rs2
    | .imm _ => raise .illegalInstruction s
  else raise .privilegedInstruction s

/-- A load of a byte, halfword or word into r[rd] (R323, R332 to R336). -/
def loadReg (size : AccessSize) (signed : Bool) (rd : RegNum) (asi : BitVec 8) (a : Word) (s : State) : State :=
  s.ifAligned size a fun s =>
    s.reading asi size a fun w t => (t.setReg rd (loadValue size signed w a)).advance

/-- The odd-rd check of a doubleword access (R331). -/
def State.oddRdTraps (s : State) (rd : RegNum) : Bool := s.cfg.lddOddRdTraps && rd.getLsbD 0

/-- A load of a doubleword into a register pair (R337): the even register is written before the second word is read. -/
def loadRegDouble (rd : RegNum) (asi : BitVec 8) (a : Word) (s : State) : State :=
  if s.oddRdTraps rd then raise .illegalInstruction s
  else s.ifAligned .double a fun s =>
    s.readingDouble asi a (fun w0 t => t.setReg (evenReg rd) w0) fun w1 t => (t.setReg (oddReg rd) w1).advance

/-- A store of the low byte or halfword, or the word, of r[rd] (R325, R350 to R352). -/
def storeReg (size : AccessSize) (rd : RegNum) (asi : BitVec 8) (a : Word) (s : State) : State :=
  s.ifAligned size a fun s => s.writing asi size a (s.reg rd) State.advance

/-- A store of a register pair (R353). -/
def storeRegDouble (rd : RegNum) (asi : BitVec 8) (a : Word) (s : State) : State :=
  if s.oddRdTraps rd then raise .illegalInstruction s
  else s.ifAligned .double a fun s =>
    s.writingDouble asi a (s.reg (evenReg rd)) (s.reg (oddReg rd)) State.advance

/-- Assert pb_block_ldst_byte (R360). -/
def State.blockByte (s : State) (b : Bool) : State := { s with pbBlockByte := b }

/-- Assert pb_block_ldst_word (R362). -/
def State.blockWord (s : State) (b : Bool) : State := { s with pbBlockWord := b }

/-- The read and write of an atomic load-store between asserting and releasing a block signal, which every exit releases
(R360, R362, conflict C17); r[rd] is written only when both succeed (U40). On a page that grants the load and not the store the
load part has already set the entry's R bit when the store part faults (DESIGN CHOICE, log 15); where the MMU suppresses the load part's
fault (NF = 1), a fault of the store part is recorded after it, with the store's AT and OW = 1 (DESIGN CHOICE, log 20). -/
def atomicAccess (block : State → Bool → State) (size : AccessSize) (rd : RegNum) (asi : BitVec 8) (a new : Word)
    (s : State) : State :=
  match (block s true).memoryRead asi false (size == .word) a with
  | (t, .error e) => raise (t.dataTrap e) (block t false)
  | (t, .ok w) =>
    match t.memoryWrite asi (size == .word) a (storeMask size a) (storeData size a new) with
    | (u, some e) => raise (u.dataTrap e) (block u false)
    | (u, none) => ((block u false).setReg rd (loadValue size false w a)).advance

/-- LDSTUB's access (R360): the byte becomes 0xFF. The word driven is 0xFFFFFFFF shifted left into the lane, so that the lanes right of it,
which the mask leaves out, are 0: R360 has 0xFFFFFFFF there, R128 0xFF shifted (DESIGN CHOICE, log 15; only a device's record shows it). -/
def loadStoreByte (rd : RegNum) (asi : BitVec 8) (a : Word) (s : State) : State :=
  atomicAccess State.blockByte .byte rd asi a 0xFFFFFFFF#32 s

/-- SWAP's access (R362). -/
def swapWord (rd : RegNum) (asi : BitVec 8) (a : Word) (s : State) : State :=
  s.ifAligned .word a fun s => atomicAccess State.blockWord .word rd asi a (s.reg rd) s

/-- LDSB, load signed byte (R332). -/
def execLdsb (rd rs1 : RegNum) (op2 : Operand2) (s : State) : Answer :=
  .next (loadReg .byte true rd s.dataAsi (s.address rs1 op2) s)

/-- LDSH, load signed halfword (R333). -/
def execLdsh (rd rs1 : RegNum) (op2 : Operand2) (s : State) : Answer :=
  .next (loadReg .half true rd s.dataAsi (s.address rs1 op2) s)

/-- LDUB, load unsigned byte (R334). -/
def execLdub (rd rs1 : RegNum) (op2 : Operand2) (s : State) : Answer :=
  .next (loadReg .byte false rd s.dataAsi (s.address rs1 op2) s)

/-- LDUH, load unsigned halfword (R335). -/
def execLduh (rd rs1 : RegNum) (op2 : Operand2) (s : State) : Answer :=
  .next (loadReg .half false rd s.dataAsi (s.address rs1 op2) s)

/-- LD, load word (R336). -/
def execLd (rd rs1 : RegNum) (op2 : Operand2) (s : State) : Answer :=
  .next (loadReg .word false rd s.dataAsi (s.address rs1 op2) s)

/-- LDD, load doubleword (R337). -/
def execLdd (rd rs1 : RegNum) (op2 : Operand2) (s : State) : Answer :=
  .next (loadRegDouble rd s.dataAsi (s.address rs1 op2) s)

/-- LDSBA, load signed byte from alternate space (R338). -/
def execLdsba (rd rs1 : RegNum) (alt : AltAddr) (s : State) : Answer :=
  .next (s.alternate alt fun asi rs2 => loadReg .byte true rd asi (s.altAddress rs1 rs2) s)

/-- LDSHA, load signed halfword from alternate space (R339). -/
def execLdsha (rd rs1 : RegNum) (alt : AltAddr) (s : State) : Answer :=
  .next (s.alternate alt fun asi rs2 => loadReg .half true rd asi (s.altAddress rs1 rs2) s)

/-- LDUBA, load unsigned byte from alternate space (R340). -/
def execLduba (rd rs1 : RegNum) (alt : AltAddr) (s : State) : Answer :=
  .next (s.alternate alt fun asi rs2 => loadReg .byte false rd asi (s.altAddress rs1 rs2) s)

/-- LDUHA, load unsigned halfword from alternate space (R341). -/
def execLduha (rd rs1 : RegNum) (alt : AltAddr) (s : State) : Answer :=
  .next (s.alternate alt fun asi rs2 => loadReg .half false rd asi (s.altAddress rs1 rs2) s)

/-- LDA, load word from alternate space (R342). -/
def execLda (rd rs1 : RegNum) (alt : AltAddr) (s : State) : Answer :=
  .next (s.alternate alt fun asi rs2 => loadReg .word false rd asi (s.altAddress rs1 rs2) s)

/-- LDDA, load doubleword from alternate space (R343). -/
def execLdda (rd rs1 : RegNum) (alt : AltAddr) (s : State) : Answer :=
  .next (s.alternate alt fun asi rs2 => loadRegDouble rd asi (s.altAddress rs1 rs2) s)

/-- STB, store byte (R350). -/
def execStb (rd rs1 : RegNum) (op2 : Operand2) (s : State) : Answer :=
  .next (storeReg .byte rd s.dataAsi (s.address rs1 op2) s)

/-- STH, store halfword (R351). -/
def execSth (rd rs1 : RegNum) (op2 : Operand2) (s : State) : Answer :=
  .next (storeReg .half rd s.dataAsi (s.address rs1 op2) s)

/-- ST, store word (R352). -/
def execSt (rd rs1 : RegNum) (op2 : Operand2) (s : State) : Answer :=
  .next (storeReg .word rd s.dataAsi (s.address rs1 op2) s)

/-- STD, store doubleword (R353). -/
def execStd (rd rs1 : RegNum) (op2 : Operand2) (s : State) : Answer :=
  .next (storeRegDouble rd s.dataAsi (s.address rs1 op2) s)

/-- STBA, store byte into alternate space (R354). -/
def execStba (rd rs1 : RegNum) (alt : AltAddr) (s : State) : Answer :=
  .next (s.alternate alt fun asi rs2 => storeReg .byte rd asi (s.altAddress rs1 rs2) s)

/-- STHA, store halfword into alternate space (R355). -/
def execStha (rd rs1 : RegNum) (alt : AltAddr) (s : State) : Answer :=
  .next (s.alternate alt fun asi rs2 => storeReg .half rd asi (s.altAddress rs1 rs2) s)

/-- STA, store word into alternate space (R356). -/
def execSta (rd rs1 : RegNum) (alt : AltAddr) (s : State) : Answer :=
  .next (s.alternate alt fun asi rs2 => storeReg .word rd asi (s.altAddress rs1 rs2) s)

/-- STDA, store doubleword into alternate space (R357). -/
def execStda (rd rs1 : RegNum) (alt : AltAddr) (s : State) : Answer :=
  .next (s.alternate alt fun asi rs2 => storeRegDouble rd asi (s.altAddress rs1 rs2) s)

/-- LDSTUB, atomic load-store unsigned byte (R360). -/
def execLdstub (rd rs1 : RegNum) (op2 : Operand2) (s : State) : Answer :=
  .next (loadStoreByte rd s.dataAsi (s.address rs1 op2) s)

/-- LDSTUBA, atomic load-store unsigned byte into alternate space (R361). -/
def execLdstuba (rd rs1 : RegNum) (alt : AltAddr) (s : State) : Answer :=
  .next (s.alternate alt fun asi rs2 => loadStoreByte rd asi (s.altAddress rs1 rs2) s)

/-- SWAP, swap r register with memory (R362). -/
def execSwap (rd rs1 : RegNum) (op2 : Operand2) (s : State) : Answer :=
  .next (swapWord rd s.dataAsi (s.address rs1 op2) s)

/-- SWAPA, swap r register with alternate space memory (R363). -/
def execSwapa (rd rs1 : RegNum) (alt : AltAddr) (s : State) : Answer :=
  .next (s.alternate alt fun asi rs2 => swapWord rd asi (s.altAddress rs1 rs2) s)

end Sys2Proof.Machine
end

