-- ==== Sys2Proof/Machine/Logical.lean ====
section
/-! DEFINITION. Logical, shift, SETHI and NOP instructions (spec/41_logical_shift_sethi.md R390 to R409). -/

namespace Sys2Proof.Machine

/-- A logical instruction (R390): r[rd] becomes `f` of r[rs1] and operand2. -/
def logical (f : Word → Word → Word) (rd rs1 : RegNum) (op2 : Operand2) (s : State) : State :=
  (s.setReg rd (f (s.reg rs1) (s.operand2 op2))).advance

/-- Its cc form (R391). -/
def logicalCc (f : Word → Word → Word) (rd rs1 : RegNum) (op2 : Operand2) (s : State) : State :=
  ((s.setReg rd (f (s.reg rs1) (s.operand2 op2))).setIcc (iccLogic (f (s.reg rs1) (s.operand2 op2)))).advance

/-- A shift (R404). -/
def shift (f : Word → Nat → Word) (rd rs1 : RegNum) (cnt : ShiftCount) (s : State) : State :=
  (s.setReg rd (f (s.reg rs1) (s.shiftCount cnt))).advance

/-- AND (R392). -/
def execAnd (rd rs1 : RegNum) (op2 : Operand2) (s : State) : Answer :=
  .next (logical (fun a b => a &&& b) rd rs1 op2 s)

/-- ANDcc (R393). -/
def execAndcc (rd rs1 : RegNum) (op2 : Operand2) (s : State) : Answer :=
  .next (logicalCc (fun a b => a &&& b) rd rs1 op2 s)

/-- ANDN (R394). -/
def execAndn (rd rs1 : RegNum) (op2 : Operand2) (s : State) : Answer :=
  .next (logical (fun a b => a &&& ~~~b) rd rs1 op2 s)

/-- ANDNcc (R395). -/
def execAndncc (rd rs1 : RegNum) (op2 : Operand2) (s : State) : Answer :=
  .next (logicalCc (fun a b => a &&& ~~~b) rd rs1 op2 s)

/-- OR (R396). -/
def execOr (rd rs1 : RegNum) (op2 : Operand2) (s : State) : Answer :=
  .next (logical (fun a b => a ||| b) rd rs1 op2 s)

/-- ORcc (R397). -/
def execOrcc (rd rs1 : RegNum) (op2 : Operand2) (s : State) : Answer :=
  .next (logicalCc (fun a b => a ||| b) rd rs1 op2 s)

/-- ORN (R398). -/
def execOrn (rd rs1 : RegNum) (op2 : Operand2) (s : State) : Answer :=
  .next (logical (fun a b => a ||| ~~~b) rd rs1 op2 s)

/-- ORNcc (R399). -/
def execOrncc (rd rs1 : RegNum) (op2 : Operand2) (s : State) : Answer :=
  .next (logicalCc (fun a b => a ||| ~~~b) rd rs1 op2 s)

/-- XOR (R400). -/
def execXor (rd rs1 : RegNum) (op2 : Operand2) (s : State) : Answer :=
  .next (logical (fun a b => a ^^^ b) rd rs1 op2 s)

/-- XORcc (R401). -/
def execXorcc (rd rs1 : RegNum) (op2 : Operand2) (s : State) : Answer :=
  .next (logicalCc (fun a b => a ^^^ b) rd rs1 op2 s)

/-- XNOR (R402). -/
def execXnor (rd rs1 : RegNum) (op2 : Operand2) (s : State) : Answer :=
  .next (logical (fun a b => a ^^^ ~~~b) rd rs1 op2 s)

/-- XNORcc (R403). -/
def execXnorcc (rd rs1 : RegNum) (op2 : Operand2) (s : State) : Answer :=
  .next (logicalCc (fun a b => a ^^^ ~~~b) rd rs1 op2 s)

/-- SLL, shift left logical (R405). -/
def execSll (rd rs1 : RegNum) (cnt : ShiftCount) (s : State) : Answer :=
  .next (shift (fun a n => a <<< n) rd rs1 cnt s)

/-- SRL, shift right logical (R406). -/
def execSrl (rd rs1 : RegNum) (cnt : ShiftCount) (s : State) : Answer :=
  .next (shift (fun a n => a >>> n) rd rs1 cnt s)

/-- SRA, shift right arithmetic (R407). -/
def execSra (rd rs1 : RegNum) (cnt : ShiftCount) (s : State) : Answer :=
  .next (shift (fun a n => a.sshiftRight n) rd rs1 cnt s)

/-- SETHI, set high-order 22 bits (R408). -/
def execSethi (rd : RegNum) (imm22 : BitVec 22) (s : State) : Answer :=
  .next (s.setReg rd (sethiValue imm22)).advance

/-- NOP, no operation (R409). -/
def execNop (s : State) : Answer :=
  .next s.advance

end Sys2Proof.Machine
end

