-- ==== Sys2Proof/Machine/Loop.lean ====
section
/-! DEFINITION. The execution loop (spec/60_exceptions.md R700) and the processor modes (spec/70_reset_and_hazards.md R750).
A trap an instruction raises is entered in its own step; the next step first sees whether a reset or a request of the platform comes
before it, and then takes the entry back (log 5). What stands in `requests` when a step begins was put there by the platform. -/

namespace Sys2Proof.Machine

/-- With ET = 0 nothing but a reset interrupts: every request the platform makes between instructions is discarded (R673, R676,
R708, decision D39). -/
def Requests.maskInterrupting (r : Requests) : Requests := { Requests.none with resetTrap := r.resetTrap }

/-- The requests the platform makes that count at this step (R708, R10): with ET = 1 those the implementation detects. -/
def State.platformRequests (s : State) : Requests :=
  if s.psr.et then s.requests.detected s.cfg else s.requests.maskInterrupting

/-- The interrupt acceptance test (R694), and the discarding of R708. -/
def State.acceptInterrupt (s : State) : State :=
  if s.psr.et && (s.irl == 15#4 || s.psr.pil.ult s.irl) then
    { s with requests := { s.platformRequests with interruptLevel := s.irl } }
  else { s with requests := s.platformRequests }

/-- What a step does before it fetches (R700): a reset trap, or the highest request (R704), is taken. -/
def State.boundary (s : State) : State :=
  let t := s.acceptInterrupt
  if t.requests.resetTrap then takeReset t
  else match t.requests.select with
    | some e => takeTrap e t
    | none => t

/-- Something comes between the last instruction, which raised a trap at `r`, and that trap's entry (R700): bp_reset_in is asserted, or
the platform has made a request that counts. -/
def State.intervenes (s : State) (r : Raised) : Bool :=
  s.resetIn || { s with psr := r.psr }.platformRequests != Requests.none

/-- The start of a step after an instruction that raised a trap (R14, R700): if something intervenes the entry is taken back, for the
selection to be made anew; else it stands. -/
def State.settle (s : State) : State :=
  match s.raised with
  | some r => if s.intervenes r then s.undoTrap r else { s with requests := Requests.none, raised := none }
  | none => s

/-- The annulled instruction is passed over (R58). -/
def State.passAnnulled (s : State) : State := { s with annul := false }.advance

/-- The word now being executed. -/
def State.setIr (s : State) (w : Word) : State := { s with ir := w }

/-- The injected r register error is used up (R680). -/
def State.clearRegisterError (s : State) : State := { s with rRegisterError := false }

/-- An instruction has been dispatched: unless it raised a trap it counts as executed (R700, R765, R768). -/
def State.finish (s : State) : State := if s.raised.isSome then s else s.aged

/-- The same of an answer. -/
def finished : Answer → Answer
  | .next t => .next t.finish
  | .fault f => .fault f
  | .refused r => .refused r

/-- Dispatch (R700): the exceptions that precede the instruction's own rule, then its rule. With ET = 0 a RETT stopped here, by an
injected r register error or because the implementation lacks it, enters error_mode with tt as it was: R707's prose has tt written for a
RETT that traps with ET = 0, R487 writes it for the three causes it lists only (DESIGN CHOICE, log 28). -/
def dispatch (i : Instr) (s : State) : Answer :=
  if s.rRegisterError && detects s.cfg .rRegisterAccessError && readsRegister i then
    .next (raise .rRegisterAccessError s.clearRegisterError)
  else if isUnimplemented s.cfg i then
    .next (raise (if isPrivileged s i && !s.psr.s then .privilegedInstruction else .illegalInstruction) s)
  else finished (exec i s)

/-- Decode and dispatch the word fetched; an unassigned op2 or op3 is illegal_instruction (R280). -/
def runWord (w : Word) (s : State) : Answer :=
  match decode w with
  | .ok i => dispatch i s
  | .error _ => .next (raise .illegalInstruction s)

/-- From the fetch on (R700). The fetch of an annulled instruction is made, and what it answers ignored. -/
def fetchExecute (s : State) : Answer :=
  match s.memoryRead s.fetchAsi true true s.pc with
  | (t, r) =>
    if t.annul then .next t.passAnnulled
    else match r with
      | .error e => .next (raise (t.fetchTrap e) t)
      | .ok w => runWord w (t.setIr w)

/-- A step in execute_mode (R700). -/
def executeStep (s : State) : Answer :=
  let t := s.boundary
  if t.mode = .execute then fetchExecute t.tickPending.expireIBuf else .next t

/-- bp_reset_in is asserted: reset_mode, pb_error cleared (R750). -/
def State.enterReset (s : State) : State := { s with mode := .reset, pbError := false }

/-- reset_mode is left with the reset trap requested (R750). -/
def State.leaveReset (s : State) : State :=
  { s with mode := .execute, requests := { s.requests with resetTrap := true } }

/-- mode_step (R750), once it is settled what became of a raised trap. -/
def settledStep (s : State) : Answer :=
  match s.mode with
  | .reset => if s.resetIn then .next s else .next s.leaveReset
  | .error => if s.resetIn then .next s.enterReset else .next s
  | .execute => if s.resetIn then .next s.enterReset else executeStep s

/-- mode_step (R750). -/
def modeStep (s : State) : Answer := settledStep s.settle

/-- The memory key the next fetch reads, where it reaches memory. -/
def State.fetchKey (s : State) : Nat :=
  match s.reach s.fetchAsi true false s.pc with
  | (_, .key k) => k
  | _ => s.pc.toNat

/-- The instruction word `w`, big-endian (R122), stored where the next fetch reads, no old copy of it kept, not annulled. -/
def State.placeWord (s : State) (w : Word) : State :=
  { s with
    mem := Memory.writeMasked s.mem s.fetchKey 0xF#4 w
    ibuf := s.ibuf.filter (fun e => !e.ofKey s.fetchKey)
    annul := false }

end Sys2Proof.Machine
end

