-- ==== Sys2Proof/Machine/Step.lean ====
section
/-! DEFINITION. One step of the machine, and the placing of an instruction where the next step fetches it. -/

namespace Sys2Proof.Machine

/-- One step (R750). -/
def step (s : State) : Host.Outcome State Fault Refusal := modeStep s

/-- `s` with the instruction whose `nbits` bits are `w` where `step` fetches next (log 6). -/
def State.withFetchWord (s : State) (nbits w : Nat) : State := s.placeWord (BitVec.ofNat 32 (w % 2 ^ nbits))

end Sys2Proof.Machine
end

