-- ==== Sys2Proof/Machine/Synthetic.lean ====
section
/-! DEFINITION. The suggested names of registers, the operand forms of the assembly language, and the synthetic instructions
(spec/31_assembly_syntax.md R301 to R311): what each stands for in instructions of the machine. -/

namespace Sys2Proof.Machine

/-! Register names (R301). -/

/-- %g0 to %g7. -/
def globalReg (n : BitVec 3) : RegNum := 0b00#2 ++ n

/-- %o0 to %o7. -/
def outReg (n : BitVec 3) : RegNum := 0b01#2 ++ n

/-- %l0 to %l7. -/
def localReg (n : BitVec 3) : RegNum := 0b10#2 ++ n

/-- %i0 to %i7. -/
def inReg (n : BitVec 3) : RegNum := 0b11#2 ++ n

/-- %asr1 to %asr31 (R302): `n` is %asr(n + 1). ASR 0 is Y and has another name. -/
def asrReg (n : Fin 31) : RegNum := BitVec.ofNat 5 (n.val + 1)

/-- %sp, conventionally %o6. -/
def spReg : RegNum := outReg 6#3

/-- %fp, conventionally %i6. -/
def fpReg : RegNum := inReg 6#3

/-- %hi (R306). -/
def hi (v : Word) : BitVec 22 := v.extractLsb' 10 22

/-- %lo (R306), as an immediate. -/
def lo (v : Word) : BitVec 13 := 0#3 ++ v.extractLsb' 0 10

/-! Operand forms. -/

/-- The forms of an address (R308). -/
inductive Address where
  | reg (rs1 : RegNum)
  | regReg (rs1 rs2 : RegNum)
  | regPlus (rs1 : RegNum) (simm13 : BitVec 13)
  | regMinus (rs1 : RegNum) (simm13 : BitVec 13)
  | absolute (simm13 : BitVec 13)
  deriving DecidableEq, Repr

/-- The rs1 field of an address. -/
def Address.rs1 : Address → RegNum
  | .reg r => r
  | .regReg r _ => r
  | .regPlus r _ => r
  | .regMinus r _ => r
  | .absolute _ => 0#5

/-- The second operand of an address. Minus a simm13 of -4096, whose negation no simm13 holds, wraps to -4096 (DESIGN CHOICE,
log 37: R308 says nothing of it). -/
def Address.op2 : Address → Operand2
  | .reg _ => .reg 0#5
  | .regReg _ r => .reg r
  | .regPlus _ k => .imm k
  | .regMinus _ k => .imm (-k)
  | .absolute k => .imm k

/-- The forms of software_trap# (R304). -/
inductive SoftwareTrap where
  | reg (rs1 : RegNum)
  | regReg (rs1 rs2 : RegNum)
  | regPlus (rs1 : RegNum) (imm7 : BitVec 7)
  | regMinus (rs1 : RegNum) (imm7 : BitVec 7)
  | number (uimm7 : BitVec 7)
  deriving DecidableEq, Repr

/-- The rs1 field of a software_trap#. -/
def SoftwareTrap.rs1 : SoftwareTrap → RegNum
  | .reg r => r
  | .regReg r _ => r
  | .regPlus r _ => r
  | .regMinus r _ => r
  | .number _ => 0#5

/-- The operand of a software_trap#. -/
def SoftwareTrap.operand : SoftwareTrap → TrapOperand
  | .reg _ => .reg 0#5
  | .regReg _ r => .reg r
  | .regPlus _ k => .imm k
  | .regMinus _ k => .imm (-k)
  | .number k => .imm k

/-! Synthetic instructions (R310). -/

/-- The rows of Table A-1, and `set` (R311). -/
inductive Synthetic where
  | cmp (rs1 : RegNum) (op2 : Operand2)
  | jmp (a : Address)
  | call (a : Address)
  | tst (rs2 : RegNum)
  | ret
  | retl
  | restore
  | save
  | set (value : Word) (rd : RegNum)
  | notTo (rs1 rd : RegNum)
  | not (rd : RegNum)
  | negTo (rs2 rd : RegNum)
  | neg (rd : RegNum)
  | inc (const13 : BitVec 13) (rd : RegNum)
  | inccc (const13 : BitVec 13) (rd : RegNum)
  | dec (const13 : BitVec 13) (rd : RegNum)
  | deccc (const13 : BitVec 13) (rd : RegNum)
  | btst (op2 : Operand2) (rs1 : RegNum)
  | bset (op2 : Operand2) (rd : RegNum)
  | bclr (op2 : Operand2) (rd : RegNum)
  | btog (op2 : Operand2) (rd : RegNum)
  | clr (rd : RegNum)
  | clrb (a : Address)
  | clrh (a : Address)
  | clrWord (a : Address)
  | mov (op2 : Operand2) (rd : RegNum)
  | movFromY (rd : RegNum)
  | movFromAsr (n : Fin 31) (rd : RegNum)
  | movFromPsr (rd : RegNum)
  | movFromWim (rd : RegNum)
  | movFromTbr (rd : RegNum)
  | movToY (op2 : Operand2)
  | movToAsr (op2 : Operand2) (n : Fin 31)
  | movToPsr (op2 : Operand2)
  | movToWim (op2 : Operand2)
  | movToTbr (op2 : Operand2)
  deriving DecidableEq, Repr

/-- The instructions `set value, rd` stands for (R311): the first of the three cases that fits. For value 0 the first two both do, and R311
does not say which is meant: the model takes SETHI (DESIGN CHOICE, log 39). -/
def setExpansion (value : Word) (rd : RegNum) : List Instr :=
  if value &&& 0x1FFF#32 = 0#32 then [.sethi rd (hi value)]
  else if (value.extractLsb' 0 13).signExtend 32 = value then [.or rd 0#5 (.imm (value.extractLsb' 0 13))]
  else [.sethi rd (hi value), .or rd rd (.imm (lo value))]

/-- `rd %asrn, rd`, the instruction its word is (R512): RDASR, but STBAR for %asr15 and %g0 (R526). -/
def rdAsr (n : Fin 31) (rd : RegNum) : Instr :=
  if asrReg n = 15#5 ∧ rd = 0#5 then .stbar else .rdasr rd (asrReg n)

/-- The instructions a synthetic instruction stands for (R310). `inc rd` and its relatives without a constant have 1. -/
def Synthetic.expand : Synthetic → List Instr
  | .cmp rs1 op2 => [.subcc 0#5 rs1 op2]
  | .jmp a => [.jmpl 0#5 a.rs1 a.op2]
  | .call a => [.jmpl (outReg 7#3) a.rs1 a.op2]
  | .tst rs2 => [.orcc 0#5 0#5 (.reg rs2)]
  | .ret => [.jmpl 0#5 (inReg 7#3) (.imm 8#13)]
  | .retl => [.jmpl 0#5 (outReg 7#3) (.imm 8#13)]
  | .restore => [.restore 0#5 0#5 (.reg 0#5)]
  | .save => [.save 0#5 0#5 (.reg 0#5)]
  | .set value rd => setExpansion value rd
  | .notTo rs1 rd => [.xnor rd rs1 (.reg 0#5)]
  | .not rd => [.xnor rd rd (.reg 0#5)]
  | .negTo rs2 rd => [.sub rd 0#5 (.reg rs2)]
  | .neg rd => [.sub rd 0#5 (.reg rd)]
  | .inc k rd => [.add rd rd (.imm k)]
  | .inccc k rd => [.addcc rd rd (.imm k)]
  | .dec k rd => [.sub rd rd (.imm k)]
  | .deccc k rd => [.subcc rd rd (.imm k)]
  | .btst op2 rs1 => [.andcc 0#5 rs1 op2]
  | .bset op2 rd => [.or rd rd op2]
  | .bclr op2 rd => [.andn rd rd op2]
  | .btog op2 rd => [.xor rd rd op2]
  | .clr rd => [.or rd 0#5 (.reg 0#5)]
  | .clrb a => [.stb 0#5 a.rs1 a.op2]
  | .clrh a => [.sth 0#5 a.rs1 a.op2]
  | .clrWord a => [.st 0#5 a.rs1 a.op2]
  | .mov op2 rd => [.or rd 0#5 op2]
  | .movFromY rd => [.rdy rd]
  | .movFromAsr n rd => [rdAsr n rd]
  | .movFromPsr rd => [.rdpsr rd]
  | .movFromWim rd => [.rdwim rd]
  | .movFromTbr rd => [.rdtbr rd]
  | .movToY op2 => [.wry 0#5 op2]
  | .movToAsr op2 n => [.wrasr (asrReg n) 0#5 op2]
  | .movToPsr op2 => [.wrpsr 0#5 op2]
  | .movToWim op2 => [.wrwim 0#5 op2]
  | .movToTbr op2 => [.wrtbr 0#5 op2]

end Sys2Proof.Machine
end

