-- ==== Sys2Proof/Safety.lean ====
section
/-! DEFINITION. What a safe run is, the invariant every step keeps, and the terms statements use to say what an instruction
changes and leaves alone. -/

namespace Sys2Proof.Machine

/-- The processor has stopped in error_mode (R707, R750). -/
def State.stopped (s : State) : Prop := s.mode = .error

/-- The states of the steps that follow `s`, `n` of them; a step that answers no next state ends the run. -/
def runFrom (s : State) : Nat → Option State
  | 0 => some s
  | n + 1 =>
    match step s with
    | .next t => runFrom t n
    | _ => none

/-- A run is safe for `n` steps: it answers a next state at each of them and never stops in error_mode. -/
def safeFor (s : State) (n : Nat) : Prop := ∀ m, m ≤ n → ∃ t, runFrom s m = some t ∧ ¬ t.stopped

/-- A word address: bits 1:0 are zero (R124). -/
def wordAligned (a : Word) : Prop := a.extractLsb' 0 2 = 0#2

/-- A delayed write puts only values its register can hold (R38, R48, R520). -/
def StateWrite.legal (c : Config) : StateWrite → Prop
  | .psr w => w.cwp.toNat < c.nwindows ∧ (w.ec = true → c.hasCp = true) ∧ (w.ef = true → c.hasFpu = true)
  | .wim v => v &&& wimMask c = v
  | .tba _ => True
  | .y _ => True
  | .asr _ _ => True

/-- What the entry of a raised trap has overwritten is legal: taken back, it makes a legal state (R14, R700). -/
structure Raised.Legal (c : Config) (r : Raised) : Prop where
  pc : wordAligned r.pc
  npc : wordAligned r.npc
  cwp : r.psr.cwp.toNat < c.nwindows
  wim : r.wim &&& wimMask c = r.wim
  ec : r.psr.ec = true → c.hasCp = true
  ef : r.psr.ef = true → c.hasFpu = true
  pending : ∀ p ∈ r.pending, p.write.legal c

/-- What every step keeps. -/
structure State.Inv (s : State) : Prop where
  /-- Memory is in its canonical form. -/
  memory : Memory.wf s.mem = true
  /-- The program counters are word addresses (R42, R484, R486). -/
  pc : wordAligned s.pc
  npc : wordAligned s.npc
  /-- CWP names an implemented window (R41, R520). -/
  cwp : s.psr.cwp.toNat < s.cfg.nwindows
  /-- WIM bits of unimplemented windows are zero (R48). -/
  wim : s.wim &&& wimMask s.cfg = s.wim
  /-- EC and EF are zero where the unit is absent (R38). -/
  ec : s.psr.ec = true → s.cfg.hasCp = true
  ef : s.psr.ef = true → s.cfg.hasFpu = true
  /-- Delayed writes are legal. -/
  pending : ∀ p ∈ s.pending, p.write.legal s.cfg
  /-- So is what a trap's entry has overwritten. -/
  raised : ∀ r, s.raised = some r → r.Legal s.cfg
  /-- pb_error is asserted exactly in error_mode (R707, R750). -/
  pbError : s.pbError = true ↔ s.mode = .error
  /-- The block signals are released between instructions (R360, R362). -/
  blockByte : s.pbBlockByte = false
  blockWord : s.pbBlockWord = false
  /-- FSR.NS is zero where it is not implemented (R98). -/
  ns : s.fsr.ns = true → s.cfg.fsrNsImplemented = true
  /-- The queue is absent, or no deeper than FQ_DEPTH (R105). -/
  fqAbsent : s.cfg.hasFq = false → s.fq = []
  fqDepth : s.fq.length ≤ s.cfg.fqDepth
  /-- The deferred-trap states are reached only by a deferred FPU (R107) or coprocessor (R634). -/
  fpuMode : s.cfg.fpTrapsDeferred = false → s.fpuMode = .execute ∧ s.pendingFp = none
  cp : s.cp.exceptionPending = true → s.cfg.cpTrapsDeferred = true
  /-- The MMU's context number has only implemented bits (R236). -/
  ctx : s.mmu.ctx &&& contextMask s.cfg = s.mmu.ctx
  /-- FAV is set exactly while a fault is recorded (R237). -/
  fav : s.mmu.fav = s.mmu.cls.isSome

/-! The start of an instruction. -/

/-- Nothing comes before the next instruction (R700): execute_mode, no reset, no request of the platform, no interrupt accepted. A trap
the last instruction raised stands as entered. -/
def State.quiet (s : State) : Prop :=
  s.mode = .execute ∧ s.resetIn = false ∧ s.requests = Requests.none ∧
  (s.psr.et = true → s.irl ≠ 15#4 ∧ s.irl.toNat ≤ s.psr.pil.toNat)

/-- The state an instruction is fetched in: the delayed writes due have been applied (R45), completed FLUSHes executed (R182). -/
def State.begun (s : State) : State := { s with raised := none }.tickPending.expireIBuf

/-- `t` is `s` after the delayed writes `ws`, in program order (R45): each register, and the PSR but for ET and PIL (R47), holds what the
last of the writes to it has, or what it held where there is none; which writes are pending is not said, and nothing else changes. -/
structure WritesApplied (s t : State) (ws : List StateWrite) : Prop where
  psr : t.psr =
    match (ws.filterMap fun w => match w with | .psr p => some p | _ => none).getLast? with
    | some p => { s.psr with icc := p.icc, ec := p.ec, ef := p.ef, s := p.s, ps := p.ps, cwp := p.cwp }
    | none => s.psr
  wim : t.wim = (ws.filterMap fun w => match w with | .wim v => some v | _ => none).getLastD s.wim
  tba : t.tba = (ws.filterMap fun w => match w with | .tba v => some v | _ => none).getLastD s.tba
  y : t.y = (ws.filterMap fun w => match w with | .y v => some v | _ => none).getLastD s.y
  asr : ∀ k : BitVec 4, t.asr[k.toNat]'k.isLt =
    (ws.filterMap fun w => match w with | .asr n v => if n = k then some v else none | _ => none).getLastD (s.asr[k.toNat]'k.isLt)
  others : t = { s with psr := t.psr, wim := t.wim, tba := t.tba, y := t.y, asr := t.asr, pending := t.pending }

/-- An instruction that ended in `x` counts as executed, unless it raised a trap: hazard distances and the waits of FLUSHes shrink
(R182, R765, R768, log 10). -/
def executed (x : State) : State :=
  if x.raised = none then { x with ibuf := x.ibuf.map IBufEvent.aged, hzFcmp := x.hzFcmp - 1, hzLdfsr := x.hzLdfsr - 1 } else x

/-! What an instruction changes. -/

/-- r[n] of window w and r[n'] of window w' are one register (R22, R23). -/
def sameRegister (c : Config) (w : BitVec 5) (n : RegNum) (w' : BitVec 5) (n' : RegNum) : Prop :=
  (n = n' ∧ n.toNat < 8) ∨ (8 ≤ n.toNat ∧ 8 ≤ n'.toNat ∧ windowIndex c w n = windowIndex c w' n')

/-- From `s` to `t`, r[rd] of window `w` became `v` (or nothing, for r[0], R24), and every register that is not it, of any
window, is unchanged. -/
structure WritesReg (s t : State) (w : BitVec 5) (rd : RegNum) (v : Word) : Prop where
  written : t.regIn w rd = if rd = 0#5 then 0#32 else v
  others : ∀ w' n, ¬ sameRegister s.cfg w' n w rd → t.regIn w' n = s.regIn w' n

/-- Every r register of every window is unchanged. -/
def KeepsRegs (s t : State) : Prop := ∀ w n, t.regIn w n = s.regIn w n

/-- Every byte of memory is unchanged. -/
def KeepsMemory (s t : State) : Prop := ∀ k, Memory.read t.mem k = Memory.read s.mem k

/-- The default advance of the program counters (R43). -/
def Advances (s t : State) : Prop := t.pc = s.npc ∧ t.npc = s.npc + 4#32

/-- Nothing but r registers and the program counters differs: no flag, no state register, no f register, no memory byte. -/
structure OnlyRegs (s t : State) : Prop where
  state : t = { s with globals := t.globals, windows := t.windows, pc := t.pc, npc := t.npc }
  memory : KeepsMemory s t

/-- Nothing but r registers, icc and the program counters differs. -/
structure OnlyRegsIcc (s t : State) : Prop where
  state : t = { s with globals := t.globals, windows := t.windows, pc := t.pc, npc := t.npc,
                       psr := { s.psr with icc := t.psr.icc } }
  memory : KeepsMemory s t

/-- Nothing but r registers, icc, Y and the program counters differs. -/
structure OnlyRegsIccY (s t : State) : Prop where
  state : t = { s with globals := t.globals, windows := t.windows, pc := t.pc, npc := t.npc, y := t.y,
                       psr := { s.psr with icc := t.psr.icc } }
  memory : KeepsMemory s t

/-- `i` completes at `s`, in a next state of which `p` holds. -/
def Completes (i : Instr) (s : State) (p : State → Prop) : Prop := ∃ t, exec i s = .next t ∧ p t

/-- `i` completes at `s`, delivering `v` to r[rd] and changing nothing else but the program counters, which advance. -/
def Delivers (i : Instr) (s : State) (rd : RegNum) (v : Word) : Prop :=
  Completes i s fun t => WritesReg s t s.psr.cwp rd v ∧ OnlyRegs s t ∧ Advances s t

/-- The instructions of a list executed one after the other, as what a synthetic instruction stands for is (R310). -/
def execList : List Instr → State → Option State
  | [], s => some s
  | i :: rest, s =>
    match exec i s with
    | .next t => execList rest t
    | _ => none

/-- The same with the condition codes becoming `icc`. -/
def DeliversCc (i : Instr) (s : State) (rd : RegNum) (v : Word) (icc : Icc) : Prop :=
  Completes i s fun t => WritesReg s t s.psr.cwp rd v ∧ t.psr.icc = icc ∧ OnlyRegsIcc s t ∧ Advances s t

/-- At `s`, `i` takes the trap `e`, having changed nothing first: with ET = 1 the next state is at the handler, with ET = 0 in
error_mode (R705, R707). What the entry overwrote is in `raised` until the next step (R700). -/
def Traps (i : Instr) (s : State) (e : Trap) : Prop := exec i s = .next (raise e s)

/-- The byte a key holds after `bytes` were stored from key `base` on, `old` being what it held before. -/
def storedByte (base : Nat) (bytes : List Byte) (k : Nat) (old : Byte) : Byte :=
  if base ≤ k then bytes.getD (k - base) old else old

/-- An access with this ASI reaches the MMU's probes or registers, not memory (R230, R244). -/
def State.mmuSpace (s : State) (asi : BitVec 8) : Prop := s.cfg.hasRefMmu = true ∧ (asi = 0x03#8 ∨ asi = 0x04#8)

/-- Addresses are physical: there is no MMU, or it is disabled (R216). -/
def State.untranslated (s : State) : Prop := ¬ (s.cfg.hasRefMmu = true ∧ s.mmu.e = true)

/-- What every store changes besides memory, the program counters apart: the store barrier is used up (R127), and an
instruction buffer may keep old words (R181). -/
def storeSignals (s u : State) (ibuf : List IBufEvent) (mem : Memory) : State :=
  { u with lastWriteSync := s.storeBarrierPending || !s.psoMode, storeBarrierPending := false, ibuf := ibuf, mem := mem }

/-- `x` is the access that a store of `bytes` at the address `a` of the space `asi` makes to the device interface whose word is at `k`, at a
state `s` (R12, R123, R127, R128, R136): its space, the location of the byte addressed and its sync are the store's, and the lanes of the
bytes, and no others, are in its mask, and hold them. -/
structure DeviceStore (x : IoAccess) (s : State) (asi : BitVec 8) (k : Nat) (a : Word) (bytes : List Byte) : Prop where
  write : x.asi = asi ∧ x.key = k + a.toNat % 4 ∧ x.write = true ∧ x.sync = (s.storeBarrierPending || !s.psoMode)
  mask : ∀ n, n < 4 → (x.mask.getLsbD (3 - n) = true ↔ a.toNat % 4 ≤ n ∧ n < a.toNat % 4 + bytes.length)
  data : ∀ n, n < bytes.length → x.data.extractLsb' (24 - 8 * (a.toNat % 4 + n)) 8 = bytes.getD n 0#8

/-- At `s`, `i` stores `bytes` at the address `a` of the space `asi`, and changes nothing else but the program counters and the
store signals: in memory, or, where the address is a device interface, as an access to the device, memory unchanged (R136, log 38).
`State.reach` computes the key of the word; its state `u` differs from `s` only by a page table entry's R and M bits, where the MMU
translates. -/
def StoresAt (i : Instr) (s : State) (asi : BitVec 8) (a : Word) (bytes : List Byte) : Prop :=
  (∀ u k, s.reach asi false true a = (u, .key k) → Memory.wf s.mem = true → ¬ s.mmuSpace asi →
    Completes i s fun t =>
      t = { storeSignals s u t.ibuf t.mem with pc := s.npc, npc := s.npc + 4#32 } ∧
      t.ibuf = (if s.cfg.hasIbuf then u.ibuf ++ [.store k (Memory.readWord u.mem k)] else u.ibuf) ∧
      ∀ x, Memory.read t.mem x = storedByte (k + a.toNat % 4) bytes x (Memory.read u.mem x)) ∧
  ∀ u k, s.reach asi false true a = (u, .device k) → ¬ s.mmuSpace asi →
    ∃ x, DeviceStore x s asi k a bytes ∧
      exec i s = .next { storeSignals s u u.ibuf u.mem with io := u.io ++ [x], pc := s.npc, npc := s.npc + 4#32 }

/-- The exception of a failed data access (R324, R690, R692, R697); of an error the implementation does not detect as such,
data_access_exception (the model's choice, log 18). -/
def failTrap (c : Config) (e : BusError) : Trap :=
  match e with
  | .mae => .dataAccessException
  | .accessError => if detects c .dataAccessError then .dataAccessError else .dataAccessException
  | .mmuMiss => if detects c .dataAccessMmuMiss then .dataAccessMmuMiss else .dataAccessException

/-- At `s`, when the read at `a` fails, `i` takes the exception and writes nothing; `u` is what the failed access leaves (an MMU's fault
registers). -/
def ReadFails (i : Instr) (s : State) (asi : BitVec 8) (isWord : Bool) (a : Word) : Prop :=
  ∀ u e, s.memoryRead asi false isWord a = (u, .error e) → exec i s = .next (raise (failTrap s.cfg e) u)

/-- The same for the second read of a doubleword, the first word having been delivered (R329). -/
def SecondReadFails (i : Instr) (s : State) (asi : BitVec 8) (a : Word) (deliver : Word → State → State) : Prop :=
  ∀ u v w e, s.memoryRead asi false false a = (u, .ok w) →
    (deliver w u).memoryRead asi false false (a + 4#32) = (v, .error e) → exec i s = .next (raise (failTrap s.cfg e) v)

/-- At `s`, when the write at `a` fails, `i` takes the exception and writes nothing but the store signals. -/
def WriteFails (i : Instr) (s : State) (asi : BitVec 8) (a : Word) : Prop :=
  ∀ u e, ¬ s.mmuSpace asi → s.reach asi false true a = (u, .failed e) →
    exec i s = .next (raise (failTrap s.cfg e) (storeSignals s u u.ibuf u.mem))

/-- The same for the second write of a doubleword, the first, of the word `v0`, having been made (R329). -/
def SecondWriteFails (i : Instr) (s : State) (asi : BitVec 8) (a v0 : Word) : Prop :=
  ∀ u v e, ¬ s.mmuSpace asi → s.memoryWrite asi false a 0xF#4 v0 = (u, none) →
    u.reach asi false true (a + 4#32) = (v, .failed e) →
    exec i s = .next (raise (failTrap s.cfg e) (storeSignals u v v.ibuf v.mem))

/-- The same for the write of an atomic load-store, its read having been made: r[rd] keeps its value (R360, R362, U40). -/
def ExchangeFails (i : Instr) (s : State) (asi : BitVec 8) (isWord : Bool) (a : Word) : Prop :=
  ReadFails i s asi isWord a ∧
  ∀ u v w e, ¬ s.mmuSpace asi → s.memoryRead asi false isWord a = (u, .ok w) → u.reach asi false true a = (v, .failed e) →
    exec i s = .next (raise (failTrap s.cfg e) (storeSignals u v v.ibuf v.mem))

/-- At `s`, `i` stores the words `v0` and `v1` at `a` and `a + 4`, and changes nothing else but the program counters, the store
signals and what `finish` does: byte by byte where addresses are physical, and everywhere as the two word writes, the second made from
the state the first leaves. -/
def StoresPairAt (i : Instr) (s : State) (asi : BitVec 8) (a v0 v1 : Word) (finish : State → State) : Prop :=
  (∀ k0 k1, s.untranslated → s.reach asi false true a = (s, .key k0) → s.reach asi false true (a + 4#32) = (s, .key k1) →
    Memory.wf s.mem = true → ¬ s.mmuSpace asi →
    Completes i s fun t =>
      t = { finish (storeSignals s s t.ibuf t.mem) with
            lastWriteSync := !s.psoMode, pc := s.npc, npc := s.npc + 4#32 } ∧
      ∀ x, Memory.read t.mem x =
        storedByte k1 (bytesOfWord v1) x (storedByte k0 (bytesOfWord v0) x (Memory.read s.mem x))) ∧
  ∀ u v, s.memoryWrite asi false a 0xF#4 v0 = (u, none) → u.memoryWrite asi false (a + 4#32) 0xF#4 v1 = (v, none) →
    exec i s = .next { finish v with pc := s.npc, npc := s.npc + 4#32 }

/-! The conditions, row by row (R474, R476, R478). -/

/-- A row of R474: the Bicc, the Ticc, the test, and whether the branch is unconditional and taken (BA). -/
structure IccRow where
  branch : Bool → BitVec 22 → Instr
  trap : RegNum → TrapOperand → Instr
  test : Icc → Bool
  always : Bool

/-- R474. -/
def iccRows : List IccRow :=
  [⟨.bn, .tn, fun _ => false, false⟩,
   ⟨.be, .te, fun i => i.z, false⟩,
   ⟨.ble, .tle, fun i => i.z || (i.n ^^ i.v), false⟩,
   ⟨.bl, .tl, fun i => i.n ^^ i.v, false⟩,
   ⟨.bleu, .tleu, fun i => i.c || i.z, false⟩,
   ⟨.bcs, .tcs, fun i => i.c, false⟩,
   ⟨.bneg, .tneg, fun i => i.n, false⟩,
   ⟨.bvs, .tvs, fun i => i.v, false⟩,
   ⟨.ba, .ta, fun _ => true, true⟩,
   ⟨.bne, .tne, fun i => !i.z, false⟩,
   ⟨.bg, .tg, fun i => !(i.z || (i.n ^^ i.v)), false⟩,
   ⟨.bge, .tge, fun i => !(i.n ^^ i.v), false⟩,
   ⟨.bgu, .tgu, fun i => !(i.c || i.z), false⟩,
   ⟨.bcc, .tcc, fun i => !i.c, false⟩,
   ⟨.bpos, .tpos, fun i => !i.n, false⟩,
   ⟨.bvc, .tvc, fun i => !i.v, false⟩]

/-- A row of R476 or R478: the branch, the values of the two-bit condition code it is taken on, and whether it is the
unconditional taken one. -/
structure CcRow where
  branch : Bool → BitVec 22 → Instr
  taken : List (BitVec 2)
  always : Bool

/-- R476: 0 is E, 1 is L, 2 is G, 3 is U. -/
def fccRows : List CcRow :=
  [⟨.fbn, [], false⟩, ⟨.fbne, [1, 2, 3], false⟩, ⟨.fblg, [1, 2], false⟩, ⟨.fbul, [1, 3], false⟩, ⟨.fbl, [1], false⟩,
   ⟨.fbug, [2, 3], false⟩, ⟨.fbg, [2], false⟩, ⟨.fbu, [3], false⟩, ⟨.fba, [0, 1, 2, 3], true⟩, ⟨.fbe, [0], false⟩,
   ⟨.fbue, [0, 3], false⟩, ⟨.fbge, [0, 2], false⟩, ⟨.fbuge, [0, 2, 3], false⟩, ⟨.fble, [0, 1], false⟩,
   ⟨.fbule, [0, 1, 3], false⟩, ⟨.fbo, [0, 1, 2], false⟩]

/-- R478. -/
def cccRows : List CcRow :=
  [⟨.cbn, [], false⟩, ⟨.cb123, [1, 2, 3], false⟩, ⟨.cb12, [1, 2], false⟩, ⟨.cb13, [1, 3], false⟩, ⟨.cb1, [1], false⟩,
   ⟨.cb23, [2, 3], false⟩, ⟨.cb2, [2], false⟩, ⟨.cb3, [3], false⟩, ⟨.cba, [0, 1, 2, 3], true⟩, ⟨.cb0, [0], false⟩,
   ⟨.cb03, [0, 3], false⟩, ⟨.cb02, [0, 2], false⟩, ⟨.cb023, [0, 2, 3], false⟩, ⟨.cb01, [0, 1], false⟩,
   ⟨.cb013, [0, 1, 3], false⟩, ⟨.cb012, [0, 1, 2], false⟩]

/-- The state after a branch to PC + 4 * disp22, taken or not, with annul bit `a` (R472, R475). -/
def branched (s : State) (taken always a : Bool) (disp22 : BitVec 22) : State :=
  { s with
    pc := s.npc
    npc := if taken then s.pc + 4#32 * disp22.signExtend 32 else s.npc + 4#32
    annul := s.annul || (a && (!taken || always)) }

/-! The FPops, row by row. -/

/-- Width of a format in bits. -/
def Fmt.width (t : Fmt) : Nat := t.expBits + t.fracBits + 1

/-- f[n] is one of the registers of S(k), D(k) or Q(k) (R83). -/
def Fmt.holds (t : Fmt) (k n : RegNum) : Prop :=
  match t with
  | .single => n = k
  | .double => evenReg n = evenReg k
  | .quad => quadReg n = quadReg k

/-- An FPop of one operand: its mnemonic, the formats of source and destination, its arithmetic. -/
structure FpUnaryRow where
  instr : RegNum → RegNum → Instr
  src : Fmt
  dst : Fmt
  op : FpEnv → Nat → FpResult

/-- R560 to R571 and R575 to R577. -/
def fpUnaryRows : List FpUnaryRow :=
  [⟨.fitos, .single, .single, fun env a => fpFromInt .single env (BitVec.ofNat 32 a)⟩,
   ⟨.fitod, .single, .double, fun env a => fpFromInt .double env (BitVec.ofNat 32 a)⟩,
   ⟨.fitoq, .single, .quad, fun env a => fpFromInt .quad env (BitVec.ofNat 32 a)⟩,
   ⟨.fstoi, .single, .single, fpToInt .single⟩,
   ⟨.fdtoi, .double, .single, fpToInt .double⟩,
   ⟨.fqtoi, .quad, .single, fpToInt .quad⟩,
   ⟨.fstod, .single, .double, fpConvert .single .double⟩,
   ⟨.fstoq, .single, .quad, fpConvert .single .quad⟩,
   ⟨.fdtos, .double, .single, fpConvert .double .single⟩,
   ⟨.fdtoq, .double, .quad, fpConvert .double .quad⟩,
   ⟨.fqtos, .quad, .single, fpConvert .quad .single⟩,
   ⟨.fqtod, .quad, .double, fpConvert .quad .double⟩,
   ⟨.fsqrts, .single, .single, fpSqrt .single⟩,
   ⟨.fsqrtd, .double, .double, fpSqrt .double⟩,
   ⟨.fsqrtq, .quad, .quad, fpSqrt .quad⟩]

/-- An FPop of two operands of one format. -/
structure FpBinaryRow where
  instr : RegNum → RegNum → RegNum → Instr
  src : Fmt
  dst : Fmt
  op : FpEnv → Nat → Nat → FpResult

/-- R578 to R591. -/
def fpBinaryRows : List FpBinaryRow :=
  [⟨.fadds, .single, .single, fpAdd .single⟩, ⟨.faddd, .double, .double, fpAdd .double⟩,
   ⟨.faddq, .quad, .quad, fpAdd .quad⟩,
   ⟨.fsubs, .single, .single, fpSub .single⟩, ⟨.fsubd, .double, .double, fpSub .double⟩,
   ⟨.fsubq, .quad, .quad, fpSub .quad⟩,
   ⟨.fmuls, .single, .single, fpMul .single .single⟩, ⟨.fmuld, .double, .double, fpMul .double .double⟩,
   ⟨.fmulq, .quad, .quad, fpMul .quad .quad⟩, ⟨.fsmuld, .single, .double, fpMul .single .double⟩,
   ⟨.fdmulq, .double, .quad, fpMul .double .quad⟩,
   ⟨.fdivs, .single, .single, fpDiv .single⟩, ⟨.fdivd, .double, .double, fpDiv .double⟩,
   ⟨.fdivq, .quad, .quad, fpDiv .quad⟩]

/-- A compare: whether a quiet NaN signals, the format. -/
structure FpCompareRow where
  instr : RegNum → RegNum → Instr
  signalsQuiet : Bool
  fmt : Fmt

/-- R592 to R597. -/
def fpCompareRows : List FpCompareRow :=
  [⟨.fcmps, false, .single⟩, ⟨.fcmpd, false, .double⟩, ⟨.fcmpq, false, .quad⟩,
   ⟨.fcmpes, true, .single⟩, ⟨.fcmped, true, .double⟩, ⟨.fcmpeq, true, .quad⟩]

/-- FPop `i` at `s`, one of those with operands to compute on: whether a register field of it is misaligned, its operands' values (0
for an absent one), and the exceptions its operation raises. -/
inductive FpopAt (s : State) : Instr → Bool → Nat → Nat → BitVec 5 → Prop
  | unary (r : FpUnaryRow) (h : r ∈ fpUnaryRows) (rd rs2 : RegNum) :
    FpopAt s (r.instr rd rs2) (r.src.misaligned rs2 || r.dst.misaligned rd) (s.fpOperand r.src rs2) 0
      (r.op s.fpEnv (s.fpOperand r.src rs2)).texc.bits
  | binary (r : FpBinaryRow) (h : r ∈ fpBinaryRows) (rd rs1 rs2 : RegNum) :
    FpopAt s (r.instr rd rs1 rs2) (r.src.misaligned rs1 || r.src.misaligned rs2 || r.dst.misaligned rd)
      (s.fpOperand r.src rs1) (s.fpOperand r.src rs2)
      (r.op s.fpEnv (s.fpOperand r.src rs1) (s.fpOperand r.src rs2)).texc.bits
  | compare (r : FpCompareRow) (h : r ∈ fpCompareRows) (rs1 rs2 : RegNum) :
    FpopAt s (r.instr rs1 rs2) (r.fmt.misaligned rs1 || r.fmt.misaligned rs2) (s.fpOperand r.fmt rs1) (s.fpOperand r.fmt rs2)
      (fpCompare r.signalsQuiet r.fmt s.fpEnv (s.fpOperand r.fmt rs1) (s.fpOperand r.fmt rs2)).texc.bits

/-- The FPops, the unassigned words of FPop1 and FPop2 among them (R555, R556). -/
inductive IsFpop : Instr → Prop
  | unary (r : FpUnaryRow) (h : r ∈ fpUnaryRows) (rd rs2 : RegNum) : IsFpop (r.instr rd rs2)
  | binary (r : FpBinaryRow) (h : r ∈ fpBinaryRows) (rd rs1 rs2 : RegNum) : IsFpop (r.instr rd rs1 rs2)
  | compare (r : FpCompareRow) (h : r ∈ fpCompareRows) (rs1 rs2 : RegNum) : IsFpop (r.instr rs1 rs2)
  | fmovs (rd rs2 : RegNum) : IsFpop (.fmovs rd rs2)
  | fnegs (rd rs2 : RegNum) : IsFpop (.fnegs rd rs2)
  | fabss (rd rs2 : RegNum) : IsFpop (.fabss rd rs2)
  | unassigned1 (rd rs1 : RegNum) (opf : BitVec 9) (rs2 : RegNum) : IsFpop (.fpop1Unassigned rd rs1 opf rs2)
  | unassigned2 (rd rs1 : RegNum) (opf : BitVec 9) (rs2 : RegNum) : IsFpop (.fpop2Unassigned rd rs1 opf rs2)

/-- The FBfccs, and the floating-point loads whose address and register are as they must be (R323, R477). -/
inductive LoadsOrBranchesFpu (s : State) : Instr → Prop
  | branch (r : CcRow) (h : r ∈ fccRows) (a : Bool) (disp22 : BitVec 22) : LoadsOrBranchesFpu s (r.branch a disp22)
  | ldf (rd rs1 : RegNum) (op2 : Operand2) (h : (s.address rs1 op2).toNat % 4 = 0) : LoadsOrBranchesFpu s (.ldf rd rs1 op2)
  | ldfsr (rs1 : RegNum) (op2 : Operand2) (h : (s.address rs1 op2).toNat % 4 = 0) : LoadsOrBranchesFpu s (.ldfsr rs1 op2)
  | lddf (rd rs1 : RegNum) (op2 : Operand2) (h : (s.address rs1 op2).toNat % 8 = 0)
    (he : s.cfg.fpMisalignedRegTraps = false ∨ rd.getLsbD 0 = false) : LoadsOrBranchesFpu s (.lddf rd rs1 op2)

/-- The floating-point instructions that take a pending fp_exception (R107, R323, R325, R553 step 2): those, the FPops, and the
floating-point stores whose address is as it must be. -/
inductive ResumesFpu (s : State) : Instr → Prop
  | fpop (i : Instr) (h : IsFpop i) : ResumesFpu s i
  | other (i : Instr) (h : LoadsOrBranchesFpu s i) : ResumesFpu s i
  | stf (rd rs1 : RegNum) (op2 : Operand2) (h : (s.address rs1 op2).toNat % 4 = 0) : ResumesFpu s (.stf rd rs1 op2)
  | stfsr (rs1 : RegNum) (op2 : Operand2) (h : (s.address rs1 op2).toNat % 4 = 0) : ResumesFpu s (.stfsr rs1 op2)
  | stdf (rd rs1 : RegNum) (op2 : Operand2) (h : (s.address rs1 op2).toNat % 8 = 0) : ResumesFpu s (.stdf rd rs1 op2)
  | stdfq (rs1 : RegNum) (op2 : Operand2) (h : (s.address rs1 op2).toNat % 8 = 0) (hs : s.psr.s = true) :
    ResumesFpu s (.stdfq rs1 op2)

/-- The FPU accepts an instruction: it is enabled, and no deferred exception stands in the way (R553 steps 1 and 2, R684). -/
def State.fpuReady (s : State) : Prop :=
  s.fpEnabled = true ∧ (s.cfg.fpTrapsDeferred = false ∨ s.fpuMode = .execute)

/-- The FPU accepts a floating-point store: enabled, and no deferred exception pending; the fp_exception state does not stand in
the way (R107, R325). -/
def State.fpuStores (s : State) : Prop :=
  s.fpEnabled = true ∧ (s.cfg.fpTrapsDeferred = false ∨ s.fpuMode ≠ .exceptionPending)

/-- The FPU executes FPop `i`, whose register fields are `misaligned` or not (R553 steps 3 and 4). -/
def State.fpopAccepted (s : State) (i : Instr) (misaligned : Bool) : Prop :=
  s.fpuReady ∧ s.cfg.unimplSet.contains i.mnemonic = false ∧ (s.cfg.fpMisalignedRegTraps && misaligned) = false

/-- The FSR after an FPop that completes with exceptions `texc` (R553 step 7). -/
def completedFsr (f : Fsr) (texc : BitVec 5) : Fsr := { f with cexc := texc, aexc := f.aexc ||| texc, ftt := 0#3 }

/-- The exact value of a number as an integer, in units of the format's least subnormal; an infinity counts as the number that
follows the largest finite one in magnitude, so that it compares as R592 says (R86 to R88). -/
def scaledValue (t : Fmt) (bits : Nat) : Int :=
  let exp := bits / 2 ^ t.fracBits % 2 ^ t.expBits
  let frac := bits % 2 ^ t.fracBits
  let m : Nat := if exp = 0 then frac else (2 ^ t.fracBits + frac) * 2 ^ (exp - 1)
  if bits / 2 ^ (t.expBits + t.fracBits) % 2 = 1 then -(m : Int) else m

/-- The exponent of the format's least subnormal number, negated: that number is 2^-149, 2^-1074 or 2^-16494 (R86 to R88). -/
def Fmt.leastExponent : Fmt → Nat
  | .single => 149
  | .double => 1074
  | .quad => 16494

/-- The bits are a finite number of the format (R86 to R88). -/
def Fmt.finite (t : Fmt) (bits : Nat) : Prop :=
  bits < 2 ^ t.width ∧ bits / 2 ^ t.fracBits % 2 ^ t.expBits ≠ 2 ^ t.expBits - 1

/-- Its value (R86 to R88); of an infinity, what follows the largest finite number. -/
def Fmt.value (t : Fmt) (bits : Nat) : ℚ := scaledValue t bits / 2 ^ t.leastExponent

/-- `r` is the exact value `x` rounded to a finite number of the format in direction `rd` (R91, R554): to the nearest, of two as near to the
one whose last bit is 0; toward zero; upwards; downwards. -/
def Fmt.Rounds (t : Fmt) (rd : BitVec 2) (x : ℝ) (r : Nat) : Prop :=
  let v : ℝ := t.value r
  t.finite r ∧ (x ≠ 0 → (r.testBit (t.width - 1) = true ↔ x < 0)) ∧
  ∀ y, t.finite y →
    let w : ℝ := t.value y
    (rd = 0#2 → |v - x| ≤ |w - x| ∧ (|v - x| = |w - x| → w = v ∨ r % 2 = 0)) ∧
    (rd = 1#2 → |v| ≤ |x| ∧ 0 ≤ v * x ∧ (|w| ≤ |x| → |w| ≤ |v|)) ∧
    (rd = 2#2 → x ≤ v ∧ (x ≤ w → v ≤ w)) ∧
    (rd = 3#2 → v ≤ x ∧ (w ≤ x → w ≤ v))

/-- The direction is the one away from zero on the side of `x`. -/
def outwards (rd : BitVec 2) (x : ℝ) : Prop := rd = 2#2 ∧ 0 < x ∨ rd = 3#2 ∧ x < 0

/-- The bits of the format's positive infinity: those of the largest finite number, and one more. -/
def Fmt.infinity (t : Fmt) : Nat := (2 ^ t.expBits - 1) * 2 ^ t.fracBits

/-- Rounded in direction `rd` with an unbounded exponent, `x` would exceed the largest finite number in magnitude (R554, N.6). -/
def Fmt.Overflows (t : Fmt) (rd : BitVec 2) (x : ℝ) : Prop :=
  let largest : ℝ := t.value (t.infinity - 1)
  let next : ℝ := t.value t.infinity
  (rd = 0#2 ∧ largest + next ≤ 2 * |x|) ∨ (outwards rd x ∧ largest < |x|) ∨ (rd ≠ 0#2 ∧ ¬ outwards rd x ∧ next ≤ |x|)

/-- `r` is what an operation with the exact value `x` delivers (R554, R609, R610): where `x` overflows, an infinity or the largest finite
number, as the direction says, with OF and NX; else `x` rounded, with NX where that is not `x`, and UF where `x` is nonzero and below the
least normal number and NX or the underflow trap mask is set. -/
structure RoundedFrom (t : Fmt) (env : FpEnv) (x : ℝ) (r : FpResult) : Prop where
  valid : r.texc.nv = false ∧ r.texc.dz = false
  overflow : r.texc.ov = true ↔ t.Overflows env.rd x
  bounded : t.Overflows env.rd x → r.texc.nx = true ∧ r.texc.uf = false ∧ r.bits < 2 ^ t.width ∧
    (r.bits.testBit (t.width - 1) = true ↔ x < 0) ∧
    (env.rd = 0#2 ∨ outwards env.rd x → r.bits % 2 ^ (t.width - 1) = t.infinity) ∧
    (env.rd ≠ 0#2 → ¬ outwards env.rd x → r.bits % 2 ^ (t.width - 1) = t.infinity - 1)
  rounded : ¬ t.Overflows env.rd x → t.Rounds env.rd x r.bits ∧ (r.texc.nx = true ↔ (t.value r.bits : ℝ) ≠ x) ∧
    (r.texc.uf = true ↔ x ≠ 0 ∧ |x| < t.value (2 ^ t.fracBits) ∧ (r.texc.nx = true ∨ env.ufm = true))

/-- `r` is the exact value `x`, with no exception. -/
def ExactResult (t : Fmt) (x : ℚ) (r : FpResult) : Prop := r.texc = {} ∧ t.finite r.bits ∧ t.value r.bits = x

/-- The quiet NaN `r` of format `dst` is the NaN `x` of format `src` transformed (R605): the sign and the leading bits of the fraction
copied, those that `src` does not have 0, the quiet bit 1. -/
structure Quieted (src dst : Fmt) (x r : Nat) : Prop where
  width : r < 2 ^ dst.width
  sign : r.testBit (dst.width - 1) = x.testBit (src.width - 1)
  exponent : ∀ n, n < dst.expBits → r.testBit (dst.fracBits + n) = true
  quiet : r.testBit (dst.fracBits - 1) = true
  fraction : ∀ n, 1 ≤ n → n < dst.fracBits →
    r.testBit (dst.fracBits - 1 - n) = (decide (n < src.fracBits) && x.testBit (src.fracBits - 1 - n))

/-- Where the MMU's tables hold the entry of level `level` for `va`, every entry above it being a PTD (R205, R207, R212): the context
table's for the current context; then, `PTP ++ 000000` and four times the index of the level, of bits 31:24, 23:18 or 17:12. -/
inductive State.Descends (s : State) (va : Word) : Nat → Nat → Prop
  | root : State.Descends s va 0 ((s.mmu.ctp.toNat * 64 + s.mmu.ctx.toNat * 4) % 2 ^ 36)
  | next (level address index : Nat) (h : State.Descends s va level address) (hb : s.busOutcome false address = .ok)
    (he : (Memory.readWord s.mem address).toNat % 4 = 1)
    (hi : (level, index) ∈ [(0, va.toNat / 2 ^ 24), (1, va.toNat / 2 ^ 18 % 64), (2, va.toNat / 2 ^ 12 % 64)]) :
    State.Descends s va (level + 1) (((Memory.readWord s.mem address).toNat / 4 * 64 + index * 4) % 2 ^ 36)

/-- The coprocessor accepts an instruction: enabled, no deferred exception outstanding (R634, R685). -/
def State.cpAccepts (s : State) : Prop := s.cpEnabled = true ∧ s.cp.exceptionPending = false

end Sys2Proof.Machine
end

