-- ==== Sys2Proof/Certificates/Slice0/Obligations.lean ====
section
/-! DEFINITION. The statements for the provers. -/

open Sys2Proof Sys2Proof.Machine

/-! Encoding. -/

/-- Decoding and encoding agree: every well-formed instruction is what its word decodes to (R260 to R284), no bit of an operand dropped;
and decoding answers only well-formed instructions, the special cases of R282 told apart. -/
def Obligations.DecodeAndEncodeAgree : Prop :=
  (∀ i : Instr, i.wellFormed = true → decode i.encode = .ok i) ∧
  ∀ (w : Word) (i : Instr), decode w = .ok i → i.wellFormed = true

/-- The words that belong to no row are those whose op2 or op3 the tables leave blank (R267, R270, R271, R280), and executing
one takes illegal_instruction. -/
def Obligations.UnassignedWordsAreIllegal : Prop :=
  ∀ w : Word,
    (fieldOp w = 0#2 ∧ fieldOp2 w ∈ [1#3, 3#3, 5#3] ∨
     fieldOp w = 2#2 ∧ fieldOp3 w ∈ [0x09#6, 0x0D#6, 0x19#6, 0x1D#6, 0x2C#6, 0x2D#6, 0x2E#6, 0x2F#6, 0x3E#6, 0x3F#6] ∨
     fieldOp w = 3#2 ∧ fieldOp3 w ∈ [0x08#6, 0x0B#6, 0x0C#6, 0x0E#6, 0x18#6, 0x1B#6, 0x1C#6, 0x1E#6, 0x22#6, 0x28#6, 0x29#6,
       0x2A#6, 0x2B#6, 0x2C#6, 0x2D#6, 0x2E#6, 0x2F#6, 0x32#6, 0x38#6, 0x39#6, 0x3A#6, 0x3B#6, 0x3C#6, 0x3D#6, 0x3E#6, 0x3F#6]) ↔
    ∀ s : State, runWord w s = .next (raise .illegalInstruction s) ∧ ∀ i, decode w ≠ .ok i

/-- Words written out from the spec's encodings decode to the instructions they stand for (one or two of each family). -/
def Obligations.SampleWordsDecode : Prop :=
  decode 0xD2022004#32 = .ok (.ld 9#5 8#5 (.imm 4#13)) ∧
  decode 0xC4A04160#32 = .ok (.sta 2#5 1#5 (.reg 0x0B#8 0#5)) ∧
  decode 0x92AA2001#32 = .ok (.andncc 9#5 8#5 (.imm 1#13)) ∧
  decode 0x92822001#32 = .ok (.addcc 9#5 8#5 (.imm 1#13)) ∧
  decode 0x01000000#32 = .ok .nop ∧
  decode 0x12800004#32 = .ok (.bne false 4#22) ∧
  decode 0x30BFFFFE#32 = .ok (.ba true (-2#22)) ∧
  decode 0x11C00002#32 = .ok (.cba false 2#22) ∧
  decode 0x40000010#32 = .ok (.call 0x10#30) ∧
  decode 0x81C7E008#32 = .ok (.jmpl 0#5 31#5 (.imm 8#13)) ∧
  decode 0x81CC8000#32 = .ok (.rett 18#5 (.reg 0#5)) ∧
  decode 0x8143C000#32 = .ok .stbar ∧
  decode 0x91400000#32 = .ok (.rdy 8#5) ∧
  decode 0x81902002#32 = .ok (.wrwim 0#5 (.imm 2#13)) ∧
  decode 0x85A00021#32 = .ok (.fmovs 2#5 1#5) ∧
  decode 0x81A80A21#32 = .ok (.fcmps 0#5 1#5) ∧
  decode 0xC3820000#32 = .ok (.ldc 1#5 8#5 (.reg 0#5))

/-! The step. -/

/-- A step runs the decoded instruction. When nothing comes before it, `b` is the state the fetch at PC is made in (delayed writes due
applied, completed FLUSHes executed), and the fetch leaves `t`: an annulled step makes the fetch, ignores what it answers and passes on
(R58, R681, R700); a fetch that fails takes its exception (R681, R692, R693); a word that decodes to nothing takes illegal_instruction (R280);
an instruction that reads an r register where an error of one is injected takes r_register_access_error (R680); one that is not in
hardware takes illegal_instruction (R283), or in user mode, if it is privileged, privileged_instruction; every other runs: the step is
exec of it, IR set, and counts as executed. The model's choices among these: that privileged_instruction comes before illegal_instruction
for an instruction not in hardware, of which R283 says nothing (log 29, DEDUCED from Table 7-1); when an injected register error is looked
for and which instructions it hits (log 13); that an error the implementation does not detect takes instruction_access_exception
(log 18); that a RETT stopped by one of these exceptions with ET = 0 leaves tt as it was (log 28); and what counts as executed, which
an instruction that raises a trap does not (log 10). -/
def Obligations.StepRunsDecodedInstruction : Prop :=
  ∀ (s t : State) (r : Except BusError Word), s.quiet →
    let b := s.begun
    b.memoryRead b.fetchAsi true true b.pc = (t, r) →
    (s.annul = true → step s = .next { t with annul := false, pc := t.npc, npc := t.npc + 4#32 }) ∧
    (s.annul = false →
      (∀ e, r = .error e →
        let trap : Trap := match e with
          | .mae => .instructionAccessException
          | .accessError => if detects s.cfg .instructionAccessError then .instructionAccessError else .instructionAccessException
          | .mmuMiss => if detects s.cfg .instructionAccessMmuMiss then .instructionAccessMmuMiss else .instructionAccessException
        step s = .next (raise trap t)) ∧
      ∀ w, r = .ok w →
        let u := { t with ir := w }
        (∀ err, decode w = .error err → step s = .next (raise .illegalInstruction u)) ∧
        ∀ i, decode w = .ok i →
          let injected := s.rRegisterError && detects s.cfg .rRegisterAccessError && readsRegister i
          (injected = true → step s = .next (raise .rRegisterAccessError { u with rRegisterError := false })) ∧
          (injected = false → isUnimplemented s.cfg i = true →
            step s = .next (raise (if isPrivileged u i && !u.psr.s then .privilegedInstruction else .illegalInstruction) u)) ∧
          (injected = false → isUnimplemented s.cfg i = false → ∀ x, exec i u = .next x → step s = .next (executed x)))

/-- The same on a machine without MMU and instruction buffer, from the bytes of memory at PC: when they are the word of a
well-formed instruction, big-endian, the step is exec of that instruction. -/
def Obligations.StepRunsInstructionInMemory : Prop :=
  ∀ (s : State) (i : Instr), s.quiet → s.annul = false →
    s.cfg.hasRefMmu = false → s.ibuf = [] → wordAligned s.pc → s.busOutcome false s.pc.toNat = .ok →
    i.wellFormed = true →
    (∀ n, n < 4 → Memory.read s.mem (s.pc.toNat + n) = (bytesOfWord i.encode).getD n 0#8) →
    s.rRegisterError = false → isUnimplemented s.cfg i = false →
    ∀ x, exec i { s.begun with ir := i.encode } = .next x → step s = .next (executed x)

/-- Every step of every state answers a next state, never a fault or a refusal (the model's own totality), and changes nothing of what
the implementation fixes. -/
def Obligations.EveryStepAnswersNextState : Prop := ∀ s : State, ∃ t, step s = .next t ∧ t.cfg = s.cfg

/-- The invariant of Safety.lean is kept by every step, from every state that has it. -/
def Obligations.StepKeepsInvariant : Prop := ∀ s t : State, s.Inv → step s = .next t → t.Inv

/-- The state after reset has the invariant. -/
def Obligations.ResetHasInvariant : Prop := State.reset.Inv

/-! Reset and modes. -/

/-- What R751 fixes of the state after reset. -/
def Obligations.ResetStateValues : Prop :=
  let s := State.reset
  s.pc = 0#32 ∧ s.npc = 4#32 ∧ s.psr.s = true ∧ s.psr.et = false ∧ s.psr.cwp.toNat < s.cfg.nwindows ∧
  s.annul = false ∧ s.pending = [] ∧ s.requests = Requests.none ∧ s.raised = none ∧ s.trapBit = false ∧ s.mode = .execute ∧
  s.pbError = false ∧ s.qne = false ∧ s.fq = [] ∧ s.fpuMode = .execute ∧ s.storeBarrierPending = false ∧ s.mmu.e = false ∧ s.mmu.pso = false ∧
  s.reg 0#5 = 0#32

/-- The reset trap (R753, R705, R751): a step in execute_mode with the reset trap requested goes, whatever ET is, to address 0 in a new
window, tt not written; the FPU queue, its state machine and the store barrier start empty, the Reference MMU is disabled and in TSO;
every other register, memory byte and field keeps its value, pending delayed writes having been drained. That the model's hazard
counters are cleared too, and that the coprocessor, ftt and what an instruction buffer knows are kept, is the model's choice (log 32). -/
def Obligations.ResetTrapEntry : Prop :=
  ∀ s : State, s.requests.resetTrap = true →
    let d := s.drainPending
    let w := prevWindow d.cfg d.psr.cwp
    let t := s.boundary
    t = { d with
          windows := t.windows, pc := 0#32, npc := 4#32, annul := false, requests := Requests.none, mode := .execute
          psr := { d.psr with et := false, ps := d.psr.s, s := true, cwp := w }
          pbError := false, fq := [], fpuMode := .execute, pendingFp := none, storeBarrierPending := false
          hzFcmp := 0, hzLdfsr := 0, mmu := { s.mmu with e := false, pso := false } } ∧
    t.reg 17#5 = (if s.annul then s.npc else s.pc) ∧
    t.reg 18#5 = (if s.annul then s.npc + 4#32 else s.npc) ∧
    (∀ w' n, ¬ sameRegister s.cfg w' n w 17#5 → ¬ sameRegister s.cfg w' n w 18#5 → t.regIn w' n = s.regIn w' n) ∧
    KeepsMemory s t

/-- mode_step (R750), where no trap was raised by the last instruction: reset_mode waits while bp_reset_in is asserted and leaves with
the reset trap requested; error_mode does nothing until bp_reset_in; execute_mode gives way to bp_reset_in before anything else. -/
def Obligations.ProcessorModes : Prop :=
  ∀ s : State, s.raised = none →
    (s.mode = .reset → s.resetIn = true → step s = .next s) ∧
    (s.mode = .reset → s.resetIn = false →
      step s = .next { s with mode := .execute, requests := { s.requests with resetTrap := true } }) ∧
    (s.mode = .error → s.resetIn = false → step s = .next s) ∧
    (s.mode = .error → s.resetIn = true → step s = .next { s with mode := .reset, pbError := false }) ∧
    (s.mode = .execute → s.resetIn = true → step s = .next { s with mode := .reset, pbError := false })

/-! Traps. -/

/-- Taking a trap. With ET = 1 (R705, R678): the new window, the saved program counters, ET, PS, S, tt, and PC at TBA ++ tt ++ 0000;
nothing else changes, pending delayed writes having been drained (R47). With ET = 0 (R707): error_mode, pb_error, no request left, every
other field as it was. A trap an instruction raises is entered so, with a record of what the entry overwrote (log 5). -/
def Obligations.TrapEntry : Prop :=
  (∀ (e : Trap) (s : State), s.psr.et = true →
    let d := s.drainPending
    let w := prevWindow d.cfg d.psr.cwp
    let t := takeTrap e s
    t = { d with
          windows := t.windows, annul := false, requests := Requests.none, tt := e.tt
          psr := { d.psr with et := false, ps := d.psr.s, s := true, cwp := w }
          pc := d.tba ++ e.tt ++ 0#4, npc := (d.tba ++ e.tt ++ 0#4 : Word) + 4#32 } ∧
    t.reg 17#5 = (if s.annul then s.npc else s.pc) ∧
    t.reg 18#5 = (if s.annul then s.npc + 4#32 else s.npc) ∧
    (∀ w' n, ¬ sameRegister s.cfg w' n w 17#5 → ¬ sameRegister s.cfg w' n w 18#5 → t.regIn w' n = s.regIn w' n) ∧
    KeepsMemory s t) ∧
  (∀ (e : Trap) (s : State), s.psr.et = false →
    takeTrap e s = { s with mode := .error, pbError := true, requests := Requests.none }) ∧
  ∀ (e : Trap) (s : State), ∃ r, raise e s = { takeTrap e s with raised := some r } ∧ r.trap = e

/-- A trap that an instruction raised is decided on at the start of the next step (R14, R700, R750; that its entry is shown before is the
model's form, log 5). With no reset and no request of the platform that counts the entry stands; else it is taken back, PC, nPC and
everything else as the instruction left it and its request standing: bp_reset_in then leads to reset_mode with nothing of the trap done, and
of the requests standing the one of the highest priority is taken. -/
def Obligations.RaisedTrapsAreReconsidered : Prop :=
  (∀ (s : State) (r : Raised), s.raised = some r → s.resetIn = false →
    (if r.psr.et then s.requests.detected s.cfg = Requests.none else s.requests.resetTrap = false) →
    step s = step { s with requests := Requests.none, raised := none }) ∧
  ∀ (s : State) (e : Trap), s.mode = .execute → s.pbError = false →
    step { raise e s with resetIn := true } =
      .next { s with resetIn := true, mode := .reset, requests := Requests.none.flag e, raised := none } ∧
    ∀ (q : Requests) (x : Trap), s.psr.et = true → s.resetIn = false → (∀ l, e ≠ .interrupt l) → detects s.cfg e = true →
      q.resetTrap = false →
      q.detected s.cfg ≠ Requests.none → ((q.flag e).detected s.cfg).select = some x →
      { raise e s with requests := q }.settle.boundary = takeTrap x { s with raised := none }

/-- The requests of Table 7-1 in the order of its rows (R677): whether each stands, the trap it is, and its tt. -/
def Sys2Proof.Machine.requestRows (r : Requests) : List (Bool × Trap × Nat) :=
  [(r.dataStoreError, .dataStoreError, 0x2B), (r.instructionAccessMmuMiss, .instructionAccessMmuMiss, 0x3C),
   (r.instructionAccessError, .instructionAccessError, 0x21), (r.rRegisterAccessError, .rRegisterAccessError, 0x20),
   (r.instructionAccessException, .instructionAccessException, 0x01),
   (r.privilegedInstruction, .privilegedInstruction, 0x03), (r.illegalInstruction, .illegalInstruction, 0x02),
   (r.fpDisabled, .fpDisabled, 0x04), (r.cpDisabled, .cpDisabled, 0x24), (r.unimplementedFlush, .unimplementedFlush, 0x25),
   (r.watchpointDetected, .watchpointDetected, 0x0B), (r.windowOverflow, .windowOverflow, 0x05),
   (r.windowUnderflow, .windowUnderflow, 0x06), (r.memAddressNotAligned, .memAddressNotAligned, 0x07),
   (r.fpException, .fpException, 0x08), (r.cpException, .cpException, 0x28), (r.dataAccessError, .dataAccessError, 0x29),
   (r.dataAccessMmuMiss, .dataAccessMmuMiss, 0x2C), (r.dataAccessException, .dataAccessException, 0x09),
   (r.tagOverflow, .tagOverflow, 0x0A), (r.divisionByZero, .divisionByZero, 0x2A),
   (r.trapInstruction, .trapInstruction r.ticcTrapType, 0x80 + r.ticcTrapType.toNat),
   (r.interruptLevel != 0#4, .interrupt r.interruptLevel, 0x10 + r.interruptLevel.toNat)]

/-- The request selected stands, and none of a row above it does; none is selected only when none stands; and the tt of every row is the
one Table 7-1 gives (R677, R704). -/
def Obligations.HighestPriorityRequestIsSelected : Prop :=
  (∀ (r : Requests) (e : Trap), r.select = some e →
    ∃ above code below, requestRows r = above ++ (true, e, code) :: below ∧ ∀ p ∈ above, p.1 = false) ∧
  (∀ r : Requests, r.select = none ↔ ∀ p ∈ requestRows r, p.1 = false) ∧
  ∀ r : Requests, ∀ p ∈ requestRows r, p.2.1.tt.toNat = p.2.2

/-- The interrupt acceptance test (R694): with ET = 1 a level above PIL, or 15, is taken before the next instruction when
nothing of higher priority stands, and a level not accepted changes nothing; with ET = 0 no interrupt is taken and every request the
platform makes, a reset apart, is discarded (R673, R676, R708). A step in execute_mode begins so (R700): it is the step from the state in
which the reset trap, the request selected or the interrupt accepted has been taken, where nothing more comes before the instruction (a
software trap number standing only with its request). That an accepted level is taken at the top of this very step is the model's choice
(log 21): R694 leaves open how quickly a processor responds. -/
def Obligations.InterruptAcceptance : Prop :=
  (∀ s : State, s.requests = Requests.none → s.psr.et = true → (s.irl = 15#4 ∨ s.psr.pil.toNat < s.irl.toNat) →
    s.boundary = takeTrap (.interrupt s.irl) s ∧ (Trap.interrupt s.irl).tt.toNat = 0x10 + s.irl.toNat) ∧
  (∀ s : State, s.requests = Requests.none → s.psr.et = true → s.irl ≠ 15#4 → s.irl.toNat ≤ s.psr.pil.toNat →
    s.boundary = s) ∧
  (∀ s : State, s.requests.resetTrap = false → s.psr.et = false → s.boundary = { s with requests := Requests.none }) ∧
  ∀ s : State, s.mode = .execute → s.resetIn = false → s.raised = none →
    step s = step s.boundary ∧
    ((s.requests.trapInstruction = false → s.requests.ticcTrapType = 0#7) → s.boundary.quiet ∧ s.boundary.raised = none)

/-- RETT. With ET = 0, S = 1, the next window valid and the target aligned (R486): CWP + 1, S from PS, ET = 1, a delayed transfer; PS, the
other PSR fields, every register and every memory byte are unchanged. Its other cases (R486, R487): with ET = 1 a trap; with ET = 0
error_mode with tt and the exception's request flag, and so the `trap` bit, written, nothing else, in the order of the tests. -/
def Obligations.ReturnFromTrap : Prop :=
  (∀ (s : State) (rs1 : RegNum) (op2 : Operand2),
    s.psr.et = false → s.psr.s = true → s.windowInvalid (nextWindow s.cfg s.psr.cwp) = false →
    wordAligned (s.reg rs1 + s.operand2 op2) →
    Completes (.rett rs1 op2) s fun t =>
      t = { s with
            pc := s.npc, npc := s.reg rs1 + s.operand2 op2
            psr := { s.psr with et := true, s := s.psr.ps, cwp := nextWindow s.cfg s.psr.cwp } } ∧
      KeepsRegs s t ∧ KeepsMemory s t) ∧
  ∀ (s : State) (rs1 : RegNum) (op2 : Operand2),
    (s.psr.et = true → s.psr.s = false → Traps (.rett rs1 op2) s .privilegedInstruction) ∧
    (s.psr.et = true → s.psr.s = true → Traps (.rett rs1 op2) s .illegalInstruction) ∧
    (s.psr.et = false →
      let stops (tt : BitVec 8) (requests : Requests) : Prop :=
        Completes (.rett rs1 op2) s fun t =>
          t = { s with tt := tt, mode := .error, pbError := true, requests := requests } ∧ t.trapBit = true
      (s.psr.s = false → stops 0x03#8 { s.requests with privilegedInstruction := true }) ∧
      (s.psr.s = true → s.windowInvalid (nextWindow s.cfg s.psr.cwp) = true →
        stops 0x06#8 { s.requests with windowUnderflow := true }) ∧
      (s.psr.s = true → s.windowInvalid (nextWindow s.cfg s.psr.cwp) = false →
        ¬ wordAligned (s.reg rs1 + s.operand2 op2) → stops 0x07#8 { s.requests with memAddressNotAligned := true }))

/-- Trap entry and RETT undo each other (R705, R486): from a state with ET = 1, a legal CWP and nothing delayed, after any trap a
RETT that completes restores CWP, S, ET, icc, EC, EF and PIL, and every register of the window reads as it did. -/
def Obligations.ReturnUndoesTrapEntry : Prop :=
  ∀ (e : Trap) (s u : State) (rs1 : RegNum) (op2 : Operand2),
    s.psr.et = true → s.psr.cwp.toNat < s.cfg.nwindows → s.pending = [] → s.windowInvalid s.psr.cwp = false →
    wordAligned ((takeTrap e s).address rs1 op2) →
    exec (.rett rs1 op2) (takeTrap e s) = .next u →
    u.psr = { s.psr with ps := s.psr.s } ∧ ∀ n : RegNum, u.reg n = s.reg n

/-! Privilege, enables, alignment. -/

/-- In user mode the privileged instructions other than RDASR and WRASR (those are in StateRegisterReads and StateRegisterWrites) take
privileged_instruction and have no other effect (R322, R486, R513 to R515, R520 to R522, R682), RETT with ET = 1; in supervisor mode an
alternate-space instruction with i = 1 takes illegal_instruction (R322). -/
def Obligations.PrivilegeChecks : Prop :=
  (∀ s : State, s.psr.s = false →
    (∀ rd rs1 alt, Traps (.ldsba rd rs1 alt) s .privilegedInstruction ∧ Traps (.ldsha rd rs1 alt) s .privilegedInstruction ∧
      Traps (.lduba rd rs1 alt) s .privilegedInstruction ∧ Traps (.lduha rd rs1 alt) s .privilegedInstruction ∧
      Traps (.lda rd rs1 alt) s .privilegedInstruction ∧ Traps (.ldda rd rs1 alt) s .privilegedInstruction ∧
      Traps (.stba rd rs1 alt) s .privilegedInstruction ∧ Traps (.stha rd rs1 alt) s .privilegedInstruction ∧
      Traps (.sta rd rs1 alt) s .privilegedInstruction ∧ Traps (.stda rd rs1 alt) s .privilegedInstruction ∧
      Traps (.ldstuba rd rs1 alt) s .privilegedInstruction ∧ Traps (.swapa rd rs1 alt) s .privilegedInstruction) ∧
    (∀ rs1 op2, Traps (.stdfq rs1 op2) s .privilegedInstruction ∧ Traps (.stdcq rs1 op2) s .privilegedInstruction ∧
      Traps (.wrpsr rs1 op2) s .privilegedInstruction ∧ Traps (.wrwim rs1 op2) s .privilegedInstruction ∧
      Traps (.wrtbr rs1 op2) s .privilegedInstruction ∧
      (s.psr.et = true → Traps (.rett rs1 op2) s .privilegedInstruction)) ∧
    ∀ rd, Traps (.rdpsr rd) s .privilegedInstruction ∧ Traps (.rdwim rd) s .privilegedInstruction ∧
      Traps (.rdtbr rd) s .privilegedInstruction) ∧
  ∀ (s : State) (rd rs1 : RegNum) (imm : BitVec 13), s.psr.s = true →
    Traps (.ldsba rd rs1 (.imm imm)) s .illegalInstruction ∧ Traps (.ldsha rd rs1 (.imm imm)) s .illegalInstruction ∧
    Traps (.lduba rd rs1 (.imm imm)) s .illegalInstruction ∧ Traps (.lduha rd rs1 (.imm imm)) s .illegalInstruction ∧
    Traps (.lda rd rs1 (.imm imm)) s .illegalInstruction ∧ Traps (.ldda rd rs1 (.imm imm)) s .illegalInstruction ∧
    Traps (.stba rd rs1 (.imm imm)) s .illegalInstruction ∧ Traps (.stha rd rs1 (.imm imm)) s .illegalInstruction ∧
    Traps (.sta rd rs1 (.imm imm)) s .illegalInstruction ∧ Traps (.stda rd rs1 (.imm imm)) s .illegalInstruction ∧
    Traps (.ldstuba rd rs1 (.imm imm)) s .illegalInstruction ∧ Traps (.swapa rd rs1 (.imm imm)) s .illegalInstruction

/-- With the FPU disabled or absent every floating-point instruction takes fp_disabled (STDFQ in supervisor mode), and with the
coprocessor disabled or absent every coprocessor instruction takes cp_disabled (R684, R685). -/
def Obligations.DisabledUnitsTrap : Prop :=
  (∀ s : State, s.psr.ef = false ∨ s.cfg.hasFpu = false →
    (∀ rd rs1 op2, Traps (.ldf rd rs1 op2) s .fpDisabled ∧ Traps (.lddf rd rs1 op2) s .fpDisabled ∧
      Traps (.ldfsr rs1 op2) s .fpDisabled ∧ Traps (.stf rd rs1 op2) s .fpDisabled ∧
      Traps (.stdf rd rs1 op2) s .fpDisabled ∧ Traps (.stfsr rs1 op2) s .fpDisabled ∧
      (s.psr.s = true → Traps (.stdfq rs1 op2) s .fpDisabled)) ∧
    (∀ r ∈ fccRows, ∀ a d, Traps (r.branch a d) s .fpDisabled) ∧
    (∀ r ∈ fpUnaryRows, ∀ rd rs2, Traps (r.instr rd rs2) s .fpDisabled) ∧
    (∀ r ∈ fpBinaryRows, ∀ rd rs1 rs2, Traps (r.instr rd rs1 rs2) s .fpDisabled) ∧
    (∀ r ∈ fpCompareRows, ∀ rs1 rs2, Traps (r.instr rs1 rs2) s .fpDisabled) ∧
    ∀ rd rs1 opf rs2, Traps (.fmovs rd rs2) s .fpDisabled ∧ Traps (.fnegs rd rs2) s .fpDisabled ∧
      Traps (.fabss rd rs2) s .fpDisabled ∧ Traps (.fpop1Unassigned rd rs1 opf rs2) s .fpDisabled ∧
      Traps (.fpop2Unassigned rd rs1 opf rs2) s .fpDisabled) ∧
  ∀ s : State, s.psr.ec = false ∨ s.cfg.hasCp = false →
    (∀ rd rs1 op2, Traps (.ldc rd rs1 op2) s .cpDisabled ∧ Traps (.lddc rd rs1 op2) s .cpDisabled ∧
      Traps (.ldcsr rs1 op2) s .cpDisabled ∧ Traps (.stc rd rs1 op2) s .cpDisabled ∧
      Traps (.stdc rd rs1 op2) s .cpDisabled ∧ Traps (.stcsr rs1 op2) s .cpDisabled ∧
      (s.psr.s = true → Traps (.stdcq rs1 op2) s .cpDisabled)) ∧
    (∀ r ∈ cccRows, ∀ a d, Traps (r.branch a d) s .cpDisabled) ∧
    ∀ rd rs1 opc rs2, Traps (.cpop1 rd rs1 opc rs2) s .cpDisabled ∧ Traps (.cpop2 rd rs1 opc rs2) s .cpDisabled

/-- A halfword, word or doubleword access to an address that is not a multiple of its width takes mem_address_not_aligned before
anything is read or written, the alternate-space forms in supervisor mode and those of the FPU and the coprocessor among them, and so does
JMPL to an address that is no word address (R124, R322, R323, R325, R484). -/
def Obligations.MisalignedAddressesTrap : Prop :=
  ∀ (s : State) (rd rs1 rs2 : RegNum) (op2 : Operand2) (asi : BitVec 8),
    let a := (s.reg rs1 + s.operand2 op2).toNat
    let b := (s.reg rs1 + s.reg rs2).toNat
    (s.psr.s = true →
      (b % 2 ≠ 0 → Traps (.ldsha rd rs1 (.reg asi rs2)) s .memAddressNotAligned ∧
        Traps (.lduha rd rs1 (.reg asi rs2)) s .memAddressNotAligned ∧ Traps (.stha rd rs1 (.reg asi rs2)) s .memAddressNotAligned) ∧
      (b % 4 ≠ 0 → Traps (.lda rd rs1 (.reg asi rs2)) s .memAddressNotAligned ∧
        Traps (.sta rd rs1 (.reg asi rs2)) s .memAddressNotAligned ∧ Traps (.swapa rd rs1 (.reg asi rs2)) s .memAddressNotAligned) ∧
      (b % 8 ≠ 0 → s.cfg.lddOddRdTraps = false ∨ rd.getLsbD 0 = false →
        Traps (.ldda rd rs1 (.reg asi rs2)) s .memAddressNotAligned ∧
        Traps (.stda rd rs1 (.reg asi rs2)) s .memAddressNotAligned) ∧
      (a % 8 ≠ 0 →
        (s.fpEnabled = true → Traps (.stdfq rs1 op2) s .memAddressNotAligned) ∧
        (s.cpEnabled = true → Traps (.stdcq rs1 op2) s .memAddressNotAligned))) ∧
    (a % 2 ≠ 0 → Traps (.ldsh rd rs1 op2) s .memAddressNotAligned ∧ Traps (.lduh rd rs1 op2) s .memAddressNotAligned ∧
      Traps (.sth rd rs1 op2) s .memAddressNotAligned) ∧
    (a % 4 ≠ 0 → Traps (.ld rd rs1 op2) s .memAddressNotAligned ∧ Traps (.st rd rs1 op2) s .memAddressNotAligned ∧
      Traps (.swap rd rs1 op2) s .memAddressNotAligned ∧ Traps (.jmpl rd rs1 op2) s .memAddressNotAligned ∧
      (s.fpEnabled = true → Traps (.ldf rd rs1 op2) s .memAddressNotAligned ∧
        Traps (.stf rd rs1 op2) s .memAddressNotAligned ∧ Traps (.ldfsr rs1 op2) s .memAddressNotAligned ∧
        Traps (.stfsr rs1 op2) s .memAddressNotAligned) ∧
      (s.cpEnabled = true → Traps (.ldc rd rs1 op2) s .memAddressNotAligned ∧
        Traps (.stc rd rs1 op2) s .memAddressNotAligned ∧ Traps (.ldcsr rs1 op2) s .memAddressNotAligned ∧
        Traps (.stcsr rs1 op2) s .memAddressNotAligned)) ∧
    (a % 8 ≠ 0 →
      (s.cfg.lddOddRdTraps = false ∨ rd.getLsbD 0 = false → Traps (.ldd rd rs1 op2) s .memAddressNotAligned ∧
        Traps (.std rd rs1 op2) s .memAddressNotAligned) ∧
      (s.fpEnabled = true → Traps (.lddf rd rs1 op2) s .memAddressNotAligned ∧
        Traps (.stdf rd rs1 op2) s .memAddressNotAligned) ∧
      (s.cpEnabled = true → Traps (.lddc rd rs1 op2) s .memAddressNotAligned ∧
        Traps (.stdc rd rs1 op2) s .memAddressNotAligned))

/-! The r registers. -/

/-- r[0] reads 0 in every window and a write of it changes nothing (R24); a write of another register is what it reads then, and every
register that is not it, of any window, keeps its value (R22, R23). Two numbers that name one register read the same. The windows overlap
as R23 says: no two numbers of one window name one register; the outs of a window are the ins of the window below it; the locals and the outs of two different windows are different
registers. The second operand is a register or the immediate sign-extended (R268), a shift count the low five bits (R404). -/
def Obligations.RegistersWindowsAndOperands : Prop :=
  (∀ (s : State) (w : BitVec 5) (n : RegNum) (v : Word),
    s.regIn w 0#5 = 0#32 ∧ s.setRegIn w 0#5 v = s ∧ WritesReg s (s.setRegIn w n v) w n v) ∧
  (∀ (s : State) (w : BitVec 5) (n : RegNum) (w' : BitVec 5) (n' : RegNum),
    sameRegister s.cfg w n w' n' → s.regIn w n = s.regIn w' n') ∧
  (∀ s : State, (∀ r, s.operand2 (.reg r) = s.reg r) ∧ (∀ i : BitVec 13, (s.operand2 (.imm i)).toInt = i.toInt) ∧
    (∀ r, s.shiftCount (.reg r) = (s.reg r).toNat % 32) ∧ ∀ i : BitVec 5, s.shiftCount (.imm i) = i.toNat) ∧
  ∀ (c : Config) (w w' : BitVec 5), w.toNat < c.nwindows → w'.toNat < c.nwindows →
    (∀ n n', sameRegister c w n w n' → n = n') ∧
    (∀ n : RegNum, 8 ≤ n.toNat → n.toNat < 16 → sameRegister c w n (prevWindow c w) (n + 16#5)) ∧
    (∀ n n' : RegNum, w ≠ w' → 8 ≤ n.toNat → n.toNat < 24 → 8 ≤ n'.toNat → n'.toNat < 24 → ¬ sameRegister c w n w' n')

/-! Logical and shift instructions. -/

/-- The logical instructions (R392, R394, R396, R398, R400, R402), bit by bit, and their cc forms (R391): N is bit 31 of the result, Z says
it is zero, V and C are zero. -/
def Obligations.LogicalResults : Prop :=
  ∀ (s : State) (rd rs1 : RegNum) (op2 : Operand2),
    let a := s.reg rs1
    let b := s.operand2 op2
    let icc (r : Word) : Icc := ⟨r.getLsbD 31, decide (r.toNat = 0), false, false⟩
    Delivers (.and rd rs1 op2) s rd (a &&& b) ∧ Delivers (.andn rd rs1 op2) s rd (a &&& ~~~b) ∧
    Delivers (.or rd rs1 op2) s rd (a ||| b) ∧ Delivers (.orn rd rs1 op2) s rd (a ||| ~~~b) ∧
    Delivers (.xor rd rs1 op2) s rd (a ^^^ b) ∧ Delivers (.xnor rd rs1 op2) s rd (~~~(a ^^^ b)) ∧
    DeliversCc (.andcc rd rs1 op2) s rd (a &&& b) (icc (a &&& b)) ∧
    DeliversCc (.andncc rd rs1 op2) s rd (a &&& ~~~b) (icc (a &&& ~~~b)) ∧
    DeliversCc (.orcc rd rs1 op2) s rd (a ||| b) (icc (a ||| b)) ∧
    DeliversCc (.orncc rd rs1 op2) s rd (a ||| ~~~b) (icc (a ||| ~~~b)) ∧
    DeliversCc (.xorcc rd rs1 op2) s rd (a ^^^ b) (icc (a ^^^ b)) ∧
    DeliversCc (.xnorcc rd rs1 op2) s rd (~~~(a ^^^ b)) (icc (~~~(a ^^^ b)))

/-- The shifts (R404 to R407), by 0 to 31 bits, as arithmetic: SLL multiplies by a power of two modulo 2^32, SRL divides the unsigned
value, SRA the signed one rounding toward minus infinity. SETHI puts imm22 in the high 22 bits and zeroes the low 10 (R408); NOP changes
only the program counters (R409). `set value, rd` (R311): whichever of the three sequences it stands for is executed, r[rd] receives the
value (nothing for r[0]) and nothing else changes but the program counters. -/
def Obligations.ShiftSethiNopSetResults : Prop :=
  (∀ (s : State) (rd rs1 : RegNum) (cnt : ShiftCount),
    let a := s.reg rs1
    let n := s.shiftCount cnt
    n < 32 ∧
    Delivers (.sll rd rs1 cnt) s rd (BitVec.ofNat 32 (a.toNat * 2 ^ n)) ∧
    Delivers (.srl rd rs1 cnt) s rd (BitVec.ofNat 32 (a.toNat / 2 ^ n)) ∧
    Delivers (.sra rd rs1 cnt) s rd (BitVec.ofInt 32 (a.toInt / 2 ^ n))) ∧
  (∀ (s : State) (rd : RegNum) (imm22 : BitVec 22),
    Delivers (.sethi rd imm22) s rd (BitVec.ofNat 32 (imm22.toNat * 1024))) ∧
  (∀ s : State, exec .nop s = .next { s with pc := s.npc, npc := s.npc + 4#32 }) ∧
  ∀ (s : State) (value : Word) (rd : RegNum),
    ∃ t, execList (Synthetic.set value rd).expand s = some t ∧ WritesReg s t s.psr.cwp rd value ∧ OnlyRegs s t

/-! Arithmetic. -/

/-- The condition codes of the additions: V says the exact signed sum is not the result's signed value, C that the exact unsigned
sum does not fit (what R421's formulas compute). -/
def Sys2Proof.Machine.sumIcc (a b : Word) (c : Nat) (r : Word) : Icc :=
  ⟨r.getLsbD 31, decide (r.toNat = 0), decide (a.toInt + b.toInt + c ≠ r.toInt), decide (2 ^ 32 ≤ a.toNat + b.toNat + c)⟩

/-- The condition codes of the subtractions: V likewise, C says the unsigned subtraction borrows (R422). -/
def Sys2Proof.Machine.differenceIcc (a b : Word) (c : Nat) (r : Word) : Icc :=
  ⟨r.getLsbD 31, decide (r.toNat = 0), decide (a.toInt - b.toInt - c ≠ r.toInt), decide (a.toNat < b.toNat + c)⟩

/-- ADD, ADDX, SUB, SUBX and their cc forms (R423 to R426, R430 to R433): the result modulo 2^32, and the condition codes. -/
def Obligations.AddSubtractResults : Prop :=
  ∀ (s : State) (rd rs1 : RegNum) (op2 : Operand2),
    let a := s.reg rs1
    let b := s.operand2 op2
    let c : Nat := if s.psr.icc.c then 1 else 0
    let sum (c : Nat) : Word := BitVec.ofNat 32 (a.toNat + b.toNat + c)
    let difference (c : Nat) : Word := BitVec.ofInt 32 (a.toInt - b.toInt - c)
    Delivers (.add rd rs1 op2) s rd (sum 0) ∧ Delivers (.addx rd rs1 op2) s rd (sum c) ∧
    Delivers (.sub rd rs1 op2) s rd (difference 0) ∧ Delivers (.subx rd rs1 op2) s rd (difference c) ∧
    DeliversCc (.addcc rd rs1 op2) s rd (sum 0) (sumIcc a b 0 (sum 0)) ∧
    DeliversCc (.addxcc rd rs1 op2) s rd (sum c) (sumIcc a b c (sum c)) ∧
    DeliversCc (.subcc rd rs1 op2) s rd (difference 0) (differenceIcc a b 0 (difference 0)) ∧
    DeliversCc (.subxcc rd rs1 op2) s rd (difference c) (differenceIcc a b c (difference c))

/-- Tagged arithmetic (R427 to R429, R434, R435, R698): V also says that an operand has a nonzero tag; with V the TV forms take
tag_overflow, writing nothing. -/
def Obligations.TaggedArithmetic : Prop :=
  ∀ (s : State) (rd rs1 : RegNum) (op2 : Operand2),
    let a := s.reg rs1
    let b := s.operand2 op2
    let tag := decide (a.toNat % 4 ≠ 0) || decide (b.toNat % 4 ≠ 0)
    let plus := sumIcc a b 0 (a + b)
    let minus := differenceIcc a b 0 (a - b)
    DeliversCc (.taddcc rd rs1 op2) s rd (a + b) { plus with v := plus.v || tag } ∧
    DeliversCc (.tsubcc rd rs1 op2) s rd (a - b) { minus with v := minus.v || tag } ∧
    ((plus.v || tag) = false → DeliversCc (.taddcctv rd rs1 op2) s rd (a + b) { plus with v := false }) ∧
    ((plus.v || tag) = true → Traps (.taddcctv rd rs1 op2) s .tagOverflow) ∧
    ((minus.v || tag) = false → DeliversCc (.tsubcctv rd rs1 op2) s rd (a - b) { minus with v := false }) ∧
    ((minus.v || tag) = true → Traps (.tsubcctv rd rs1 op2) s .tagOverflow)

/-- MULScc (R436): r[rs1] shifted right with N xor V entering, plus operand2 if Y<0>; r[rs1]<0> enters Y at the left; icc of the addition.
The multiplies (R437 to R441): Y and r[rd] receive the halves of the exact 64-bit product, unsigned or signed; the cc forms set N and Z
from the low word and clear V and C. -/
def Obligations.MultiplyResults : Prop :=
  (∀ (s : State) (rd rs1 : RegNum) (op2 : Operand2),
    let a := BitVec.ofNat 32 ((s.reg rs1).toNat / 2 + (if s.psr.icc.n ^^ s.psr.icc.v then 2 ^ 31 else 0))
    let b := if s.y.getLsbD 0 then s.operand2 op2 else 0#32
    Completes (.mulscc rd rs1 op2) s fun t =>
      WritesReg s t s.psr.cwp rd (a + b) ∧
      t.y = BitVec.ofNat 32 (s.y.toNat / 2 + (if (s.reg rs1).getLsbD 0 then 2 ^ 31 else 0)) ∧
      t.psr.icc = sumIcc a b 0 (a + b) ∧ OnlyRegsIccY s t ∧ Advances s t) ∧
  ∀ (s : State) (rd rs1 : RegNum) (op2 : Operand2),
    let a := s.reg rs1
    let b := s.operand2 op2
    let unsigned : BitVec 64 := BitVec.ofNat 64 (a.toNat * b.toNat)
    let signed : BitVec 64 := BitVec.ofInt 64 (a.toInt * b.toInt)
    let done (i : Instr) (p : BitVec 64) (icc : Icc) : Prop :=
      Completes i s fun t =>
        WritesReg s t s.psr.cwp rd (p.extractLsb' 0 32) ∧ t.y = p.extractLsb' 32 32 ∧ t.psr.icc = icc ∧
        OnlyRegsIccY s t ∧ Advances s t
    let icc (p : BitVec 64) : Icc := ⟨p.getLsbD 31, decide (p.toNat % 2 ^ 32 = 0), false, false⟩
    done (.umul rd rs1 op2) unsigned s.psr.icc ∧ done (.smul rd rs1 op2) signed s.psr.icc ∧
    done (.umulcc rd rs1 op2) unsigned (icc unsigned) ∧ done (.smulcc rd rs1 op2) signed (icc signed)

/-- The divides (R442 to R446): with a nonzero divisor the quotient of Y ++ r[rs1], rounded toward zero, bounded by the largest
(and for a signed divide the least) value of a word, V saying that it was bounded (and, under SDIV_NEG_OVERFLOW B, that a
quotient of -2^31 had a remainder); Y keeps its value or, where DIV_Y_RESULT says so, receives the remainder. A zero divisor takes
division_by_zero, writing nothing. -/
def Obligations.DivideResults : Prop :=
  ∀ (s : State) (rd rs1 : RegNum) (op2 : Operand2),
    let n : BitVec 64 := s.y ++ s.reg rs1
    let b := s.operand2 op2
    let uq := n.toNat / b.toNat
    let ur : Word := BitVec.ofNat 32 (min uq (2 ^ 32 - 1))
    let uv := decide (2 ^ 32 ≤ uq)
    let sq := n.toInt.tdiv b.toInt
    let sr : Word := BitVec.ofInt 32 (max (min sq (2 ^ 31 - 1)) (-2 ^ 31))
    let sv := decide (2 ^ 31 - 1 < sq) || decide (sq < -2 ^ 31) ||
      (s.cfg.sdivNegOverflowB && decide (sq = -2 ^ 31) && decide (n.toInt.tmod b.toInt ≠ 0))
    let uy := if s.cfg.divYRemainder then BitVec.ofNat 32 (n.toNat % b.toNat) else s.y
    let sy := if s.cfg.divYRemainder then BitVec.ofInt 32 (n.toInt.tmod b.toInt) else s.y
    let done (i : Instr) (r y : Word) (icc : Icc) : Prop :=
      Completes i s fun t =>
        WritesReg s t s.psr.cwp rd r ∧ t.y = y ∧ t.psr.icc = icc ∧ OnlyRegsIccY s t ∧ Advances s t
    let icc (r : Word) (v : Bool) : Icc := ⟨r.getLsbD 31, decide (r.toNat = 0), v, false⟩
    (b ≠ 0#32 →
      done (.udiv rd rs1 op2) ur uy s.psr.icc ∧ done (.sdiv rd rs1 op2) sr sy s.psr.icc ∧
      done (.udivcc rd rs1 op2) ur uy (icc ur uv) ∧ done (.sdivcc rd rs1 op2) sr sy (icc sr sv)) ∧
    (b = 0#32 →
      Traps (.udiv rd rs1 op2) s .divisionByZero ∧ Traps (.sdiv rd rs1 op2) s .divisionByZero ∧
      Traps (.udivcc rd rs1 op2) s .divisionByZero ∧ Traps (.sdivcc rd rs1 op2) s .divisionByZero)

/-- SAVE and RESTORE (R447 to R449, R688): to a valid window, CWP changes and the sum, of operands read in the old window, goes to
r[rd] of the new one; to an invalid one, window_overflow or window_underflow and nothing else. -/
def Obligations.SaveAndRestore : Prop :=
  ∀ (s : State) (rd rs1 : RegNum) (op2 : Operand2),
    let done (i : Instr) (w : BitVec 5) : Prop :=
      Completes i s fun t =>
        t = { s with globals := t.globals, windows := t.windows, pc := s.npc, npc := s.npc + 4#32,
                     psr := { s.psr with cwp := w } } ∧
        WritesReg s t w rd (s.reg rs1 + s.operand2 op2) ∧ KeepsMemory s t
    let up : BitVec 5 := BitVec.ofNat 5 ((s.psr.cwp.toNat + 1) % s.cfg.nwindows)
    let down : BitVec 5 := BitVec.ofNat 5 ((s.psr.cwp.toNat + (s.cfg.nwindows - 1)) % s.cfg.nwindows)
    (s.wim.getLsbD down.toNat = false → done (.save rd rs1 op2) down) ∧
    (s.wim.getLsbD down.toNat = true → Traps (.save rd rs1 op2) s .windowOverflow) ∧
    (s.wim.getLsbD up.toNat = false → done (.restore rd rs1 op2) up) ∧
    (s.wim.getLsbD up.toNat = true → Traps (.restore rd rs1 op2) s .windowUnderflow)

/-! Memory. -/

/-- A write of a key is what it reads then, every other key keeps its byte, and the canonical form is kept; an unlisted key reads
0x00 (the model's choice, log 4). Where an access goes without translation, nothing of the state changing: in the spaces 8 to 0xB to the
word's own address (R130, R216); in a pass-through space to the physical address whose upper four bits are the space's lower four (R217);
in another space to what ASI_MAP makes of it, storage or a device of its own or a window of physical addresses, and nowhere, with
MAE, where it makes nothing (R132, R139; the keys of such a space are the model's, log 16). The memory map decides whether an access is made
and whether in memory or at a device (only an access error of a pass-through access with the MMU enabled is the MMU's: MmuFaultRecording).
memory_read of a key delivers the four bytes there, the first the most significant (R122, R126); of a device what the device answers, memory
unchanged, the access recorded with its space and the byte addressed (R12, R136; the record's form is the model's, log 38).
memory_write of a key writes the bytes of the mask, of a device it is an access to the device, with its space, byte address, mask, data
and sync, memory unchanged, and nothing else but the store signals changes (R12, R127, R136). An access that fails answers its error, and
writes nothing. A fetch of a key delivers one of the words that an instruction buffer may still hold or memory's, and no later one an older
(R181, R185, log 17). -/
def Obligations.MemoryReadsAndWrites : Prop :=
  (∀ k, Memory.read [] k = 0x00#8) ∧
  (∀ (m : Memory) (k : Nat) (b : Byte), Memory.wf m = true →
    Memory.wf (Memory.write m k b) = true ∧
    ∀ x, Memory.read (Memory.write m k b) x = if x = k then b else Memory.read m x) ∧
  (∀ (s : State) (asi : BitVec 8) (fetch store : Bool) (a : Word),
    let word := a.toNat - a.toNat % 4
    let goes (r : Reach) : Prop := s.reach asi fetch store a = (s, r)
    let goesTo (k : Nat) : Prop :=
      goes (match s.busOutcome store k with
        | .ok => .key k
        | .device => .device k
        | .mae => .failed .mae
        | .accessError => .failed .accessError
        | .mmuMiss => .failed .mmuMiss)
    let own := (asi.toNat + 1) * 2 ^ 36 + word
    (asi ∈ [0x08#8, 0x09#8, 0x0A#8, 0x0B#8] → s.untranslated → goesTo word) ∧
    (s.cfg.hasRefMmu = true → asi.toNat / 16 = 2 →
      let pa := asi.toNat % 16 * 2 ^ 32 + word
      s.mmu.e = false ∨ s.busOutcome store pa ≠ .accessError → goesTo pa) ∧
    (asi ∉ [0x08#8, 0x09#8, 0x0A#8, 0x0B#8] → ¬ s.mmuSpace asi → ¬ (s.cfg.hasRefMmu = true ∧ asi.toNat / 16 = 2) →
      (s.cfg.altSpaces.lookup asi = none → goes (.failed .mae)) ∧
      (s.cfg.altSpaces.lookup asi = some .storage → goesTo own) ∧
      (s.cfg.altSpaces.lookup asi = some .device → goes (.device own)) ∧
      ∀ upper : BitVec 4, s.cfg.altSpaces.lookup asi = some (.physical upper) → goesTo (upper.toNat * 2 ^ 32 + word))) ∧
  ∀ (s u : State) (asi : BitVec 8) (isWord : Bool) (a : Word) (k : Nat), ¬ s.mmuSpace asi →
    let word := Memory.read u.mem k ++ Memory.read u.mem (k + 1) ++ Memory.read u.mem (k + 2) ++ Memory.read u.mem (k + 3)
    (s.reach asi false false a = (u, .key k) → s.memoryRead asi false isWord a = (u, .ok word)) ∧
    (∀ fetch, s.reach asi fetch false a = (u, .device k) → ∃ w,
      s.memoryRead asi fetch isWord a = ({ u with io := u.io ++ [⟨asi, k + a.toNat % 4, false, 0xF#4, w, false⟩] }, .ok w)) ∧
    (∀ fetch e, s.reach asi fetch false a = (u, .failed e) → s.memoryRead asi fetch isWord a = (u, .error e)) ∧
    (s.reach asi true false a = (u, .key k) → ∃ t n,
      s.memoryRead asi true isWord a = (t, .ok ((oldWords k u.ibuf).getD n word)) ∧
      oldWords k t.ibuf = (oldWords k u.ibuf).drop n ∧ t = { u with ibuf := t.ibuf, freeCtr := t.freeCtr }) ∧
    ∀ (mask : BitVec 4) (data : Word),
      (s.reach asi false true a = (u, .key k) → Memory.wf s.mem = true → ∃ t,
        s.memoryWrite asi isWord a mask data = (t, none) ∧ t = storeSignals s u t.ibuf t.mem ∧
        t.ibuf = (if s.cfg.hasIbuf then u.ibuf ++ [.store k (Memory.readWord u.mem k)] else u.ibuf) ∧
        (∀ n, n < 4 → Memory.read t.mem (k + n) =
          if mask.getLsbD (3 - n) then data.extractLsb' (24 - 8 * n) 8 else Memory.read u.mem (k + n)) ∧
        ∀ x, x < k ∨ k + 4 ≤ x → Memory.read t.mem x = Memory.read u.mem x) ∧
      (s.reach asi false true a = (u, .device k) →
        s.memoryWrite asi isWord a mask data =
          ({ storeSignals s u u.ibuf u.mem with
             io := u.io ++ [⟨asi, k + a.toNat % 4, true, mask, data, s.storeBarrierPending || !s.psoMode⟩] }, none)) ∧
      ∀ e, s.reach asi false true a = (u, .failed e) →
        s.memoryWrite asi isWord a mask data = (storeSignals s u u.ibuf u.mem, some e)

/-- A load that reads the word `w`, the state being `u` after the access (the same but for what translation changes), delivers the
byte, halfword or word that the address names, extended as the instruction says (R327, R332 to R336, R338 to R342). -/
def Sys2Proof.Machine.Loads (i : Instr) (s : State) (rd : RegNum) (asi : BitVec 8) (isWord : Bool) (a : Word)
    (value : Word → Word) : Prop :=
  ∀ u w, s.memoryRead asi false isWord a = (u, .ok w) →
    Completes i s fun t =>
      WritesReg u t s.psr.cwp rd (value w) ∧ OnlyRegs u t ∧ Advances s t ∧
      u = { s with mem := u.mem, mmu := u.mmu, ibuf := u.ibuf, io := u.io, freeCtr := u.freeCtr }

/-- The integer loads and their alternate-space forms. -/
def Obligations.IntegerLoads : Prop :=
  ∀ (s : State) (rd rs1 rs2 : RegNum) (op2 : Operand2) (asi : BitVec 8),
    let a := s.reg rs1 + s.operand2 op2
    let b := s.reg rs1 + s.reg rs2
    let space : BitVec 8 := if s.psr.s then 0x0B#8 else 0x0A#8
    let byte (x : Word) (w : Word) : Byte := w.extractLsb' (24 - 8 * (x.toNat % 4)) 8
    let half (x : Word) (w : Word) : BitVec 16 := w.extractLsb' (16 - 8 * (x.toNat % 4)) 16
    Loads (.ldsb rd rs1 op2) s rd space false a (fun w => (byte a w).signExtend 32) ∧
    Loads (.ldub rd rs1 op2) s rd space false a (fun w => (byte a w).zeroExtend 32) ∧
    (a.toNat % 2 = 0 → Loads (.ldsh rd rs1 op2) s rd space false a (fun w => (half a w).signExtend 32)) ∧
    (a.toNat % 2 = 0 → Loads (.lduh rd rs1 op2) s rd space false a (fun w => (half a w).zeroExtend 32)) ∧
    (a.toNat % 4 = 0 → Loads (.ld rd rs1 op2) s rd space true a id) ∧
    (s.psr.s = true →
      Loads (.ldsba rd rs1 (.reg asi rs2)) s rd asi false b (fun w => (byte b w).signExtend 32) ∧
      Loads (.lduba rd rs1 (.reg asi rs2)) s rd asi false b (fun w => (byte b w).zeroExtend 32) ∧
      (b.toNat % 2 = 0 → Loads (.ldsha rd rs1 (.reg asi rs2)) s rd asi false b (fun w => (half b w).signExtend 32)) ∧
      (b.toNat % 2 = 0 → Loads (.lduha rd rs1 (.reg asi rs2)) s rd asi false b (fun w => (half b w).zeroExtend 32)) ∧
      (b.toNat % 4 = 0 → Loads (.lda rd rs1 (.reg asi rs2)) s rd asi true b id))

/-- LDD and LDDA (R329, R331, R337, R343): the word at the address goes to the even register, discarded if that is r[0], and then the
word at address + 4 to the odd one; with an odd rd, where LDD_ODD_RD_TRAPS says so, they take illegal_instruction. -/
def Obligations.DoubleLoads : Prop :=
  (∀ (s u v : State) (rd rs1 rs2 : RegNum) (op2 : Operand2) (asi : BitVec 8) (w0 w1 : Word),
    s.cfg.lddOddRdTraps = false ∨ rd.getLsbD 0 = false →
    let even := rd &&& 0x1E#5
    let odd := rd ||| 1#5
    let done (i : Instr) (asi : BitVec 8) (a : Word) : Prop :=
      a.toNat % 8 = 0 → s.memoryRead asi false false a = (u, .ok w0) →
      (u.setReg even w0).memoryRead asi false false (a + 4#32) = (v, .ok w1) →
      Completes i s fun t =>
        t.reg even = (if even = 0#5 then 0#32 else w0) ∧ t.reg odd = w1 ∧
        (∀ w n, ¬ sameRegister s.cfg w n s.psr.cwp even → ¬ sameRegister s.cfg w n s.psr.cwp odd → t.regIn w n = s.regIn w n) ∧
        t = { v with globals := t.globals, windows := t.windows, pc := s.npc, npc := s.npc + 4#32 } ∧
        v = { s with globals := v.globals, windows := v.windows, mem := v.mem, mmu := v.mmu, ibuf := v.ibuf, io := v.io,
                     freeCtr := v.freeCtr }
    done (.ldd rd rs1 op2) (if s.psr.s then 0x0B#8 else 0x0A#8) (s.reg rs1 + s.operand2 op2) ∧
    (s.psr.s = true → done (.ldda rd rs1 (.reg asi rs2)) asi (s.reg rs1 + s.reg rs2))) ∧
  ∀ (s : State) (rd rs1 rs2 : RegNum) (op2 : Operand2) (asi : BitVec 8), s.cfg.lddOddRdTraps = true → rd.getLsbD 0 = true →
    Traps (.ldd rd rs1 op2) s .illegalInstruction ∧
    (s.psr.s = true → Traps (.ldda rd rs1 (.reg asi rs2)) s .illegalInstruction)

/-- The integer stores and their alternate-space forms (R350 to R352, R354 to R356): the low byte or halfword or the word of r[rd] at
the address computed, every other byte unchanged; where the address is a device interface, in the lanes of an access to it, all of memory
unchanged (R136). -/
def Obligations.IntegerStores : Prop :=
  ∀ (s : State) (rd rs1 rs2 : RegNum) (op2 : Operand2) (asi : BitVec 8),
    let a := s.reg rs1 + s.operand2 op2
    let b := s.reg rs1 + s.reg rs2
    let space : BitVec 8 := if s.psr.s then 0x0B#8 else 0x0A#8
    let v := s.reg rd
    let low : List Byte := [v.extractLsb' 0 8]
    let half : List Byte := [v.extractLsb' 8 8, v.extractLsb' 0 8]
    StoresAt (.stb rd rs1 op2) s space a low ∧
    (a.toNat % 2 = 0 → StoresAt (.sth rd rs1 op2) s space a half) ∧
    (a.toNat % 4 = 0 → StoresAt (.st rd rs1 op2) s space a (bytesOfWord v)) ∧
    (s.psr.s = true →
      StoresAt (.stba rd rs1 (.reg asi rs2)) s asi b low ∧
      (b.toNat % 2 = 0 → StoresAt (.stha rd rs1 (.reg asi rs2)) s asi b half) ∧
      (b.toNat % 4 = 0 → StoresAt (.sta rd rs1 (.reg asi rs2)) s asi b (bytesOfWord v)))

/-- STD and STDA (R331, R353, R357): the even register at the address, the odd one at address + 4; with an odd rd, where
LDD_ODD_RD_TRAPS says so, they take illegal_instruction. -/
def Obligations.DoubleStores : Prop :=
  ∀ (s : State) (rd rs1 rs2 : RegNum) (op2 : Operand2) (asi : BitVec 8),
    let a := s.reg rs1 + s.operand2 op2
    let b := s.reg rs1 + s.reg rs2
    let v0 := s.reg (rd &&& 0x1E#5)
    let v1 := s.reg (rd ||| 1#5)
    (s.cfg.lddOddRdTraps = false ∨ rd.getLsbD 0 = false →
      (a.toNat % 8 = 0 → StoresPairAt (.std rd rs1 op2) s (if s.psr.s then 0x0B#8 else 0x0A#8) a v0 v1 id) ∧
      (s.psr.s = true → b.toNat % 8 = 0 → StoresPairAt (.stda rd rs1 (.reg asi rs2)) s asi b v0 v1 id)) ∧
    (s.cfg.lddOddRdTraps = true → rd.getLsbD 0 = true →
      Traps (.std rd rs1 op2) s .illegalInstruction ∧
      (s.psr.s = true → Traps (.stda rd rs1 (.reg asi rs2)) s .illegalInstruction))

/-- An atomic load-store (R360 to R363) whose read delivers the word `w`, the state being `u` then, and whose write goes to the key `k`,
the state being `v`: the old byte or word goes to r[rd] and `bytes` to memory, or, where `k` is a device interface, into an access to
it (R136), the block signals are as they were, and nothing else changes, but for what the two accesses change where the MMU translates. -/
def Sys2Proof.Machine.Exchanges (i : Instr) (s : State) (rd : RegNum) (asi : BitVec 8) (isWord : Bool) (a : Word) (bytes : List Byte)
    (old : Word → Word) : Prop :=
  ∀ u v w k, ¬ s.mmuSpace asi → s.memoryRead asi false isWord a = (u, .ok w) →
    (u.reach asi false true a = (v, .key k) → Memory.wf s.mem = true →
      Completes i s fun t =>
        t = { storeSignals u v t.ibuf t.mem with
              globals := t.globals, windows := t.windows, pc := s.npc, npc := s.npc + 4#32 } ∧
        v = { s with mem := v.mem, mmu := v.mmu, ibuf := v.ibuf, io := v.io, freeCtr := v.freeCtr } ∧
        t.ibuf = (if s.cfg.hasIbuf then v.ibuf ++ [.store k (Memory.readWord v.mem k)] else v.ibuf) ∧
        WritesReg s t s.psr.cwp rd (old w) ∧
        ∀ x, Memory.read t.mem x = storedByte (k + a.toNat % 4) bytes x (Memory.read v.mem x)) ∧
    (u.reach asi false true a = (v, .device k) →
      Completes i s fun t =>
        v = { s with mem := v.mem, mmu := v.mmu, ibuf := v.ibuf, io := v.io, freeCtr := v.freeCtr } ∧
        WritesReg s t s.psr.cwp rd (old w) ∧
        ∃ x, DeviceStore x u asi k a bytes ∧
          t = { storeSignals u v v.ibuf v.mem with
                io := v.io ++ [x], globals := t.globals, windows := t.windows, pc := s.npc, npc := s.npc + 4#32 })

/-- LDSTUB, LDSTUBA, SWAP, SWAPA (R360 to R363), where addresses are physical and where they are translated, in memory and at device
interfaces. -/
def Obligations.AtomicLoadStores : Prop :=
  ∀ (s : State) (rd rs1 rs2 : RegNum) (op2 : Operand2) (asi : BitVec 8),
    s.pbBlockByte = false → s.pbBlockWord = false →
    let a := s.reg rs1 + s.operand2 op2
    let b := s.reg rs1 + s.reg rs2
    let space : BitVec 8 := if s.psr.s then 0x0B#8 else 0x0A#8
    let byte (x : Word) (w : Word) : Word := (w.extractLsb' (24 - 8 * (x.toNat % 4)) 8).zeroExtend 32
    Exchanges (.ldstub rd rs1 op2) s rd space false a [0xFF#8] (byte a) ∧
    (a.toNat % 4 = 0 → Exchanges (.swap rd rs1 op2) s rd space true a (bytesOfWord (s.reg rd)) id) ∧
    (s.psr.s = true →
      Exchanges (.ldstuba rd rs1 (.reg asi rs2)) s rd asi false b [0xFF#8] (byte b) ∧
      (b.toNat % 4 = 0 → Exchanges (.swapa rd rs1 (.reg asi rs2)) s rd asi true b (bytesOfWord (s.reg rd)) id))

/-- An access that the memory system fails takes the exception it names (R324, R690, R692, R697), nothing having been written but what the
first access of a doubleword wrote (R329): every load, store and atomic load-store, the alternate-space, floating-point and coprocessor
forms among them. That the first word of a doubleword is done and an f register not yet written is unchanged when an access fails is the
model's choice (log 27, DESIGN CHOICE); that an atomic load-store whose write fails leaves r[rd] as it was and its operand in memory unwritten
is inferred (log 15, DEDUCED), and that a page table entry's R bit that its read part has set stays set is the model's choice (log 15, DESIGN
CHOICE); so is it that the second word of a doubleword store is translated anew, and so can fail after the first has overwritten its own
page table entry (log 20, DESIGN CHOICE); which exception an error that is not detected as such takes is the model's choice too (log 18). -/
def Obligations.FailedAccessesTrap : Prop :=
  ∀ (s : State) (rd rs1 rs2 : RegNum) (op2 : Operand2) (asi : BitVec 8),
    s.pbBlockByte = false → s.pbBlockWord = false →
    let a := s.reg rs1 + s.operand2 op2
    let b := s.reg rs1 + s.reg rs2
    let space : BitVec 8 := if s.psr.s then 0x0B#8 else 0x0A#8
    let even := rd &&& 0x1E#5
    let readPair (i : Instr) (asi : BitVec 8) (x : Word) (deliver : Word → State → State) : Prop :=
      x.toNat % 8 = 0 → ReadFails i s asi false x ∧ SecondReadFails i s asi x deliver
    let writePair (i : Instr) (asi : BitVec 8) (x v0 : Word) : Prop :=
      x.toNat % 8 = 0 → WriteFails i s asi x ∧ SecondWriteFails i s asi x v0
    -- the integer unit
    (ReadFails (.ldsb rd rs1 op2) s space false a ∧ ReadFails (.ldub rd rs1 op2) s space false a ∧
      WriteFails (.stb rd rs1 op2) s space a ∧ ExchangeFails (.ldstub rd rs1 op2) s space false a ∧
      (a.toNat % 2 = 0 → ReadFails (.ldsh rd rs1 op2) s space false a ∧ ReadFails (.lduh rd rs1 op2) s space false a ∧
        WriteFails (.sth rd rs1 op2) s space a) ∧
      (a.toNat % 4 = 0 → ReadFails (.ld rd rs1 op2) s space true a ∧ WriteFails (.st rd rs1 op2) s space a ∧
        ExchangeFails (.swap rd rs1 op2) s space true a) ∧
      (s.cfg.lddOddRdTraps = false ∨ rd.getLsbD 0 = false →
        readPair (.ldd rd rs1 op2) space a (fun w t => t.setReg even w) ∧ writePair (.std rd rs1 op2) space a (s.reg even))) ∧
    -- the alternate spaces
    (s.psr.s = true →
      ReadFails (.ldsba rd rs1 (.reg asi rs2)) s asi false b ∧ ReadFails (.lduba rd rs1 (.reg asi rs2)) s asi false b ∧
      WriteFails (.stba rd rs1 (.reg asi rs2)) s asi b ∧ ExchangeFails (.ldstuba rd rs1 (.reg asi rs2)) s asi false b ∧
      (b.toNat % 2 = 0 →
        ReadFails (.ldsha rd rs1 (.reg asi rs2)) s asi false b ∧ ReadFails (.lduha rd rs1 (.reg asi rs2)) s asi false b ∧
        WriteFails (.stha rd rs1 (.reg asi rs2)) s asi b) ∧
      (b.toNat % 4 = 0 →
        ReadFails (.lda rd rs1 (.reg asi rs2)) s asi true b ∧ WriteFails (.sta rd rs1 (.reg asi rs2)) s asi b ∧
        ExchangeFails (.swapa rd rs1 (.reg asi rs2)) s asi true b) ∧
      (s.cfg.lddOddRdTraps = false ∨ rd.getLsbD 0 = false →
        readPair (.ldda rd rs1 (.reg asi rs2)) asi b (fun w t => t.setReg even w) ∧
        writePair (.stda rd rs1 (.reg asi rs2)) asi b (s.reg even))) ∧
    -- the FPU
    (s.fpuReady →
      (a.toNat % 4 = 0 → ReadFails (.ldf rd rs1 op2) s space true a ∧ ReadFails (.ldfsr rs1 op2) s space true a) ∧
      (s.cfg.fpMisalignedRegTraps = false ∨ rd.getLsbD 0 = false →
        readPair (.lddf rd rs1 op2) space a (fun w t => t.setFreg even w))) ∧
    (s.fpuStores →
      (a.toNat % 4 = 0 → WriteFails (.stf rd rs1 op2) s space a ∧ WriteFails (.stfsr rs1 op2) s space a) ∧
      (s.cfg.fpMisalignedRegTraps = false ∨ rd.getLsbD 0 = false → writePair (.stdf rd rs1 op2) space a (s.freg even)) ∧
      (s.psr.s = true → s.cfg.hasFq = true → ∀ e rest, s.fq = e :: rest →
        writePair (.stdfq rs1 op2) space a (e.extractLsb' 32 32))) ∧
    -- the coprocessor
    (s.cpAccepts →
      (s.cfg.cpExceptionsPossible = false ∨ Config.cpSequenceError s.cp.state = false →
        (a.toNat % 4 = 0 → ReadFails (.ldc rd rs1 op2) s space true a ∧ ReadFails (.ldcsr rs1 op2) s space true a) ∧
        readPair (.lddc rd rs1 op2) space a (fun w t =>
          { t with cp := { t.cp with state := Config.cpLoadWord (.register even) w t.cp.state } })) ∧
      (a.toNat % 4 = 0 → WriteFails (.stc rd rs1 op2) s space a ∧ WriteFails (.stcsr rs1 op2) s space a) ∧
      writePair (.stdc rd rs1 op2) space a (Config.cpStoreWord (.register even) s.cp.state) ∧
      (s.psr.s = true → s.cfg.hasCq = true →
        writePair (.stdcq rs1 op2) space a ((Config.cpQueueFront s.cp.state).extractLsb' 32 32)))

/-! Control transfer. -/

/-- Bicc (R472, R474, R475), and CBccc (R478, R479) with the coprocessor ready: every row, by icc or by the condition code the
coprocessor presents, taken or not, changes only PC, nPC and annul. -/
def Obligations.IntegerAndCoprocessorBranches : Prop :=
  (∀ r ∈ iccRows, ∀ (s : State) (a : Bool) (disp22 : BitVec 22),
    exec (r.branch a disp22) s = .next (branched s (r.test s.psr.icc) r.always a disp22)) ∧
  ∀ r ∈ cccRows, ∀ (s : State) (a : Bool) (disp22 : BitVec 22), s.cpAccepts →
    exec (r.branch a disp22) s = .next (branched s (r.taken.contains s.cp.state.cc) r.always a disp22)

/-- FBfcc (R476, R477) with the FPU ready: every row, by fcc. Two clauses are the model's choice (log 10, DESIGN CHOICE; for both cases R765
with U44 and U45 has a model refuse): within three instructions of an LDFSR it tests an fcc that is not known, so that FBA and FBN, which no
fcc matters to, are decided; right after an FPop2 it completes as a branch does, whether it is taken not being known. -/
def Obligations.FloatingPointBranches : Prop :=
  ∀ r ∈ fccRows, ∀ (s : State) (a : Bool) (disp22 : BitVec 22), s.fpuReady →
    (s.hzFcmp = 0 → s.hzLdfsr = 0 →
      exec (r.branch a disp22) s = .next (branched s (r.taken.contains s.fsr.fcc) r.always a disp22)) ∧
    (s.hzFcmp = 0 → s.hzLdfsr ≠ 0 →
      (∃ fcc, exec (r.branch a disp22) s =
        .next (branched { s with freeCtr := s.freeCtr + 1 } (r.taken.contains fcc) r.always a disp22)) ∧
      (r.taken = [] ∨ r.always = true → exec (r.branch a disp22) s =
        .next (branched { s with freeCtr := s.freeCtr + 1 } r.always r.always a disp22))) ∧
    (s.hzFcmp ≠ 0 → ∃ taken,
      exec (r.branch a disp22) s = .next (branched { s with freeCtr := s.freeCtr + 1 } taken r.always a disp22))

/-- CALL (R480) and JMPL (R484): the address of the instruction goes to r[15] or r[rd], and control to the target after one more
instruction; a JMPL to an address that is no word address traps. -/
def Obligations.CallAndJump : Prop :=
  (∀ (s : State) (disp30 : BitVec 30),
    Completes (.call disp30) s fun t =>
      WritesReg s t s.psr.cwp 15#5 s.pc ∧ OnlyRegs s t ∧ t.pc = s.npc ∧ t.npc = s.pc + 4#32 * disp30.zeroExtend 32) ∧
  ∀ (s : State) (rd rs1 : RegNum) (op2 : Operand2),
    ((s.reg rs1 + s.operand2 op2).toNat % 4 = 0 →
      Completes (.jmpl rd rs1 op2) s fun t =>
        WritesReg s t s.psr.cwp rd s.pc ∧ OnlyRegs s t ∧ t.pc = s.npc ∧ t.npc = s.reg rs1 + s.operand2 op2) ∧
    ((s.reg rs1 + s.operand2 op2).toNat % 4 ≠ 0 → Traps (.jmpl rd rs1 op2) s .memAddressNotAligned)

/-- Ticc (R474, R490): every row; when its test fails it is a NOP, when it holds it takes the trap whose tt is 128 plus the low seven
bits of the sum. -/
def Obligations.TrapOnIntegerCondition : Prop :=
  ∀ r ∈ iccRows, ∀ (s : State) (rs1 : RegNum) (opn : TrapOperand),
    let n : BitVec 7 := match opn with
      | .reg rs2 => BitVec.ofNat 7 ((s.reg rs1).toNat + (s.reg rs2).toNat)
      | .imm imm7 => BitVec.ofNat 7 ((s.reg rs1).toNat + imm7.toNat)
    (r.test s.psr.icc = false → exec (r.trap rs1 opn) s = .next { s with pc := s.npc, npc := s.npc + 4#32 }) ∧
    (r.test s.psr.icc = true → Traps (r.trap rs1 opn) s (.trapInstruction n) ∧
      (Trap.trapInstruction n).tt.toNat = 128 + n.toNat)

/-! State registers. -/

/-- The reads of the state registers (R511 to R515): r[rd] receives the register, nothing else changes; PSR's and TBR's fields stand at
their bits; a reserved ancillary register gives some value (U42, log 9). -/
def Obligations.StateRegisterReads : Prop :=
  ∀ (s : State) (rd rs1 : RegNum),
    Delivers (.rdy rd) s rd s.y ∧
    (s.psr.s = true → ∃ psr wim tbr : Word,
      Delivers (.rdpsr rd) s rd psr ∧ Delivers (.rdwim rd) s rd wim ∧ Delivers (.rdtbr rd) s rd tbr ∧
      psr.extractLsb' 28 4 = s.cfg.psrImpl ∧ psr.extractLsb' 24 4 = s.cfg.psrVer ∧
      psr.getLsbD 23 = s.psr.icc.n ∧ psr.getLsbD 22 = s.psr.icc.z ∧ psr.getLsbD 21 = s.psr.icc.v ∧
      psr.getLsbD 20 = s.psr.icc.c ∧ psr.extractLsb' 14 6 = 0#6 ∧ psr.getLsbD 13 = (s.psr.ec && s.cfg.hasCp) ∧
      psr.getLsbD 12 = (s.psr.ef && s.cfg.hasFpu) ∧ psr.extractLsb' 8 4 = s.psr.pil ∧ psr.getLsbD 7 = s.psr.s ∧
      psr.getLsbD 6 = s.psr.ps ∧ psr.getLsbD 5 = s.psr.et ∧ psr.extractLsb' 0 5 = s.psr.cwp ∧
      (∀ n, wim.getLsbD n = (s.wim.getLsbD n && decide (n < s.cfg.nwindows))) ∧
      tbr.extractLsb' 12 20 = s.tba ∧ tbr.extractLsb' 4 8 = s.tt ∧ tbr.extractLsb' 0 4 = 0#4) ∧
    (rs1.getLsbD 4 = true →
      let k : Fin 16 := ⟨rs1.toNat % 16, Nat.mod_lt _ (by decide)⟩
      (s.cfg.asrImplemented.getLsbD k = true → (s.cfg.asrPrivileged.getLsbD k = false ∨ s.psr.s = true) →
        Delivers (.rdasr rd rs1) s rd s.asr[k]) ∧
      (s.cfg.asrImplemented.getLsbD k = false → (s.cfg.asrPrivileged.getLsbD k = false ∨ s.psr.s = true) →
        Traps (.rdasr rd rs1) s .illegalInstruction) ∧
      (s.cfg.asrPrivileged.getLsbD k = true → s.psr.s = false → Traps (.rdasr rd rs1) s .privilegedInstruction)) ∧
    (rs1.getLsbD 4 = false → ∃ v, Completes (.rdasr rd rs1) s fun t =>
      WritesReg s t s.psr.cwp rd v ∧ OnlyRegs { s with freeCtr := s.freeCtr + 1 } t ∧ Advances s t)

/-- The writes of the state registers (R45, R47, R516 to R518, R520 to R522): r[rs1] xor operand2 is put on the list of delayed writes,
with the delay of the configuration; WRPSR writes ET and PIL at once, and one that would make CWP illegal takes illegal_instruction; a
reserved ancillary register takes no write (U43, log 9). -/
def Obligations.StateRegisterWrites : Prop :=
  ∀ (s : State) (rd rs1 : RegNum) (op2 : Operand2),
    let v := s.reg rs1 ^^^ s.operand2 op2
    let delayed (u : State) (w : StateWrite) : Host.Outcome State Fault Refusal :=
      .next { u with pending := s.pending ++ [⟨s.cfg.writeStateDelay.val, w⟩], pc := s.npc, npc := s.npc + 4#32 }
    exec (.wry rs1 op2) s = delayed s (.y v) ∧
    (s.psr.s = true →
      (∃ w, exec (.wrwim rs1 op2) s = delayed s (.wim w) ∧
        ∀ n, w.getLsbD n = (v.getLsbD n && decide (n < s.cfg.nwindows))) ∧
      exec (.wrtbr rs1 op2) s = delayed s (.tba (v.extractLsb' 12 20)) ∧
      (v.toNat % 32 < s.cfg.nwindows →
        exec (.wrpsr rs1 op2) s =
          delayed { s with psr := { s.psr with et := v.getLsbD 5, pil := v.extractLsb' 8 4 } }
            (.psr { icc := ⟨v.getLsbD 23, v.getLsbD 22, v.getLsbD 21, v.getLsbD 20⟩, ec := v.getLsbD 13 && s.cfg.hasCp,
                    ef := v.getLsbD 12 && s.cfg.hasFpu, s := v.getLsbD 7, ps := v.getLsbD 6, cwp := v.extractLsb' 0 5 })) ∧
      (s.cfg.nwindows ≤ v.toNat % 32 → Traps (.wrpsr rs1 op2) s .illegalInstruction)) ∧
    (rd.getLsbD 4 = true →
      let k : BitVec 4 := rd.extractLsb' 0 4
      (s.cfg.asrImplemented.getLsbD k.toNat = true → (s.cfg.asrPrivileged.getLsbD k.toNat = false ∨ s.psr.s = true) →
        exec (.wrasr rd rs1 op2) s = delayed s (.asr k v)) ∧
      (s.cfg.asrImplemented.getLsbD k.toNat = false → (s.cfg.asrPrivileged.getLsbD k.toNat = false ∨ s.psr.s = true) →
        Traps (.wrasr rd rs1 op2) s .illegalInstruction) ∧
      (s.cfg.asrPrivileged.getLsbD k.toNat = true → s.psr.s = false →
        Traps (.wrasr rd rs1 op2) s .privilegedInstruction)) ∧
    (rd.getLsbD 4 = false → exec (.wrasr rd rs1 op2) s = .next { s with pc := s.npc, npc := s.npc + 4#32 })

/-- Delayed writes (R45). A write joins the end of those pending, with the delay d as its countdown. The start of an instruction applies the
writes whose countdown is 0, in program order, and removes them, and counts the others down, which keep their order. So a write alone is
applied at the start of the (d + 1)th instruction after it and not before. Taking a trap drains them: every pending write is applied, in
program order, and none is left (R47, decision D5; log 7). -/
def Obligations.DelayedWriteTiming : Prop :=
  (∀ (s : State) (w : StateWrite), s.pending = [] →
    let d := s.cfg.writeStateDelay.val
    (∀ m, m ≤ d → State.tickPending^[m] (s.enqueue w) = { s with pending := [⟨d - m, w⟩] }) ∧
    State.tickPending^[d + 1] (s.enqueue w) =
      match w with
      | .psr p => { s with psr := { s.psr with icc := p.icc, ec := p.ec, ef := p.ef, s := p.s, ps := p.ps, cwp := p.cwp } }
      | .wim v => { s with wim := v }
      | .tba v => { s with tba := v }
      | .y v => { s with y := v }
      | .asr k v => { s with asr := s.asr.set k.toNat v k.isLt }) ∧
  ∀ s : State,
    (∀ w, s.enqueue w = { s with pending := s.pending ++ [⟨s.cfg.writeStateDelay.val, w⟩] }) ∧
    WritesApplied s s.tickPending ((s.pending.filter fun p => p.countdown = 0).map PendingWrite.write) ∧
    s.tickPending.pending =
      s.pending.filterMap (fun p => if p.countdown = 0 then none else some ⟨p.countdown - 1, p.write⟩) ∧
    WritesApplied s s.drainPending (s.pending.map PendingWrite.write) ∧ s.drainPending.pending = []

/-- STBAR sets store_barrier_pending (R526); UNIMP takes illegal_instruction (R528). FLUSH, where it is implemented, changes nothing but
what an instruction buffer knows: the doubleword that holds the address is to be forgotten (R530), at the latest when five further
instructions have executed (R182), after which no fetch of it finds a word replaced before the FLUSH; the form the buffer takes is
the model's (log 17). Elsewhere FLUSH takes the trap the configuration names (R532). -/
def Obligations.BarrierUnimpFlush : Prop :=
  (∀ (s : State) (const22 : BitVec 22) (rs1 : RegNum) (op2 : Operand2),
    exec .stbar s = .next { s with storeBarrierPending := true, pc := s.npc, npc := s.npc + 4#32 } ∧
    Traps (.unimp const22) s .illegalInstruction ∧
    (s.cfg.flushBehaviour = .implemented →
      (s.cfg.hasIbuf = false ∨ s.locate (s.reg rs1 + s.operand2 op2) = none →
        exec (.flush rs1 op2) s = .next { s with pc := s.npc, npc := s.npc + 4#32 }) ∧
      ∀ k, s.cfg.hasIbuf = true → s.locate (s.reg rs1 + s.operand2 op2) = some k →
        exec (.flush rs1 op2) s =
          .next { s with ibuf := s.ibuf ++ [.flush (k / 8) 6], pc := s.npc, npc := s.npc + 4#32 }) ∧
    (s.cfg.flushBehaviour = .unimplementedFlushTrap → Traps (.flush rs1 op2) s .unimplementedFlush) ∧
    (s.cfg.flushBehaviour = .illegalInstructionTrap → Traps (.flush rs1 op2) s .illegalInstruction)) ∧
  (∀ d : Nat, IBufEvent.aged^[6] (.flush d 6) = .flush d 0) ∧
  ∀ (before after : List IBufEvent) (d k : Nat) (old : Word), k / 8 = d →
    .store k old ∈ expireFlushes (before ++ .flush d 0 :: after) → .store k old ∈ after

/-! Floating point. -/

/-- LDF, LDDF, LDFSR with the FPU ready (R323, R344 to R346): the words read go to f[rd], to the pair, to the writable fields of the FSR;
ftt, and every other f register, keep their values. An LDDF of an odd register, where that traps, takes fp_exception with ftt =
invalid_fp_register (R84) whenever the FPU is enabled. That it does so at once where traps are deferred too, in fp_execute,
fp_exception_pending and fp_exception, the FPU's mode, its queue and the FPop it remembers kept (R323, R345, against R107 and R553), is the
model's choice (log 34, DESIGN CHOICE). -/
def Obligations.FloatingPointLoads : Prop :=
  (∀ (s u v : State) (rd rs1 : RegNum) (op2 : Operand2) (w0 w1 : Word), s.fpuReady →
    let a := s.reg rs1 + s.operand2 op2
    let space : BitVec 8 := if s.psr.s then 0x0B#8 else 0x0A#8
    let even := rd &&& 0x1E#5
    let odd := rd ||| 1#5
    (a.toNat % 4 = 0 → s.memoryRead space false true a = (u, .ok w0) →
      u = { s with mem := u.mem, mmu := u.mmu, ibuf := u.ibuf, io := u.io, freeCtr := u.freeCtr } ∧
      (Completes (.ldf rd rs1 op2) s fun t =>
        t = { u with f := t.f, pc := s.npc, npc := s.npc + 4#32 } ∧ t.freg rd = w0 ∧ ∀ n, n ≠ rd → t.freg n = s.freg n) ∧
      Completes (.ldfsr rs1 op2) s fun t =>
        t = { u with
              pc := s.npc, npc := s.npc + 4#32, hzLdfsr := 4
              fsr := { rd := w0.extractLsb' 30 2, tem := w0.extractLsb' 23 5, ns := w0.getLsbD 22 && s.cfg.fsrNsImplemented,
                       ftt := s.fsr.ftt, fcc := w0.extractLsb' 10 2, aexc := w0.extractLsb' 5 5, cexc := w0.extractLsb' 0 5 } }) ∧
    (a.toNat % 8 = 0 → s.cfg.fpMisalignedRegTraps = false ∨ rd.getLsbD 0 = false →
      s.memoryRead space false false a = (u, .ok w0) →
      (u.setFreg even w0).memoryRead space false false (a + 4#32) = (v, .ok w1) →
      Completes (.lddf rd rs1 op2) s fun t =>
        t = { v with f := t.f, pc := s.npc, npc := s.npc + 4#32 } ∧
        v = { s with f := v.f, mem := v.mem, mmu := v.mmu, ibuf := v.ibuf, io := v.io, freeCtr := v.freeCtr } ∧
        t.freg even = w0 ∧ t.freg odd = w1 ∧ ∀ n, n ≠ even → n ≠ odd → t.freg n = s.freg n)) ∧
  ∀ (s : State) (rd rs1 : RegNum) (op2 : Operand2), s.fpEnabled = true →
    (s.reg rs1 + s.operand2 op2).toNat % 8 = 0 → s.cfg.fpMisalignedRegTraps = true → rd.getLsbD 0 = true →
      exec (.lddf rd rs1 op2) s = .next (raise .fpException { s with fsr := { s.fsr with ftt := 6#3 } })

/-- STF, STDF, STFSR, STDFQ with the FPU ready, or in the fp_exception state, in which stores execute (R107, R325, R358, R359, R364,
R365): f[rd], the pair, the FSR (its fields at their bits, R90), and the front entry of the queue, which then advances. An empty queue
is fp_exception with ftt = sequence_error; an STDF of an odd register, where that traps, with ftt = invalid_fp_register (R84). That it does so
in the fp_exception state too, as R325 step 4 and R359 have it and R107 denies (log 34, DESIGN CHOICE), that FSR bits 29, 28 and 12 are
stored as 0 (log 24, decision D12), that STFSR keeps ftt, and the format of a queue's entry (log 34, decisions D9, D15) are the model's
choices. -/
def Obligations.FloatingPointStores : Prop :=
  ∀ (s : State) (rd rs1 : RegNum) (op2 : Operand2), s.fpuStores →
    let a := s.reg rs1 + s.operand2 op2
    let space : BitVec 8 := if s.psr.s then 0x0B#8 else 0x0A#8
    (a.toNat % 4 = 0 →
      StoresAt (.stf rd rs1 op2) s space a (bytesOfWord (s.freg rd)) ∧
      ∃ w : Word, StoresAt (.stfsr rs1 op2) s space a (bytesOfWord w) ∧
        w.extractLsb' 30 2 = s.fsr.rd ∧ w.extractLsb' 28 2 = 0#2 ∧ w.extractLsb' 23 5 = s.fsr.tem ∧
        w.getLsbD 22 = (s.fsr.ns && s.cfg.fsrNsImplemented) ∧ w.extractLsb' 20 2 = 0#2 ∧ w.extractLsb' 17 3 = s.cfg.fsrVer ∧
        w.extractLsb' 14 3 = s.fsr.ftt ∧ w.getLsbD 13 = s.qne ∧ w.getLsbD 12 = false ∧ w.extractLsb' 10 2 = s.fsr.fcc ∧
        w.extractLsb' 5 5 = s.fsr.aexc ∧ w.extractLsb' 0 5 = s.fsr.cexc) ∧
    (a.toNat % 8 = 0 → s.cfg.fpMisalignedRegTraps = false ∨ rd.getLsbD 0 = false →
      StoresPairAt (.stdf rd rs1 op2) s space a (s.freg (rd &&& 0x1E#5)) (s.freg (rd ||| 1#5)) id) ∧
    (a.toNat % 8 = 0 → s.cfg.fpMisalignedRegTraps = true → rd.getLsbD 0 = true →
      exec (.stdf rd rs1 op2) s = .next (raise .fpException { s with fsr := { s.fsr with ftt := 6#3 } })) ∧
    (a.toNat % 8 = 0 → s.psr.s = true →
      (∀ e rest, s.cfg.hasFq = true → s.fq = e :: rest →
        StoresPairAt (.stdfq rs1 op2) s space a (e.extractLsb' 32 32) (e.extractLsb' 0 32)
          (fun t => { t with fq := rest, fpuMode := if rest.isEmpty then .execute else s.fpuMode })) ∧
      (s.cfg.hasFq = false ∨ s.fq = [] →
        exec (.stdfq rs1 op2) s = .next (raise .fpException { s with fsr := { s.fsr with ftt := 4#3 } })))

/-- FMOVs, FNEGs, FABSs (R572 to R574): a copy of f[rs2], its sign bit complemented or cleared; cexc and ftt become 0, and nothing else of
the FSR, no other register, no memory byte changes. -/
def Obligations.FloatingPointMoves : Prop :=
  ∀ (s : State) (rd rs2 : RegNum),
    let done (i : Instr) (v : Word) : Prop :=
      s.fpopAccepted i false →
      Completes i s fun t =>
        t = { s with f := t.f, fsr := completedFsr s.fsr 0#5, pc := s.npc, npc := s.npc + 4#32 } ∧
        t.freg rd = v ∧ ∀ n, n ≠ rd → t.freg n = s.freg n
    let x := (s.freg rs2).toNat
    done (.fmovs rd rs2) (s.freg rs2) ∧
    done (.fnegs rd rs2) (BitVec.ofNat 32 ((x + 2 ^ 31) % 2 ^ 32)) ∧
    done (.fabss rd rs2) (BitVec.ofNat 32 (x % 2 ^ 31))

/-- Every FPop with a result (R553, R560 to R571, R575 to R591): accepted, and with no exception that is enabled, it writes the
destination and the FSR and changes nothing else; with an exception that is enabled it writes no destination: where traps are not
deferred it takes fp_exception with ftt = IEEE_754_exception and exactly the highest such bit in cexc. `op` is the row's arithmetic; what
it computes is said in FloatingPointRounding and FloatingPointSpecialResults. -/
def Obligations.FloatingPointOperations : Prop :=
  let done (i : Instr) (s : State) (dst : Fmt) (rd : RegNum) (r : FpResult) : Prop :=
    (r.texc.bits &&& s.fsr.tem = 0#5 →
      Completes i s fun t =>
        t = { s with f := t.f, fsr := completedFsr s.fsr r.texc.bits, pc := s.npc, npc := s.npc + 4#32 } ∧
        t.fpOperand dst rd = r.bits % 2 ^ dst.width ∧ ∀ n, ¬ dst.holds rd n → t.freg n = s.freg n) ∧
    (r.texc.bits &&& s.fsr.tem ≠ 0#5 → s.cfg.fpTrapsDeferred = false →
      ∃ x : BitVec 5, x ∈ [0x10#5, 0x08#5, 0x04#5, 0x02#5, 0x01#5] ∧ x &&& (r.texc.bits &&& s.fsr.tem) = x ∧
        (∀ y : BitVec 5, y &&& (r.texc.bits &&& s.fsr.tem) = y → y.toNat < 2 * x.toNat) ∧
        exec i s = .next (raise .fpException { s with fsr := { s.fsr with cexc := x, ftt := 1#3 } }))
  (∀ r ∈ fpUnaryRows, ∀ (s : State) (rd rs2 : RegNum),
    let a := s.fpOperand r.src rs2
    let x := r.op s.fpEnv a
    s.fpopAccepted (r.instr rd rs2) (r.src.misaligned rs2 || r.dst.misaligned rd) →
    s.unfinished (r.instr rd rs2).mnemonic a 0 x.texc.bits = false →
    done (r.instr rd rs2) s r.dst rd x) ∧
  ∀ r ∈ fpBinaryRows, ∀ (s : State) (rd rs1 rs2 : RegNum),
    let a := s.fpOperand r.src rs1
    let b := s.fpOperand r.src rs2
    let x := r.op s.fpEnv a b
    s.fpopAccepted (r.instr rd rs1 rs2) (r.src.misaligned rs1 || r.src.misaligned rs2 || r.dst.misaligned rd) →
    s.unfinished (r.instr rd rs1 rs2).mnemonic a b x.texc.bits = false →
    done (r.instr rd rs1 rs2) s r.dst rd x

/-- The compares (R592 to R597, R606): with invalid not enabled or not raised, fcc receives the relation, 3 exactly when an operand is a
NaN; invalid is raised for a signaling NaN, by the E forms for any NaN; no f register changes, and the next instruction must not be an
FBfcc (R765). With an enabled exception, where traps are not deferred, fp_exception is taken with ftt = IEEE_754_exception and that
exception in cexc, which is NV (or, in nonstandard mode with a subnormal operand and no NaN, NX, R612); fcc and aexc are unchanged. -/
def Obligations.FloatingPointCompares : Prop :=
  ∀ r ∈ fpCompareRows, ∀ (s : State) (rs1 rs2 : RegNum),
    let a := s.fpOperand r.fmt rs1
    let b := s.fpOperand r.fmt rs2
    let x := fpCompare r.signalsQuiet r.fmt s.fpEnv a b
    s.fpopAccepted (r.instr rs1 rs2) (r.fmt.misaligned rs1 || r.fmt.misaligned rs2) →
    s.unfinished (r.instr rs1 rs2).mnemonic a b x.texc.bits = false →
    (x.texc.bits &&& s.fsr.tem = 0#5 → exec (r.instr rs1 rs2) s =
      .next { s with fsr := { completedFsr s.fsr x.texc.bits with fcc := x.fcc }, hzFcmp := 2, pc := s.npc, npc := s.npc + 4#32 }) ∧
    (x.texc.bits &&& s.fsr.tem ≠ 0#5 → s.cfg.fpTrapsDeferred = false →
      exec (r.instr rs1 rs2) s = .next (raise .fpException
        { s with fsr := { s.fsr with cexc := if x.texc.nv then 0x10#5 else 0x01#5, ftt := 1#3 } }) ∧
      (x.texc.nv = false → s.fpEnv.ns = true)) ∧
    (x.fcc = 3#2 ↔ (unpack r.fmt a).isNan = true ∨ (unpack r.fmt b).isNan = true) ∧
    (x.texc.nv = true ↔ isSignaling r.fmt (unpack r.fmt a) = true ∨ isSignaling r.fmt (unpack r.fmt b) = true ∨
      r.signalsQuiet = true ∧ ((unpack r.fmt a).isNan = true ∨ (unpack r.fmt b).isNan = true))

/-- Which relation a compare delivers (R101, R592): 3, unordered, when an operand is a NaN; else 0 exactly when the values are equal
(zeros of either sign are), 1 when the first is less, 2 when it is greater. Outside nonstandard mode; `scaledValue` is the exact
value. That zeros of either sign are equal, and that the infinities come before and after every number, is what R592 marks as general
knowledge (log 22, PRESUMED). -/
def Obligations.CompareRelation : Prop :=
  ∀ (e : Bool) (t : Fmt) (env : FpEnv) (a b : Nat), env.ns = false →
    let nan (x : Nat) : Prop := x / 2 ^ t.fracBits % 2 ^ t.expBits = 2 ^ t.expBits - 1 ∧ x % 2 ^ t.fracBits ≠ 0
    let fcc := (fpCompare e t env a b).fcc
    (nan a ∨ nan b → fcc = 3#2) ∧
    (¬ nan a → ¬ nan b →
      (fcc = 0#2 ↔ scaledValue t a = scaledValue t b) ∧ (fcc = 1#2 ↔ scaledValue t a < scaledValue t b) ∧
      (fcc = 2#2 ↔ scaledValue t b < scaledValue t a))

/-- An FPop that is unassigned, or that the implementation lacks, one whose register field is misaligned where that traps, and one the FPU
does not finish, takes fp_exception with the ftt of R93 and changes nothing else, where traps are not deferred (R552, R553, R556, R557,
R613). -/
def Obligations.RejectedFloatingPointOperations : Prop :=
  ∀ s : State, s.fpEnabled = true → s.cfg.fpTrapsDeferred = false →
    let trap (i : Instr) (ftt : BitVec 3) : Prop :=
      exec i s = .next (raise .fpException { s with fsr := { s.fsr with ftt := ftt } })
    (∀ rd rs1 opf rs2, trap (.fpop1Unassigned rd rs1 opf rs2) 3#3 ∧ trap (.fpop2Unassigned rd rs1 opf rs2) 3#3) ∧
    (∀ i misaligned a b texc, FpopAt s i misaligned a b texc →
      (s.cfg.unimplSet.contains i.mnemonic = true → trap i 3#3) ∧
      (s.cfg.unimplSet.contains i.mnemonic = false → s.cfg.fpMisalignedRegTraps = true → misaligned = true → trap i 6#3) ∧
      (s.fpopAccepted i misaligned → s.unfinished i.mnemonic a b texc = true → trap i 2#3)) ∧
    ∀ rd rs2, ∀ i ∈ [Instr.fmovs rd rs2, .fnegs rd rs2, .fabss rd rs2],
      s.cfg.unimplSet.contains i.mnemonic = true → trap i 3#3

/-- Deferred floating-point exceptions (R107, R553 steps 2 and 8). In fp_execute an FPop that traps changes only the FSR (ftt; cexc too
for an IEEE exception) and is remembered, its address and word, the FPU going to fp_exception_pending. There the next floating-point
instruction takes fp_exception, the FPop remembered entering the queue if there is room (log 12), and the FPU goes to fp_exception. There
an FPop, an FBfcc or a floating-point load is a sequence_error, the FPU going back to fp_exception_pending with nothing to enter in
the queue, and leaves the trap to the next floating-point instruction; where `fpSequenceErrorAtOnce` chooses the other reading (R323, R477,
R695; log 12), the FBfcc or load takes that trap itself. (An LDDF of an odd register that traps is in FloatingPointLoads.) -/
def Obligations.DeferredFloatingPointExceptions : Prop :=
  ∀ s : State, s.fpEnabled = true → s.cfg.fpTrapsDeferred = true →
    (s.fpuMode = .execute →
      let pended (ftt : BitVec 3) (cexc : BitVec 5) : State :=
        { s with
          fsr := { s.fsr with ftt := ftt, cexc := cexc }, fpuMode := .exceptionPending, pendingFp := some (s.pc ++ s.ir)
          pc := s.npc, npc := s.npc + 4#32 }
      let pends (i : Instr) (ftt : BitVec 3) (cexc : BitVec 5) : Prop := exec i s = .next (pended ftt cexc)
      (∀ rd rs1 opf rs2, pends (.fpop1Unassigned rd rs1 opf rs2) 3#3 s.fsr.cexc ∧
        pends (.fpop2Unassigned rd rs1 opf rs2) 3#3 s.fsr.cexc) ∧
      (∀ rd rs2, ∀ i ∈ [Instr.fmovs rd rs2, .fnegs rd rs2, .fabss rd rs2],
        s.cfg.unimplSet.contains i.mnemonic = true → pends i 3#3 s.fsr.cexc) ∧
      ∀ i misaligned a b texc, FpopAt s i misaligned a b texc →
        (s.cfg.unimplSet.contains i.mnemonic = true → pends i 3#3 s.fsr.cexc) ∧
        (s.cfg.unimplSet.contains i.mnemonic = false →
          (s.cfg.fpMisalignedRegTraps && misaligned) = true → pends i 6#3 s.fsr.cexc) ∧
        (s.fpopAccepted i misaligned →
          ∃ t, exec i s = .next (if s.unfinished i.mnemonic a b texc = true then pended 2#3 s.fsr.cexc else t)) ∧
        (s.fpopAccepted i misaligned → s.unfinished i.mnemonic a b texc = false → texc &&& s.fsr.tem ≠ 0#5 →
          ∃ x : BitVec 5, x ∈ [0x10#5, 0x08#5, 0x04#5, 0x02#5, 0x01#5] ∧ x &&& (texc &&& s.fsr.tem) = x ∧
            (∀ y : BitVec 5, y &&& (texc &&& s.fsr.tem) = y → y.toNat < 2 * x.toNat) ∧ pends i 1#3 x)) ∧
    (s.fpuMode = .exceptionPending →
      let queue : List (BitVec 64) :=
        if s.cfg.hasFq = true ∧ s.fq.length < s.cfg.fqDepth then s.fq ++ s.pendingFp.toList else s.fq
      ∀ i, ResumesFpu s i → exec i s =
        .next (raise .fpException { s with fq := queue, fpuMode := .exception, pendingFp := none })) ∧
    (s.fpuMode = .exception →
      (∀ i, IsFpop i → exec i s = .next { s with
        fsr := { s.fsr with ftt := 4#3 }, fpuMode := .exceptionPending, pendingFp := none, pc := s.npc, npc := s.npc + 4#32 }) ∧
      ∀ i, LoadsOrBranchesFpu s i →
        (s.cfg.fpSequenceErrorAtOnce = false → exec i s = .next { s with
          fsr := { s.fsr with ftt := 4#3 }, fpuMode := .exceptionPending, pendingFp := none, pc := s.npc, npc := s.npc + 4#32 }) ∧
        (s.cfg.fpSequenceErrorAtOnce = true → exec i s =
          .next (raise .fpException { s with fsr := { s.fsr with ftt := 4#3 }, fpuMode := .exception, pendingFp := none })))

/-- What the arithmetic of the FPops computes on finite operands (R554, R560 to R571, R575 to R591, R609, R610): the exact value, rounded
once in the direction of the environment. `rounded` says what a result for the exact value `x` is: overflow where the rounded magnitude
would exceed the largest finite number, with the value R554 gives for the direction; else the rounded number, inexact where it is not `x`,
underflow where `x` is below the least normal number and either inexact or underflow traps. A conversion to a wider format, FsMULd and
FdMULq, and an integer in double or quad, are exact. Signs: the exclusive or for a product and a quotient; an exact zero sum is +0, or -0
when rounding downwards, but keeps the sign of two zeros of one sign; the root and the conversion of a zero keep its sign. Outside
nonstandard mode. The values of an overflow and the signs of zeros are passages that R554 and R575 mark as general knowledge (log 22). -/
def Obligations.FloatingPointRounding : Prop :=
  ∀ env : FpEnv, env.ns = false →
    let sign (t : Fmt) (bits : Nat) : Bool := bits.testBit (t.width - 1)
    (∀ (t : Fmt) (a b : Nat), t.finite a → t.finite b →
      let x : ℚ := t.value a
      let y : ℚ := t.value b
      let zeroSum (s1 s2 : Bool) : Nat := if (if s1 = s2 then s1 else env.rd == 3#2) then 2 ^ (t.width - 1) else 0
      RoundedFrom t env (x + y) (fpAdd t env a b) ∧ RoundedFrom t env (x - y) (fpSub t env a b) ∧
      (x + y = 0 → (fpAdd t env a b).bits = if x = 0 then zeroSum (sign t a) (sign t b) else zeroSum true false) ∧
      (x - y = 0 → (fpSub t env a b).bits = if x = 0 then zeroSum (sign t a) (!sign t b) else zeroSum true false) ∧
      (y ≠ 0 → RoundedFrom t env (x / y) (fpDiv t env a b) ∧ sign t (fpDiv t env a b).bits = (sign t a ^^ sign t b)) ∧
      (∀ z : ℝ, 0 ≤ z → z * z = x → (x = 0 → (fpSqrt t env a).bits = a) ∧ RoundedFrom t env z (fpSqrt t env a)) ∧
      ∀ dst : Fmt,
        RoundedFrom dst env (x * y) (fpMul t dst env a b) ∧ sign dst (fpMul t dst env a b).bits = (sign t a ^^ sign t b) ∧
        RoundedFrom dst env x (fpConvert t dst env a) ∧ sign dst (fpConvert t dst env a).bits = sign t a ∧
        (t.fracBits < dst.fracBits →
          ExactResult dst (x * y) (fpMul t dst env a b) ∧ ExactResult dst x (fpConvert t dst env a))) ∧
    ∀ w : Word,
      RoundedFrom .single env w.toInt (fpFromInt .single env w) ∧ ExactResult .double w.toInt (fpFromInt .double env w) ∧
      ExactResult .quad w.toInt (fpFromInt .quad env w) ∧ (w = 0#32 → ∀ t, (fpFromInt t env w).bits = 0)

/-- Results that are not rounded (R104, R554, R563, R575, R604 to R608, R611). Invalid operations on numbers: infinity minus infinity, 0 times
infinity, 0 / 0, infinity / infinity and the root of a negative number or infinity give the quiet NaN with sign 0 and all other bits 1 and
raise invalid alone; a finite nonzero number divided by 0 gives an infinity of the product of the signs and raises division-by-zero alone.
Other arithmetic on infinities is exact. A NaN operand: the result is that NaN made quiet and fitted to the result's format; of two, rs2's,
unless rs1's alone is signaling; invalid is raised for a signaling NaN, and nothing else. A conversion to integer truncates, inexact where the
operand is no integer; of a NaN, an infinity or a value out of range it gives the greatest or least integer, by the sign, and raises invalid
alone. Outside nonstandard mode. Arithmetic on infinities, which operations on infinities and zeros are invalid, and the sign of a quotient
are passages that R554, R575 and R589 mark as general knowledge (log 22, PRESUMED); for FsMULd and FdMULq the NaN of 0 times infinity, and
the sign that a transformed NaN keeps, are choices of log 22 and of the spec's decision D35. -/
def Obligations.FloatingPointSpecialResults : Prop :=
  (∀ (t : Fmt) (env : FpEnv) (a b : Nat), env.ns = false →
    let nan : FpResult := ⟨2 ^ (t.width - 1) - 1, { nv := true }⟩
    (∀ x y, unpack t a = .zero x → unpack t b = .zero y → fpDiv t env a b = nan) ∧
    (∀ x y, unpack t a = .inf x → unpack t b = .inf y → fpDiv t env a b = nan) ∧
    (∀ m e, unpack t a = .num true m e → fpSqrt t env a = nan) ∧
    ∀ x m e y, unpack t a = .num x m e → unpack t b = .zero y →
      fpDiv t env a b =
        ⟨(if x = y then 0 else 2 ^ (t.width - 1)) + (2 ^ t.expBits - 1) * 2 ^ t.fracBits, { dz := true }⟩) ∧
  (∀ (t dst : Fmt) (env : FpEnv) (a b : Nat), env.ns = false →
    let nan (t : Fmt) : FpResult := ⟨2 ^ (t.width - 1) - 1, { nv := true }⟩
    let signed (t : Fmt) (sign : Bool) (magnitude : Nat) : FpResult := ⟨(if sign then 2 ^ (t.width - 1) else 0) + magnitude, {}⟩
    let inf (t : Fmt) (sign : Bool) : FpResult := signed t sign t.infinity
    ∀ x, unpack t a = .inf x →
      (fpSqrt t env a = if x then nan t else inf t false) ∧ fpConvert t dst env a = inf dst x ∧
      (∀ y, unpack t b = .zero y → fpMul t dst env a b = nan dst ∧ fpMul t dst env b a = nan dst) ∧
      (∀ y, unpack t b = .inf y →
        fpAdd t env a b = (if x = y then inf t x else nan t) ∧ fpSub t env a b = (if x = y then nan t else inf t x) ∧
        fpMul t dst env a b = inf dst (x ^^ y)) ∧
      (t.finite b →
        let y : Bool := b.testBit (t.width - 1)
        fpAdd t env a b = inf t x ∧ fpAdd t env b a = inf t x ∧ fpSub t env a b = inf t x ∧ fpSub t env b a = inf t (!x) ∧
        fpDiv t env a b = inf t (x ^^ y) ∧ fpDiv t env b a = signed t (x ^^ y) 0 ∧
        (t.value b ≠ 0 → fpMul t dst env a b = inf dst (x ^^ y) ∧ fpMul t dst env b a = inf dst (x ^^ y)))) ∧
  (∀ (src dst : Fmt) (env : FpEnv) (a b : Nat), env.ns = false →
    let nan (x : Nat) : Prop := x / 2 ^ src.fracBits % 2 ^ src.expBits = 2 ^ src.expBits - 1 ∧ x % 2 ^ src.fracBits ≠ 0
    let signaling (x : Nat) : Prop := nan x ∧ x.testBit (src.fracBits - 1) = false
    let quieted (dst : Fmt) (r : FpResult) (x : Nat) (invalid : Prop) : Prop :=
      Quieted src dst x r.bits ∧ ((r.texc = { nv := true } ∧ invalid) ∨ (r.texc = {} ∧ ¬ invalid))
    (nan a → quieted dst (fpConvert src dst env a) a (signaling a) ∧ quieted src (fpSqrt src env a) a (signaling a)) ∧
    (nan a ∨ nan b →
      let chosen (dst : Fmt) (r : FpResult) : Prop :=
        (signaling b ∨ nan b ∧ ¬ signaling a → quieted dst r b (signaling a ∨ signaling b)) ∧
        (¬ nan b ∨ signaling a ∧ ¬ signaling b → quieted dst r a (signaling a ∨ signaling b))
      chosen src (fpAdd src env a b) ∧ chosen src (fpSub src env a b) ∧ chosen src (fpDiv src env a b) ∧
      chosen dst (fpMul src dst env a b))) ∧
  ∀ (t : Fmt) (env : FpEnv) (a : Nat), env.ns = false → a < 2 ^ t.width →
    let x : ℚ := t.value a
    let n : Int := if 0 ≤ x then ⌊x⌋ else ⌈x⌉
    let inRange : Prop := t.finite a ∧ -2147483649 < x ∧ x < 2147483648
    (inRange → fpToInt t env a = ⟨(BitVec.ofInt 32 n).toNat, { nx := decide ((n : ℚ) ≠ x) }⟩) ∧
    (¬ inRange → fpToInt t env a = ⟨if a.testBit (t.width - 1) then 0x80000000 else 0x7FFFFFFF, { nv := true }⟩)

/-! The coprocessor. -/

/-- LDC, LDDC, LDCSR, STC, STDC, STCSR, STDCQ with the coprocessor ready (R347 to R349, R366 to R369, R633): the words read go to the
coprocessor, the words it answers to memory, and nothing else changes; after STDCQ the queue advances, and without a queue it takes
cp_exception. A sequence error the coprocessor detects makes a load take cp_exception. What the coprocessor does with a word, and which
word it answers, are its own functions (log 14). That the queue advances after STDCQ, of which R369's pseudocode says nothing (DEDUCED from
STDFQ's, R365), that an odd rd of LDDC and STDC names the pair of its even register, that a load makes
no additional change of the coprocessor when it finds a sequence error, and that STCSR takes no action before its store (R368 allows
implementation-dependent ones), are the model's choices (log 14). -/
def Obligations.CoprocessorLoadsAndStores : Prop :=
  (∀ (s u v : State) (rd rs1 : RegNum) (op2 : Operand2) (w0 w1 : Word),
    s.cpAccepts → s.cfg.cpExceptionsPossible = false ∨ Config.cpSequenceError s.cp.state = false →
    let a := s.reg rs1 + s.operand2 op2
    let space : BitVec 8 := if s.psr.s then 0x0B#8 else 0x0A#8
    let loaded (t : State) (p : CpPlace) (w : Word) : State :=
      { t with cp := { t.cp with state := Config.cpLoadWord p w t.cp.state } }
    (a.toNat % 4 = 0 → s.memoryRead space false true a = (u, .ok w0) →
      u = { s with mem := u.mem, mmu := u.mmu, ibuf := u.ibuf, io := u.io, freeCtr := u.freeCtr } ∧
      exec (.ldc rd rs1 op2) s = .next { loaded u (.register rd) w0 with pc := s.npc, npc := s.npc + 4#32 } ∧
      exec (.ldcsr rs1 op2) s = .next { loaded u .status w0 with pc := s.npc, npc := s.npc + 4#32 }) ∧
    (a.toNat % 8 = 0 → s.memoryRead space false false a = (u, .ok w0) →
      (loaded u (.register (rd &&& 0x1E#5)) w0).memoryRead space false false (a + 4#32) = (v, .ok w1) →
      exec (.lddc rd rs1 op2) s =
        .next { loaded v (.register (rd ||| 1#5)) w1 with pc := s.npc, npc := s.npc + 4#32 } ∧
      v = { loaded s (.register (rd &&& 0x1E#5)) w0 with
            mem := v.mem, mmu := v.mmu, ibuf := v.ibuf, io := v.io, freeCtr := v.freeCtr })) ∧
  (∀ (s : State) (rd rs1 : RegNum) (op2 : Operand2),
    s.cpAccepts → s.cfg.cpExceptionsPossible = true →
    let a := s.reg rs1 + s.operand2 op2
    let traps (i : Instr) : Prop :=
      ∃ t, exec i s = .next (if Config.cpSequenceError s.cp.state = true then raise .cpException s else t)
    (a.toNat % 4 = 0 → traps (.ldc rd rs1 op2) ∧ traps (.ldcsr rs1 op2)) ∧
    (a.toNat % 8 = 0 → traps (.lddc rd rs1 op2))) ∧
  ∀ (s : State) (rd rs1 : RegNum) (op2 : Operand2), s.cpAccepts →
    let a := s.reg rs1 + s.operand2 op2
    let space : BitVec 8 := if s.psr.s then 0x0B#8 else 0x0A#8
    let stored (p : CpPlace) : Word := Config.cpStoreWord p s.cp.state
    let front := Config.cpQueueFront s.cp.state
    (a.toNat % 4 = 0 →
      StoresAt (.stc rd rs1 op2) s space a (bytesOfWord (stored (.register rd))) ∧
      StoresAt (.stcsr rs1 op2) s space a (bytesOfWord (stored .status))) ∧
    (a.toNat % 8 = 0 →
      StoresPairAt (.stdc rd rs1 op2) s space a (stored (.register (rd &&& 0x1E#5))) (stored (.register (rd ||| 1#5))) id) ∧
    (a.toNat % 8 = 0 → s.psr.s = true →
      (s.cfg.hasCq = true →
        StoresPairAt (.stdcq rs1 op2) s space a (front.extractLsb' 32 32) (front.extractLsb' 0 32)
          (fun t => { t with cp := { t.cp with state := Config.cpQueuePop t.cp.state } })) ∧
      (s.cfg.hasCq = false → Traps (.stdcq rs1 op2) s .cpException))

/-- CPop1 and CPop2 (R631, R632, R634) with the coprocessor ready: what they do is the coprocessor's own function (log 14), but CPop1
leaves the condition code. When it reports no exception only the coprocessor's state and the program counters change; when it does, or
the operation is not implemented, cp_exception is taken or, where it is deferred, left to the next coprocessor instruction, which then
takes it (a load or store where its address is aligned). That an operation not implemented leaves the coprocessor's state, and that the
exception is outstanding no more once its trap is raised, are the model's choices (log 14). -/
def Obligations.CoprocessorOperations : Prop :=
  (∀ (s : State) (rd rs1 rs2 : RegNum) (opc : BitVec 9), s.cpAccepts →
    let done (i : Instr) (after : CpState) (exception : Bool) : Prop :=
      (s.cfg.unimplSet.contains i.mnemonic = false → s.cfg.cpExceptionsPossible = false →
        exec i s = .next { s with cp := { s.cp with state := after }, pc := s.npc, npc := s.npc + 4#32 }) ∧
      (s.cfg.unimplSet.contains i.mnemonic = false → s.cfg.cpExceptionsPossible = true →
        exec i s =
          .next (if exception = false then { s with cp := { s.cp with state := after }, pc := s.npc, npc := s.npc + 4#32 }
            else if s.cfg.cpTrapsDeferred then
              { s with cp := { state := after, exceptionPending := true }, pc := s.npc, npc := s.npc + 4#32 }
            else raise .cpException { s with cp := { s.cp with state := after } })) ∧
      (s.cfg.unimplSet.contains i.mnemonic = true → s.cfg.cpTrapsDeferred = false → Traps i s .cpException) ∧
      (s.cfg.unimplSet.contains i.mnemonic = true → s.cfg.cpTrapsDeferred = true →
        exec i s = .next { s with cp := { s.cp with exceptionPending := true }, pc := s.npc, npc := s.npc + 4#32 })
    let r1 := Config.cpOperate 1 rd rs1 opc rs2 s.cp.state
    let r2 := Config.cpOperate 2 rd rs1 opc rs2 s.cp.state
    done (.cpop1 rd rs1 opc rs2) { r1.1 with cc := s.cp.state.cc } r1.2 ∧ done (.cpop2 rd rs1 opc rs2) r2.1 r2.2) ∧
  ∀ s : State, s.cpEnabled = true → s.cp.exceptionPending = true → s.psr.et = true →
    let takes (i : Instr) : Prop :=
      exec i s = .next (raise .cpException { s with cp := { s.cp with exceptionPending := false } })
    (∀ rd rs1 opc rs2, takes (.cpop1 rd rs1 opc rs2) ∧ takes (.cpop2 rd rs1 opc rs2)) ∧
    (∀ r ∈ cccRows, ∀ a d, takes (r.branch a d)) ∧
    ∀ rd rs1 op2,
      let a := s.reg rs1 + s.operand2 op2
      (a.toNat % 4 = 0 → takes (.ldc rd rs1 op2) ∧ takes (.ldcsr rs1 op2) ∧ takes (.stc rd rs1 op2) ∧ takes (.stcsr rs1 op2)) ∧
      (a.toNat % 8 = 0 → takes (.lddc rd rs1 op2) ∧ takes (.stdc rd rs1 op2) ∧ (s.psr.s = true → takes (.stdcq rs1 op2)))

/-! The Reference MMU. -/

/-- What each ACC grants (R210): user read, write, execute; supervisor read, write, execute. -/
def Sys2Proof.Machine.accGrants : List (List Bool) :=
  [[true, false, false, true, false, false], [true, true, false, true, true, false], [true, false, true, true, false, true],
   [true, true, true, true, true, true], [false, false, true, false, false, true], [true, false, false, true, true, false],
   [false, false, false, true, false, true], [false, false, false, true, true, true]]

/-- The permission table agrees with what each ACC grants: an access of type AT (R237: 0, 1 load data, 2, 3 fetch or load from
instruction space, 4, 5 store data, 6, 7 store to instruction space; odd is supervisor) faults exactly when ACC does not grant it (a load
from instruction space needs execute permission, a store to it write and execute permission) (R210, R214). -/
def Obligations.PermissionTableGrants : Prop :=
  ∀ accType acc : BitVec 3,
    let grant (n : Nat) : Bool := ((accGrants.getD acc.toNat []).getD (n + (if accType.getLsbD 0 then 3 else 0)) false)
    (permissionFault accType acc = 0#3 ↔
      (accType.getLsbD 1 = false → accType.getLsbD 2 = false → grant 0 = true) ∧
      (accType.getLsbD 1 = true → grant 2 = true) ∧ (accType.getLsbD 2 = true → grant 1 = true))

/-- A translation (R211, R214, R215): when the walk ends in a page table entry that grants the access, and the memory map accepts the
access and, where the entry's R bit (M bit on a store) has still to be set, a write of the entry, the access goes to the page's address
with the low bits of the virtual address's word, in memory or at a device interface; the entry's R bit becomes 1, its M bit on a store
too, and no other byte of memory, and nothing else of the state, changes (an instruction buffer may keep the old entry, log 17). An entry
whose bits are set already is not written, and need not be writable: nothing at all changes then. -/
def Obligations.TranslationOfMappedPage : Prop :=
  ∀ (s : State) (asi : BitVec 8) (fetch store : Bool) (va e : Word) (address level : Nat),
    s.cfg.hasRefMmu = true → s.mmu.e = true → asi ∈ [0x08#8, 0x09#8, 0x0A#8, 0x0B#8] → Memory.wf s.mem = true →
    s.walk s.rootAddress 0 (tableIndexes va) = .pte address e level →
    permissionFault (accessType asi store) (e.extractLsb' 2 3) = 0#3 →
    let offset := (va.toNat - va.toNat % 4) % 2 ^ (if level = 0 then 32 else if level = 1 then 24 else if level = 2 then 18 else 12)
    let pa := (e.toNat / 256 * 4096) ||| offset
    let marked := e ||| 0x20#32 ||| (if store then 0x40#32 else 0#32)
    s.busOutcome store pa ∈ [.ok, .device] → marked = e ∨ s.busOutcome true address = .ok →
    ∃ u, s.reach asi fetch store va = (u, if s.busOutcome store pa = .device then .device pa else .key pa) ∧
      u = { s with mem := u.mem, ibuf := u.ibuf } ∧ (marked = e → u = s) ∧
      u.ibuf = (if s.cfg.hasIbuf = true ∧ marked ≠ e then s.ibuf ++ [.store address e] else s.ibuf) ∧
      (∀ k, k < address ∨ address + 4 ≤ k → Memory.read u.mem k = Memory.read s.mem k) ∧
      Memory.readWord u.mem address = marked

/-- The MMU's registers by LDA and STA of ASI 4 (R230 to R237): word accesses by supervisor software; the Context Table Pointer and the
control bits are stored and read back, the fault registers ignore writes, and reading the fault status clears it. A store to ASI 3, a
flush, changes nothing else (there is no page descriptor cache, R213). -/
def Obligations.MmuRegisterAccess : Prop :=
  ∀ (s : State) (rd rs1 rs2 : RegNum), s.cfg.hasRefMmu = true → s.psr.s = true →
    let a := s.reg rs1 + s.reg rs2
    let v := s.reg rd
    a.toNat % 4 = 0 →
    let stored (m : Mmu) : Prop :=
      exec (.sta rd rs1 (.reg 0x04#8 rs2)) s =
        .next { s with mmu := m, lastWriteSync := s.storeBarrierPending || !s.psoMode, storeBarrierPending := false,
                       pc := s.npc, npc := s.npc + 4#32 }
    let loaded (w : Word) : Prop := Delivers (.lda rd rs1 (.reg 0x04#8 rs2)) s rd w
    (a.toNat / 256 = 0 →
      stored { s.mmu with
        sc := v.extractLsb' 8 16 &&& s.cfg.mmuScBits, pso := v.getLsbD 7, nf := v.getLsbD 1, e := v.getLsbD 0 } ∧
      loaded (s.cfg.mmuImpl ++ s.cfg.mmuVer ++ (s.mmu.sc &&& s.cfg.mmuScBits) ++ BitVec.ofBool s.mmu.pso ++ 0#5 ++
        BitVec.ofBool s.mmu.nf ++ BitVec.ofBool s.mmu.e)) ∧
    (a.toNat / 256 = 1 → stored { s.mmu with ctp := v.extractLsb' 2 30 } ∧ loaded (s.mmu.ctp ++ 0#2)) ∧
    (a.toNat / 256 = 2 → ∃ m : Word, (∀ n, m.getLsbD n = decide (n < s.cfg.mmuContextBits.val)) ∧
      stored { s.mmu with ctx := v &&& m } ∧ loaded (s.mmu.ctx &&& m)) ∧
    (a.toNat / 256 = 3 → stored s.mmu ∧
      Completes (.lda rd rs1 (.reg 0x04#8 rs2)) s fun t =>
        WritesReg s t s.psr.cwp rd
          (0#14 ++ (s.mmu.ebe &&& s.cfg.mmuEbeBits) ++ s.mmu.l ++ s.mmu.accType ++
            (s.mmu.ft ++ BitVec.ofBool s.mmu.fav ++ BitVec.ofBool s.mmu.ow)) ∧
        t = { s with globals := t.globals, windows := t.windows, pc := s.npc, npc := s.npc + 4#32,
                     mmu := { s.mmu with ebe := 0#8, l := 0#2, accType := 0#3, ft := 0#3, fav := false, ow := false,
                                         cls := none } }) ∧
    (a.toNat / 256 = 4 → stored s.mmu ∧ loaded s.mmu.far) ∧
    exec (.sta rd rs1 (.reg 0x03#8 rs2)) s =
      .next { s with lastWriteSync := s.storeBarrierPending || !s.psoMode, storeBarrierPending := false,
                     pc := s.npc, npc := s.npc + 4#32 }

/-- The table walk (R205, R207, R212) in terms of `Descends` (Safety.lean), which says where the tables' entries stand: the walk follows PTDs
from the root pointer down; a PTE, at whatever level, ends it; so does an entry of another type that is no PTD to follow, and an
entry whose address the memory map does not accept. The probes (R244, R245), by loads of ASI 3: types 0 to 3 answer the entry at
level 3 to 0, 0 for a reserved one and for a PTD at level 3; above that level an entry that is no PTD answers 0 and is recorded, as is an entry
whose address the map does not accept (a translation error); type 4 walks as a translation does, and answers the PTE; the other types
answer 0. No probe signals an exception. The model's choices among these (log 20, DESIGN CHOICE): a probe works, and records its faults,
whatever Control.E is; a table word in a device region counts as one whose address the map does not accept (FT 4); a reserved entry, and a
PTD at level 3, at the probed level itself are not recorded; types 5 to 0xF answer 0, where R245 and R246 leave the value undefined (U33);
a type 4 probe sets no R bit, which R246 allows it to; and of what a probe puts in the fault registers, the access type, the FT for an
entry that is a PTE, and the whole address, type bits included, as the fault address. -/
def Obligations.MmuTableWalkAndProbes : Prop :=
  ∀ (s : State) (va : Word), s.cfg.hasRefMmu = true →
    let probes (u : State) (w : Word) : Prop := ∀ fetch isWord, s.memoryRead 0x03#8 fetch isWord va = (u, .ok w)
    let fails (c : FaultClass) (level : Nat) (p : FaultInfo → Prop) : Prop :=
      ∃ i, probes { s with mmu := s.mmu.record c i, freeCtr := s.freeCtr + 1 } 0#32 ∧
        i.l = BitVec.ofNat 2 level ∧ i.va = va ∧ p i
    let type := va.toNat / 256 % 16
    (∀ level address, s.Descends va level address →
      let target := 3 - type
      let e := Memory.readWord s.mem address
      let w := s.walk s.rootAddress 0 (tableIndexes va)
      (s.busOutcome false address ≠ .ok →
        w = .busError level ∧
        (type = 4 ∨ type < 4 ∧ level ≤ target → fails .translation level (fun i => i.ft = 4#3))) ∧
      (s.busOutcome false address = .ok →
        (e.toNat % 4 = 2 →
          w = .pte address e level ∧ (type = 4 → probes s e) ∧
          (type < 4 → level < target → fails .data level (fun _ => True))) ∧
        (e.toNat % 4 = 0 ∨ e.toNat % 4 = 3 ∨ level = 3 ∧ e.toNat % 4 = 1 →
          w = .stopped e level ∧
          (type = 4 ∨ type < 4 ∧ level < target →
            fails .data level (fun i => i.ft = if e.toNat % 4 = 0 then 1#3 else 4#3))) ∧
        (type < 4 → level = target → probes s (if e.toNat % 4 = 3 ∨ level = 3 ∧ e.toNat % 4 = 1 then 0#32 else e)))) ∧
    (4 < type → probes s 0#32)

/-- Faults of a translated access (R214, R218, R233, R237 to R239). An entry that is invalid (FT 1), reserved or a misplaced PTD (4), a page
that does not grant the access (2 or 3, the permission table's), an error on a table word (4) and an external bus error at the physical
address (5): each is recorded with its level, access type and virtual address, changes nothing else but the free-value counter, and ends the
access, signalled as MAE or, FT 5, as an access error, unless NF suppresses it (never for ASI 9): a read then answers 0 and a
write writes nothing. Where the page grants the access, an R or M bit that has to be set in its entry but that the map does not let be
written ends it with FT 4; another error at the physical address is passed on and recorded nowhere. What is recorded: a fault of the class
of the one held sets OW; instruction faults do not displace data faults, and only a translation fault displaces a translation fault.
Pass-through accesses record external bus errors too. The model's choices among these (log 20, DESIGN CHOICE): the L of an FT 5 of a
translated access is the level of the page table entry used, which caused no fault itself (R237 defines L by the entry that did); L and AT
of a pass-through access's FT 5, and EBE's bits, are free; an MAE at the physical address is no external bus error; the fault of an R or M
update; a table word in a device region is an error on it; and the 0 that a suppressed fetch answers (R233 and U32 speak of loads
and stores). -/
def Obligations.MmuFaultRecording : Prop :=
  (∀ (m : Mmu) (c : FaultClass) (i : FaultInfo),
    let rank (c : FaultClass) : Nat := match c with | .instruction => 0 | .data => 1 | .translation => 2
    m.record c i =
      if (∃ held, m.cls = some held ∧ rank c < rank held) then m
      else { m with ebe := i.ebe, l := i.l, accType := i.accType, ft := i.ft, far := i.va, fav := true,
                    ow := decide (m.cls = some c), cls := some c }) ∧
  (∀ (s : State) (asi : BitVec 8) (fetch store : Bool) (va : Word),
    s.cfg.hasRefMmu = true → s.mmu.e = true → asi ∈ [0x08#8, 0x09#8, 0x0A#8, 0x0B#8] →
    let c : FaultClass := if fetch = true ∧ (asi = 0x08#8 ∨ asi = 0x09#8) then .instruction else .data
    let at_ : BitVec 3 := BitVec.ofNat 3 ((if store then 4 else 0) + (if asi = 0x08#8 ∨ asi = 0x09#8 then 2 else 0) +
      (if asi = 0x09#8 ∨ asi = 0x0B#8 then 1 else 0))
    let faults (c : FaultClass) (ebe : BitVec 8) (level : Nat) (ft : BitVec 3) (n : Nat) : Prop :=
      s.reach asi fetch store va =
        ({ s with mmu := s.mmu.record c ⟨ebe, BitVec.ofNat 2 level, at_, ft, va⟩, freeCtr := n },
         if s.mmu.nf = true ∧ asi ≠ 0x09#8 then .suppressed else if ft = 5#3 then .failed .accessError else .failed .mae)
    let busError (c : FaultClass) (level : Nat) (ft : BitVec 3) : Prop :=
      ∃ ebe, ebe &&& s.cfg.mmuEbeBits = ebe ∧ faults c ebe level ft (s.freeCtr + 1)
    let w := s.walk s.rootAddress 0 (tableIndexes va)
    (∀ e level, w = .stopped e level → faults c 0#8 level (if e.toNat % 4 = 0 then 1#3 else 4#3) s.freeCtr) ∧
    (∀ level, w = .busError level → busError .translation level 4#3) ∧
    ∀ address e level, w = .pte address e level →
      let ft := permissionFault at_ (e.extractLsb' 2 3)
      let offset := (va.toNat - va.toNat % 4) % 2 ^ (if level = 0 then 32 else if level = 1 then 24 else if level = 2 then 18 else 12)
      let answer := s.busOutcome store ((e.toNat / 256 * 4096) ||| offset)
      (ft ≠ 0#3 → faults c 0#8 level ft s.freeCtr) ∧
      (ft = 0#3 →
        (answer = .accessError → busError c level 5#3) ∧
        (answer = .mae → s.reach asi fetch store va = (s, .failed .mae)) ∧
        (answer = .mmuMiss → s.reach asi fetch store va = (s, .failed .mmuMiss)) ∧
        (answer = .ok ∨ answer = .device →
          e.getLsbD 5 = false ∨ store = true ∧ e.getLsbD 6 = false → s.busOutcome true address ≠ .ok →
            busError .translation level 4#3))) ∧
  (∀ (s t : State) (asi : BitVec 8) (fetch isWord : Bool) (va : Word), ¬ s.mmuSpace asi →
    s.reach asi fetch false va = (t, .suppressed) → s.memoryRead asi fetch isWord va = (t, .ok 0#32)) ∧
  (∀ (s t : State) (asi : BitVec 8) (isWord : Bool) (va data : Word) (mask : BitVec 4), ¬ s.mmuSpace asi →
    s.reach asi false true va = (t, .suppressed) →
    s.memoryWrite asi isWord va mask data = (storeSignals s t t.ibuf t.mem, none)) ∧
  ∀ (s : State) (asi : BitVec 8) (fetch store : Bool) (va : Word),
    s.cfg.hasRefMmu = true → s.mmu.e = true → asi.toNat / 16 = 2 →
    s.busOutcome store (asi.toNat % 16 * 2 ^ 32 + (va.toNat - va.toNat % 4)) = .accessError →
    ∃ i : FaultInfo, i.ft = 5#3 ∧ i.va = va ∧ i.ebe &&& s.cfg.mmuEbeBits = i.ebe ∧
      s.reach asi fetch store va =
        ({ s with mmu := s.mmu.record .data i, freeCtr := s.freeCtr + 1 },
         if s.mmu.nf = true then .suppressed else .failed .accessError)
end

