-- ==== Sys2Proof/Laws/Memory.lean ====
section
/-! SUPPORT. Memory: a read after a write, and every operation keeps the canonical form. -/

namespace Sys2Proof.Machine

theorem Memory.read_nil (a : Nat) : Memory.read [] a = Memory.unlisted := rfl

/-- Every listed key of a canonical memory is above the first. -/
theorem Memory.wf_cons {k : Nat} {b : Byte} {m : Memory} :
    Memory.wf ((k, b) :: m) = true ↔ b ≠ Memory.unlisted ∧ (∀ c ∈ m, k < c.1) ∧ Memory.wf m = true := by
  induction m generalizing k b with
  | nil => simp [Memory.wf]
  | cons c m ih =>
    obtain ⟨k', b'⟩ := c
    have h := @ih k' b'
    simp only [Memory.wf, Bool.and_eq_true, decide_eq_true_eq, bne_iff_ne, List.mem_cons, forall_eq_or_imp] at *
    constructor
    · rintro ⟨⟨hb, hk⟩, hw⟩
      exact ⟨hb, ⟨hk, fun c hc => Nat.lt_trans hk ((h.1 hw).2.1 c hc)⟩, hw⟩
    · rintro ⟨hb, ⟨hk, -⟩, hw⟩
      exact ⟨⟨hb, hk⟩, hw⟩

/-- A key below every listed one reads as unlisted. -/
theorem Memory.read_below {m : Memory} {a : Nat} (h : ∀ c ∈ m, a < c.1) : Memory.read m a = Memory.unlisted := by
  induction m with
  | nil => rfl
  | cons c m ih =>
    obtain ⟨k, b⟩ := c
    have hk : a < k := h (k, b) (List.mem_cons_self ..)
    rw [Memory.read, if_neg (by omega)]
    exact ih fun c hc => h c (List.mem_cons_of_mem _ hc)

/-- What stands in a memory after a write stood in it before, or is the cell written. -/
theorem Memory.mem_write {m : Memory} {a : Nat} {b : Byte} {c : Host.Cell} (h : c ∈ Memory.write m a b) :
    c = (a, b) ∨ c ∈ m := by
  induction m with
  | nil =>
    simp only [Memory.write] at h
    split at h <;> simp_all
  | cons d m ih =>
    obtain ⟨k, e⟩ := d
    simp only [Memory.write] at h
    split at h
    · split at h
      · exact .inr h
      · simpa using h
    · split at h
      · split at h
        · exact .inr (List.mem_cons_of_mem _ h)
        · rcases List.mem_cons.1 h with h | h
          · exact .inl h
          · exact .inr (List.mem_cons_of_mem _ h)
      · rcases List.mem_cons.1 h with h | h
        · exact .inr (h ▸ List.mem_cons_self ..)
        · exact (ih h).imp_right (List.mem_cons_of_mem _)

/-- A write keeps the canonical form. -/
theorem Memory.wf_write {m : Memory} (h : Memory.wf m = true) (a : Nat) (b : Byte) :
    Memory.wf (Memory.write m a b) = true := by
  induction m with
  | nil =>
    simp only [Memory.write]
    split
    · rfl
    · exact Memory.wf_cons.2 ⟨‹_›, by simp, rfl⟩
  | cons d m ih =>
    obtain ⟨k, e⟩ := d
    obtain ⟨he, hk, hw⟩ := Memory.wf_cons.1 h
    simp only [Memory.write]
    split
    · rename_i hlt
      split
      · exact h
      · refine Memory.wf_cons.2 ⟨‹_›, fun c hc => ?_, h⟩
        rcases List.mem_cons.1 hc with rfl | hc
        · exact hlt
        · exact Nat.lt_trans hlt (hk c hc)
    · split
      · rename_i heq
        subst heq
        split
        · exact hw
        · exact Memory.wf_cons.2 ⟨‹_›, hk, hw⟩
      · refine Memory.wf_cons.2 ⟨he, fun c hc => ?_, ih hw⟩
        rcases Memory.mem_write hc with rfl | hc
        · exact Nat.lt_of_le_of_ne (by omega) (by omega)
        · exact hk c hc

/-- A read after a write of the same key gives the byte written, in a canonical memory. -/
theorem Memory.read_write_same {m : Memory} (h : Memory.wf m = true) (a : Nat) (b : Byte) :
    Memory.read (Memory.write m a b) a = b := by
  induction m with
  | nil =>
    simp only [Memory.write]
    split
    · subst b; rfl
    · simp [Memory.read]
  | cons d m ih =>
    obtain ⟨k, e⟩ := d
    obtain ⟨-, hk, hw⟩ := Memory.wf_cons.1 h
    simp only [Memory.write]
    split
    · rename_i hlt
      split
      · subst b
        refine Memory.read_below fun c hc => ?_
        rcases List.mem_cons.1 hc with rfl | hc
        · exact hlt
        · exact Nat.lt_trans hlt (hk c hc)
      · simp [Memory.read]
    · split
      · rename_i heq
        subst heq
        split
        · subst b
          exact Memory.read_below hk
        · simp [Memory.read]
      · rename_i hne
        rw [Memory.read, if_neg (fun he => hne he.symm)]
        exact ih hw

/-- A write leaves every other key alone. -/
theorem Memory.read_write_ne {m : Memory} {a a' : Nat} (h : a' ≠ a) (b : Byte) :
    Memory.read (Memory.write m a b) a' = Memory.read m a' := by
  induction m with
  | nil =>
    simp only [Memory.write]
    split
    · rfl
    · simp [Memory.read, Ne.symm h]
  | cons d m ih =>
    obtain ⟨k, e⟩ := d
    simp only [Memory.write]
    split
    · split
      · rfl
      · rw [Memory.read, if_neg (fun he => h he.symm)]
    · split
      · rename_i heq
        subst heq
        have hn : ¬ a = a' := fun he => h he.symm
        split <;> simp [Memory.read, hn]
      · simp only [Memory.read, ih]

/-- What a byte of a memory is after a write. -/
theorem Memory.read_write {m : Memory} (h : Memory.wf m = true) (a a' : Nat) (b : Byte) :
    Memory.read (Memory.write m a b) a' = if a' = a then b else Memory.read m a' := by
  split
  · subst a'
    exact Memory.read_write_same h a b
  · exact Memory.read_write_ne ‹_› b

theorem Memory.wf_writeIf {m : Memory} (h : Memory.wf m = true) (e : Bool) (a : Nat) (b : Byte) :
    Memory.wf (Memory.writeIf m e a b) = true := by
  unfold Memory.writeIf
  split
  · exact Memory.wf_write h a b
  · exact h

theorem Memory.read_writeIf {m : Memory} (h : Memory.wf m = true) (e : Bool) (a a' : Nat) (b : Byte) :
    Memory.read (Memory.writeIf m e a b) a' = if a' = a ∧ e = true then b else Memory.read m a' := by
  unfold Memory.writeIf
  cases e
  · simp
  · simpa using Memory.read_write h a a' b

theorem Memory.read_writeIf_ne {m : Memory} {a a' : Nat} (h : a' ≠ a) (e : Bool) (b : Byte) :
    Memory.read (Memory.writeIf m e a b) a' = Memory.read m a' := by
  unfold Memory.writeIf
  split
  · exact Memory.read_write_ne h b
  · rfl

/-- A word write keeps the canonical form. -/
theorem Memory.wf_writeMasked {m : Memory} (h : Memory.wf m = true) (a : Nat) (mask : BitVec 4) (w : Word) :
    Memory.wf (Memory.writeMasked m a mask w) = true :=
  Memory.wf_writeIf (Memory.wf_writeIf (Memory.wf_writeIf (Memory.wf_writeIf h _ _ _) _ _ _) _ _ _) _ _ _

/-- What a byte of a memory is after a word write (R127). -/
theorem Memory.read_writeMasked {m : Memory} (h : Memory.wf m = true) (a a' : Nat) (mask : BitVec 4) (w : Word) :
    Memory.read (Memory.writeMasked m a mask w) a' =
      if a' = a + 3 ∧ mask.getLsbD 0 = true then w.extractLsb' 0 8
      else if a' = a + 2 ∧ mask.getLsbD 1 = true then w.extractLsb' 8 8
      else if a' = a + 1 ∧ mask.getLsbD 2 = true then w.extractLsb' 16 8
      else if a' = a ∧ mask.getLsbD 3 = true then w.extractLsb' 24 8
      else Memory.read m a' := by
  unfold Memory.writeMasked
  rw [Memory.read_writeIf (Memory.wf_writeIf (Memory.wf_writeIf (Memory.wf_writeIf h _ _ _) _ _ _) _ _ _),
    Memory.read_writeIf (Memory.wf_writeIf (Memory.wf_writeIf h _ _ _) _ _ _),
    Memory.read_writeIf (Memory.wf_writeIf h _ _ _), Memory.read_writeIf h]

/-- A word write changes only the four bytes at its key, canonical memory or not. -/
theorem Memory.read_writeMasked_outside (m : Memory) {a a' : Nat} (h : a' < a ∨ a + 4 ≤ a') (mask : BitVec 4) (w : Word) :
    Memory.read (Memory.writeMasked m a mask w) a' = Memory.read m a' := by
  unfold Memory.writeMasked
  rw [Memory.read_writeIf_ne (by omega), Memory.read_writeIf_ne (by omega), Memory.read_writeIf_ne (by omega),
    Memory.read_writeIf_ne (by omega)]

/-- The word of a word's own four bytes is the word. -/
theorem wordOfBytes_bytes (w : Word) :
    wordOfBytes (w.extractLsb' 24 8) (w.extractLsb' 16 8) (w.extractLsb' 8 8) (w.extractLsb' 0 8) = w := by
  refine BitVec.eq_of_getLsbD_eq fun i hi => ?_
  unfold wordOfBytes
  erw [BitVec.getLsbD_append, BitVec.getLsbD_append, BitVec.getLsbD_append]
  simp only [BitVec.getLsbD_extractLsb', Nat.sub_sub]
  by_cases h0 : i < 8
  · simp [h0]
  · by_cases h1 : i - 8 < 8
    · simp only [h0, h1, if_true, if_false, decide_true, Bool.true_and, show 8 + (i - 8) = i by omega]
    · by_cases h2 : i - (8 + 8) < 8
      · simp only [h0, h1, h2, if_true, if_false, decide_true, Bool.true_and, show 16 + (i - (8 + 8)) = i by omega]
      · have h3 : i - (8 + 8 + 8) < 8 := by omega
        simp only [h0, h1, h2, h3, if_false, decide_true, Bool.true_and, show 24 + (i - (8 + 8 + 8)) = i by omega]

/-- A word read after a full word write of the same key gives the word. -/
theorem Memory.readWord_writeMasked {m : Memory} (h : Memory.wf m = true) (a : Nat) (w : Word) :
    Memory.readWord (Memory.writeMasked m a 0xF#4 w) a = w := by
  unfold Memory.readWord
  simp only [Memory.read_writeMasked h]
  simpa using wordOfBytes_bytes w

/-- The canonical form holds at reset. -/
theorem Memory.wf_reset : Memory.wf State.reset.mem = true := rfl

end Sys2Proof.Machine
end

