-- ==== Sys2Proof/Laws/State.lean ====
section
/-! SUPPORT. One lemma per field per update of the state, so that no proof unfolds a record update. -/

namespace Sys2Proof.Machine

@[simp] theorem State.advance_cfg (s : State) : s.advance.cfg = s.cfg := rfl
@[simp] theorem State.advance_globals (s : State) : s.advance.globals = s.globals := rfl
@[simp] theorem State.advance_windows (s : State) : s.advance.windows = s.windows := rfl
@[simp] theorem State.advance_pc (s : State) : s.advance.pc = s.npc := rfl
@[simp] theorem State.advance_npc (s : State) : s.advance.npc = s.npc + 4#32 := rfl
@[simp] theorem State.advance_psr (s : State) : s.advance.psr = s.psr := rfl
@[simp] theorem State.advance_wim (s : State) : s.advance.wim = s.wim := rfl
@[simp] theorem State.advance_tba (s : State) : s.advance.tba = s.tba := rfl
@[simp] theorem State.advance_tt (s : State) : s.advance.tt = s.tt := rfl
@[simp] theorem State.advance_y (s : State) : s.advance.y = s.y := rfl
@[simp] theorem State.advance_asr (s : State) : s.advance.asr = s.asr := rfl
@[simp] theorem State.advance_pending (s : State) : s.advance.pending = s.pending := rfl
@[simp] theorem State.advance_annul (s : State) : s.advance.annul = s.annul := rfl
@[simp] theorem State.advance_mode (s : State) : s.advance.mode = s.mode := rfl
@[simp] theorem State.advance_pbError (s : State) : s.advance.pbError = s.pbError := rfl
@[simp] theorem State.advance_requests (s : State) : s.advance.requests = s.requests := rfl
@[simp] theorem State.advance_raised (s : State) : s.advance.raised = s.raised := rfl
@[simp] theorem State.advance_storeBarrierPending (s : State) : s.advance.storeBarrierPending = s.storeBarrierPending := rfl
@[simp] theorem State.advance_pbBlockByte (s : State) : s.advance.pbBlockByte = s.pbBlockByte := rfl
@[simp] theorem State.advance_pbBlockWord (s : State) : s.advance.pbBlockWord = s.pbBlockWord := rfl
@[simp] theorem State.advance_lastWriteSync (s : State) : s.advance.lastWriteSync = s.lastWriteSync := rfl
@[simp] theorem State.advance_irl (s : State) : s.advance.irl = s.irl := rfl
@[simp] theorem State.advance_resetIn (s : State) : s.advance.resetIn = s.resetIn := rfl
@[simp] theorem State.advance_rRegisterError (s : State) : s.advance.rRegisterError = s.rRegisterError := rfl
@[simp] theorem State.advance_f (s : State) : s.advance.f = s.f := rfl
@[simp] theorem State.advance_fsr (s : State) : s.advance.fsr = s.fsr := rfl
@[simp] theorem State.advance_fq (s : State) : s.advance.fq = s.fq := rfl
@[simp] theorem State.advance_fpuMode (s : State) : s.advance.fpuMode = s.fpuMode := rfl
@[simp] theorem State.advance_pendingFp (s : State) : s.advance.pendingFp = s.pendingFp := rfl
@[simp] theorem State.advance_cp (s : State) : s.advance.cp = s.cp := rfl
@[simp] theorem State.advance_mmu (s : State) : s.advance.mmu = s.mmu := rfl
@[simp] theorem State.advance_ibuf (s : State) : s.advance.ibuf = s.ibuf := rfl
@[simp] theorem State.advance_io (s : State) : s.advance.io = s.io := rfl
@[simp] theorem State.advance_ir (s : State) : s.advance.ir = s.ir := rfl
@[simp] theorem State.advance_hzFcmp (s : State) : s.advance.hzFcmp = s.hzFcmp := rfl
@[simp] theorem State.advance_hzLdfsr (s : State) : s.advance.hzLdfsr = s.hzLdfsr := rfl
@[simp] theorem State.advance_freeCtr (s : State) : s.advance.freeCtr = s.freeCtr := rfl
@[simp] theorem State.advance_mem (s : State) : s.advance.mem = s.mem := rfl

@[simp] theorem State.jump_cfg (s : State) (a : Word) : (s.jump a).cfg = s.cfg := rfl
@[simp] theorem State.jump_globals (s : State) (a : Word) : (s.jump a).globals = s.globals := rfl
@[simp] theorem State.jump_windows (s : State) (a : Word) : (s.jump a).windows = s.windows := rfl
@[simp] theorem State.jump_pc (s : State) (a : Word) : (s.jump a).pc = s.npc := rfl
@[simp] theorem State.jump_npc (s : State) (a : Word) : (s.jump a).npc = a := rfl
@[simp] theorem State.jump_psr (s : State) (a : Word) : (s.jump a).psr = s.psr := rfl
@[simp] theorem State.jump_wim (s : State) (a : Word) : (s.jump a).wim = s.wim := rfl
@[simp] theorem State.jump_tba (s : State) (a : Word) : (s.jump a).tba = s.tba := rfl
@[simp] theorem State.jump_tt (s : State) (a : Word) : (s.jump a).tt = s.tt := rfl
@[simp] theorem State.jump_y (s : State) (a : Word) : (s.jump a).y = s.y := rfl
@[simp] theorem State.jump_asr (s : State) (a : Word) : (s.jump a).asr = s.asr := rfl
@[simp] theorem State.jump_pending (s : State) (a : Word) : (s.jump a).pending = s.pending := rfl
@[simp] theorem State.jump_annul (s : State) (a : Word) : (s.jump a).annul = s.annul := rfl
@[simp] theorem State.jump_mode (s : State) (a : Word) : (s.jump a).mode = s.mode := rfl
@[simp] theorem State.jump_pbError (s : State) (a : Word) : (s.jump a).pbError = s.pbError := rfl
@[simp] theorem State.jump_requests (s : State) (a : Word) : (s.jump a).requests = s.requests := rfl
@[simp] theorem State.jump_raised (s : State) (a : Word) : (s.jump a).raised = s.raised := rfl
@[simp] theorem State.jump_storeBarrierPending (s : State) (a : Word) : (s.jump a).storeBarrierPending = s.storeBarrierPending := rfl
@[simp] theorem State.jump_pbBlockByte (s : State) (a : Word) : (s.jump a).pbBlockByte = s.pbBlockByte := rfl
@[simp] theorem State.jump_pbBlockWord (s : State) (a : Word) : (s.jump a).pbBlockWord = s.pbBlockWord := rfl
@[simp] theorem State.jump_lastWriteSync (s : State) (a : Word) : (s.jump a).lastWriteSync = s.lastWriteSync := rfl
@[simp] theorem State.jump_irl (s : State) (a : Word) : (s.jump a).irl = s.irl := rfl
@[simp] theorem State.jump_resetIn (s : State) (a : Word) : (s.jump a).resetIn = s.resetIn := rfl
@[simp] theorem State.jump_rRegisterError (s : State) (a : Word) : (s.jump a).rRegisterError = s.rRegisterError := rfl
@[simp] theorem State.jump_f (s : State) (a : Word) : (s.jump a).f = s.f := rfl
@[simp] theorem State.jump_fsr (s : State) (a : Word) : (s.jump a).fsr = s.fsr := rfl
@[simp] theorem State.jump_fq (s : State) (a : Word) : (s.jump a).fq = s.fq := rfl
@[simp] theorem State.jump_fpuMode (s : State) (a : Word) : (s.jump a).fpuMode = s.fpuMode := rfl
@[simp] theorem State.jump_pendingFp (s : State) (a : Word) : (s.jump a).pendingFp = s.pendingFp := rfl
@[simp] theorem State.jump_cp (s : State) (a : Word) : (s.jump a).cp = s.cp := rfl
@[simp] theorem State.jump_mmu (s : State) (a : Word) : (s.jump a).mmu = s.mmu := rfl
@[simp] theorem State.jump_ibuf (s : State) (a : Word) : (s.jump a).ibuf = s.ibuf := rfl
@[simp] theorem State.jump_io (s : State) (a : Word) : (s.jump a).io = s.io := rfl
@[simp] theorem State.jump_ir (s : State) (a : Word) : (s.jump a).ir = s.ir := rfl
@[simp] theorem State.jump_hzFcmp (s : State) (a : Word) : (s.jump a).hzFcmp = s.hzFcmp := rfl
@[simp] theorem State.jump_hzLdfsr (s : State) (a : Word) : (s.jump a).hzLdfsr = s.hzLdfsr := rfl
@[simp] theorem State.jump_freeCtr (s : State) (a : Word) : (s.jump a).freeCtr = s.freeCtr := rfl
@[simp] theorem State.jump_mem (s : State) (a : Word) : (s.jump a).mem = s.mem := rfl

@[simp] theorem State.setFreg_cfg (s : State) (n : RegNum) (v : Word) : (s.setFreg n v).cfg = s.cfg := rfl
@[simp] theorem State.setFreg_globals (s : State) (n : RegNum) (v : Word) : (s.setFreg n v).globals = s.globals := rfl
@[simp] theorem State.setFreg_windows (s : State) (n : RegNum) (v : Word) : (s.setFreg n v).windows = s.windows := rfl
@[simp] theorem State.setFreg_pc (s : State) (n : RegNum) (v : Word) : (s.setFreg n v).pc = s.pc := rfl
@[simp] theorem State.setFreg_npc (s : State) (n : RegNum) (v : Word) : (s.setFreg n v).npc = s.npc := rfl
@[simp] theorem State.setFreg_psr (s : State) (n : RegNum) (v : Word) : (s.setFreg n v).psr = s.psr := rfl
@[simp] theorem State.setFreg_wim (s : State) (n : RegNum) (v : Word) : (s.setFreg n v).wim = s.wim := rfl
@[simp] theorem State.setFreg_tba (s : State) (n : RegNum) (v : Word) : (s.setFreg n v).tba = s.tba := rfl
@[simp] theorem State.setFreg_tt (s : State) (n : RegNum) (v : Word) : (s.setFreg n v).tt = s.tt := rfl
@[simp] theorem State.setFreg_y (s : State) (n : RegNum) (v : Word) : (s.setFreg n v).y = s.y := rfl
@[simp] theorem State.setFreg_asr (s : State) (n : RegNum) (v : Word) : (s.setFreg n v).asr = s.asr := rfl
@[simp] theorem State.setFreg_pending (s : State) (n : RegNum) (v : Word) : (s.setFreg n v).pending = s.pending := rfl
@[simp] theorem State.setFreg_annul (s : State) (n : RegNum) (v : Word) : (s.setFreg n v).annul = s.annul := rfl
@[simp] theorem State.setFreg_mode (s : State) (n : RegNum) (v : Word) : (s.setFreg n v).mode = s.mode := rfl
@[simp] theorem State.setFreg_pbError (s : State) (n : RegNum) (v : Word) : (s.setFreg n v).pbError = s.pbError := rfl
@[simp] theorem State.setFreg_requests (s : State) (n : RegNum) (v : Word) : (s.setFreg n v).requests = s.requests := rfl
@[simp] theorem State.setFreg_raised (s : State) (n : RegNum) (v : Word) : (s.setFreg n v).raised = s.raised := rfl
@[simp] theorem State.setFreg_storeBarrierPending (s : State) (n : RegNum) (v : Word) : (s.setFreg n v).storeBarrierPending = s.storeBarrierPending := rfl
@[simp] theorem State.setFreg_pbBlockByte (s : State) (n : RegNum) (v : Word) : (s.setFreg n v).pbBlockByte = s.pbBlockByte := rfl
@[simp] theorem State.setFreg_pbBlockWord (s : State) (n : RegNum) (v : Word) : (s.setFreg n v).pbBlockWord = s.pbBlockWord := rfl
@[simp] theorem State.setFreg_lastWriteSync (s : State) (n : RegNum) (v : Word) : (s.setFreg n v).lastWriteSync = s.lastWriteSync := rfl
@[simp] theorem State.setFreg_irl (s : State) (n : RegNum) (v : Word) : (s.setFreg n v).irl = s.irl := rfl
@[simp] theorem State.setFreg_resetIn (s : State) (n : RegNum) (v : Word) : (s.setFreg n v).resetIn = s.resetIn := rfl
@[simp] theorem State.setFreg_rRegisterError (s : State) (n : RegNum) (v : Word) : (s.setFreg n v).rRegisterError = s.rRegisterError := rfl
@[simp] theorem State.setFreg_f (s : State) (n : RegNum) (v : Word) : (s.setFreg n v).f = s.f.set n.toNat v n.isLt := rfl
@[simp] theorem State.setFreg_fsr (s : State) (n : RegNum) (v : Word) : (s.setFreg n v).fsr = s.fsr := rfl
@[simp] theorem State.setFreg_fq (s : State) (n : RegNum) (v : Word) : (s.setFreg n v).fq = s.fq := rfl
@[simp] theorem State.setFreg_fpuMode (s : State) (n : RegNum) (v : Word) : (s.setFreg n v).fpuMode = s.fpuMode := rfl
@[simp] theorem State.setFreg_pendingFp (s : State) (n : RegNum) (v : Word) : (s.setFreg n v).pendingFp = s.pendingFp := rfl
@[simp] theorem State.setFreg_cp (s : State) (n : RegNum) (v : Word) : (s.setFreg n v).cp = s.cp := rfl
@[simp] theorem State.setFreg_mmu (s : State) (n : RegNum) (v : Word) : (s.setFreg n v).mmu = s.mmu := rfl
@[simp] theorem State.setFreg_ibuf (s : State) (n : RegNum) (v : Word) : (s.setFreg n v).ibuf = s.ibuf := rfl
@[simp] theorem State.setFreg_io (s : State) (n : RegNum) (v : Word) : (s.setFreg n v).io = s.io := rfl
@[simp] theorem State.setFreg_ir (s : State) (n : RegNum) (v : Word) : (s.setFreg n v).ir = s.ir := rfl
@[simp] theorem State.setFreg_hzFcmp (s : State) (n : RegNum) (v : Word) : (s.setFreg n v).hzFcmp = s.hzFcmp := rfl
@[simp] theorem State.setFreg_hzLdfsr (s : State) (n : RegNum) (v : Word) : (s.setFreg n v).hzLdfsr = s.hzLdfsr := rfl
@[simp] theorem State.setFreg_freeCtr (s : State) (n : RegNum) (v : Word) : (s.setFreg n v).freeCtr = s.freeCtr := rfl
@[simp] theorem State.setFreg_mem (s : State) (n : RegNum) (v : Word) : (s.setFreg n v).mem = s.mem := rfl

@[simp] theorem State.loadFsr_cfg (s : State) (w : Word) : (s.loadFsr w).cfg = s.cfg := rfl
@[simp] theorem State.loadFsr_globals (s : State) (w : Word) : (s.loadFsr w).globals = s.globals := rfl
@[simp] theorem State.loadFsr_windows (s : State) (w : Word) : (s.loadFsr w).windows = s.windows := rfl
@[simp] theorem State.loadFsr_pc (s : State) (w : Word) : (s.loadFsr w).pc = s.pc := rfl
@[simp] theorem State.loadFsr_npc (s : State) (w : Word) : (s.loadFsr w).npc = s.npc := rfl
@[simp] theorem State.loadFsr_psr (s : State) (w : Word) : (s.loadFsr w).psr = s.psr := rfl
@[simp] theorem State.loadFsr_wim (s : State) (w : Word) : (s.loadFsr w).wim = s.wim := rfl
@[simp] theorem State.loadFsr_tba (s : State) (w : Word) : (s.loadFsr w).tba = s.tba := rfl
@[simp] theorem State.loadFsr_tt (s : State) (w : Word) : (s.loadFsr w).tt = s.tt := rfl
@[simp] theorem State.loadFsr_y (s : State) (w : Word) : (s.loadFsr w).y = s.y := rfl
@[simp] theorem State.loadFsr_asr (s : State) (w : Word) : (s.loadFsr w).asr = s.asr := rfl
@[simp] theorem State.loadFsr_pending (s : State) (w : Word) : (s.loadFsr w).pending = s.pending := rfl
@[simp] theorem State.loadFsr_annul (s : State) (w : Word) : (s.loadFsr w).annul = s.annul := rfl
@[simp] theorem State.loadFsr_mode (s : State) (w : Word) : (s.loadFsr w).mode = s.mode := rfl
@[simp] theorem State.loadFsr_pbError (s : State) (w : Word) : (s.loadFsr w).pbError = s.pbError := rfl
@[simp] theorem State.loadFsr_requests (s : State) (w : Word) : (s.loadFsr w).requests = s.requests := rfl
@[simp] theorem State.loadFsr_raised (s : State) (w : Word) : (s.loadFsr w).raised = s.raised := rfl
@[simp] theorem State.loadFsr_storeBarrierPending (s : State) (w : Word) : (s.loadFsr w).storeBarrierPending = s.storeBarrierPending := rfl
@[simp] theorem State.loadFsr_pbBlockByte (s : State) (w : Word) : (s.loadFsr w).pbBlockByte = s.pbBlockByte := rfl
@[simp] theorem State.loadFsr_pbBlockWord (s : State) (w : Word) : (s.loadFsr w).pbBlockWord = s.pbBlockWord := rfl
@[simp] theorem State.loadFsr_lastWriteSync (s : State) (w : Word) : (s.loadFsr w).lastWriteSync = s.lastWriteSync := rfl
@[simp] theorem State.loadFsr_irl (s : State) (w : Word) : (s.loadFsr w).irl = s.irl := rfl
@[simp] theorem State.loadFsr_resetIn (s : State) (w : Word) : (s.loadFsr w).resetIn = s.resetIn := rfl
@[simp] theorem State.loadFsr_rRegisterError (s : State) (w : Word) : (s.loadFsr w).rRegisterError = s.rRegisterError := rfl
@[simp] theorem State.loadFsr_f (s : State) (w : Word) : (s.loadFsr w).f = s.f := rfl
@[simp] theorem State.loadFsr_fq (s : State) (w : Word) : (s.loadFsr w).fq = s.fq := rfl
@[simp] theorem State.loadFsr_fpuMode (s : State) (w : Word) : (s.loadFsr w).fpuMode = s.fpuMode := rfl
@[simp] theorem State.loadFsr_pendingFp (s : State) (w : Word) : (s.loadFsr w).pendingFp = s.pendingFp := rfl
@[simp] theorem State.loadFsr_cp (s : State) (w : Word) : (s.loadFsr w).cp = s.cp := rfl
@[simp] theorem State.loadFsr_mmu (s : State) (w : Word) : (s.loadFsr w).mmu = s.mmu := rfl
@[simp] theorem State.loadFsr_ibuf (s : State) (w : Word) : (s.loadFsr w).ibuf = s.ibuf := rfl
@[simp] theorem State.loadFsr_io (s : State) (w : Word) : (s.loadFsr w).io = s.io := rfl
@[simp] theorem State.loadFsr_ir (s : State) (w : Word) : (s.loadFsr w).ir = s.ir := rfl
@[simp] theorem State.loadFsr_hzFcmp (s : State) (w : Word) : (s.loadFsr w).hzFcmp = s.hzFcmp := rfl
@[simp] theorem State.loadFsr_hzLdfsr (s : State) (w : Word) : (s.loadFsr w).hzLdfsr = s.hzLdfsr := rfl
@[simp] theorem State.loadFsr_freeCtr (s : State) (w : Word) : (s.loadFsr w).freeCtr = s.freeCtr := rfl
@[simp] theorem State.loadFsr_mem (s : State) (w : Word) : (s.loadFsr w).mem = s.mem := rfl

@[simp] theorem State.enqueue_cfg (s : State) (w : StateWrite) : (s.enqueue w).cfg = s.cfg := rfl
@[simp] theorem State.enqueue_globals (s : State) (w : StateWrite) : (s.enqueue w).globals = s.globals := rfl
@[simp] theorem State.enqueue_windows (s : State) (w : StateWrite) : (s.enqueue w).windows = s.windows := rfl
@[simp] theorem State.enqueue_pc (s : State) (w : StateWrite) : (s.enqueue w).pc = s.pc := rfl
@[simp] theorem State.enqueue_npc (s : State) (w : StateWrite) : (s.enqueue w).npc = s.npc := rfl
@[simp] theorem State.enqueue_psr (s : State) (w : StateWrite) : (s.enqueue w).psr = s.psr := rfl
@[simp] theorem State.enqueue_wim (s : State) (w : StateWrite) : (s.enqueue w).wim = s.wim := rfl
@[simp] theorem State.enqueue_tba (s : State) (w : StateWrite) : (s.enqueue w).tba = s.tba := rfl
@[simp] theorem State.enqueue_tt (s : State) (w : StateWrite) : (s.enqueue w).tt = s.tt := rfl
@[simp] theorem State.enqueue_y (s : State) (w : StateWrite) : (s.enqueue w).y = s.y := rfl
@[simp] theorem State.enqueue_asr (s : State) (w : StateWrite) : (s.enqueue w).asr = s.asr := rfl
@[simp] theorem State.enqueue_pending (s : State) (w : StateWrite) : (s.enqueue w).pending = s.pending ++ [⟨s.cfg.writeStateDelay.val, w⟩] := rfl
@[simp] theorem State.enqueue_annul (s : State) (w : StateWrite) : (s.enqueue w).annul = s.annul := rfl
@[simp] theorem State.enqueue_mode (s : State) (w : StateWrite) : (s.enqueue w).mode = s.mode := rfl
@[simp] theorem State.enqueue_pbError (s : State) (w : StateWrite) : (s.enqueue w).pbError = s.pbError := rfl
@[simp] theorem State.enqueue_requests (s : State) (w : StateWrite) : (s.enqueue w).requests = s.requests := rfl
@[simp] theorem State.enqueue_raised (s : State) (w : StateWrite) : (s.enqueue w).raised = s.raised := rfl
@[simp] theorem State.enqueue_storeBarrierPending (s : State) (w : StateWrite) : (s.enqueue w).storeBarrierPending = s.storeBarrierPending := rfl
@[simp] theorem State.enqueue_pbBlockByte (s : State) (w : StateWrite) : (s.enqueue w).pbBlockByte = s.pbBlockByte := rfl
@[simp] theorem State.enqueue_pbBlockWord (s : State) (w : StateWrite) : (s.enqueue w).pbBlockWord = s.pbBlockWord := rfl
@[simp] theorem State.enqueue_lastWriteSync (s : State) (w : StateWrite) : (s.enqueue w).lastWriteSync = s.lastWriteSync := rfl
@[simp] theorem State.enqueue_irl (s : State) (w : StateWrite) : (s.enqueue w).irl = s.irl := rfl
@[simp] theorem State.enqueue_resetIn (s : State) (w : StateWrite) : (s.enqueue w).resetIn = s.resetIn := rfl
@[simp] theorem State.enqueue_rRegisterError (s : State) (w : StateWrite) : (s.enqueue w).rRegisterError = s.rRegisterError := rfl
@[simp] theorem State.enqueue_f (s : State) (w : StateWrite) : (s.enqueue w).f = s.f := rfl
@[simp] theorem State.enqueue_fsr (s : State) (w : StateWrite) : (s.enqueue w).fsr = s.fsr := rfl
@[simp] theorem State.enqueue_fq (s : State) (w : StateWrite) : (s.enqueue w).fq = s.fq := rfl
@[simp] theorem State.enqueue_fpuMode (s : State) (w : StateWrite) : (s.enqueue w).fpuMode = s.fpuMode := rfl
@[simp] theorem State.enqueue_pendingFp (s : State) (w : StateWrite) : (s.enqueue w).pendingFp = s.pendingFp := rfl
@[simp] theorem State.enqueue_cp (s : State) (w : StateWrite) : (s.enqueue w).cp = s.cp := rfl
@[simp] theorem State.enqueue_mmu (s : State) (w : StateWrite) : (s.enqueue w).mmu = s.mmu := rfl
@[simp] theorem State.enqueue_ibuf (s : State) (w : StateWrite) : (s.enqueue w).ibuf = s.ibuf := rfl
@[simp] theorem State.enqueue_io (s : State) (w : StateWrite) : (s.enqueue w).io = s.io := rfl
@[simp] theorem State.enqueue_ir (s : State) (w : StateWrite) : (s.enqueue w).ir = s.ir := rfl
@[simp] theorem State.enqueue_hzFcmp (s : State) (w : StateWrite) : (s.enqueue w).hzFcmp = s.hzFcmp := rfl
@[simp] theorem State.enqueue_hzLdfsr (s : State) (w : StateWrite) : (s.enqueue w).hzLdfsr = s.hzLdfsr := rfl
@[simp] theorem State.enqueue_freeCtr (s : State) (w : StateWrite) : (s.enqueue w).freeCtr = s.freeCtr := rfl
@[simp] theorem State.enqueue_mem (s : State) (w : StateWrite) : (s.enqueue w).mem = s.mem := rfl

@[simp] theorem State.enterErrorMode_cfg (s : State) : s.enterErrorMode.cfg = s.cfg := rfl
@[simp] theorem State.enterErrorMode_globals (s : State) : s.enterErrorMode.globals = s.globals := rfl
@[simp] theorem State.enterErrorMode_windows (s : State) : s.enterErrorMode.windows = s.windows := rfl
@[simp] theorem State.enterErrorMode_pc (s : State) : s.enterErrorMode.pc = s.pc := rfl
@[simp] theorem State.enterErrorMode_npc (s : State) : s.enterErrorMode.npc = s.npc := rfl
@[simp] theorem State.enterErrorMode_psr (s : State) : s.enterErrorMode.psr = s.psr := rfl
@[simp] theorem State.enterErrorMode_wim (s : State) : s.enterErrorMode.wim = s.wim := rfl
@[simp] theorem State.enterErrorMode_tba (s : State) : s.enterErrorMode.tba = s.tba := rfl
@[simp] theorem State.enterErrorMode_tt (s : State) : s.enterErrorMode.tt = s.tt := rfl
@[simp] theorem State.enterErrorMode_y (s : State) : s.enterErrorMode.y = s.y := rfl
@[simp] theorem State.enterErrorMode_asr (s : State) : s.enterErrorMode.asr = s.asr := rfl
@[simp] theorem State.enterErrorMode_pending (s : State) : s.enterErrorMode.pending = s.pending := rfl
@[simp] theorem State.enterErrorMode_annul (s : State) : s.enterErrorMode.annul = s.annul := rfl
@[simp] theorem State.enterErrorMode_mode (s : State) : s.enterErrorMode.mode = .error := rfl
@[simp] theorem State.enterErrorMode_pbError (s : State) : s.enterErrorMode.pbError = true := rfl
@[simp] theorem State.enterErrorMode_requests (s : State) : s.enterErrorMode.requests = Requests.none := rfl
@[simp] theorem State.enterErrorMode_raised (s : State) : s.enterErrorMode.raised = s.raised := rfl
@[simp] theorem State.enterErrorMode_storeBarrierPending (s : State) : s.enterErrorMode.storeBarrierPending = s.storeBarrierPending := rfl
@[simp] theorem State.enterErrorMode_pbBlockByte (s : State) : s.enterErrorMode.pbBlockByte = s.pbBlockByte := rfl
@[simp] theorem State.enterErrorMode_pbBlockWord (s : State) : s.enterErrorMode.pbBlockWord = s.pbBlockWord := rfl
@[simp] theorem State.enterErrorMode_lastWriteSync (s : State) : s.enterErrorMode.lastWriteSync = s.lastWriteSync := rfl
@[simp] theorem State.enterErrorMode_irl (s : State) : s.enterErrorMode.irl = s.irl := rfl
@[simp] theorem State.enterErrorMode_resetIn (s : State) : s.enterErrorMode.resetIn = s.resetIn := rfl
@[simp] theorem State.enterErrorMode_rRegisterError (s : State) : s.enterErrorMode.rRegisterError = s.rRegisterError := rfl
@[simp] theorem State.enterErrorMode_f (s : State) : s.enterErrorMode.f = s.f := rfl
@[simp] theorem State.enterErrorMode_fsr (s : State) : s.enterErrorMode.fsr = s.fsr := rfl
@[simp] theorem State.enterErrorMode_fq (s : State) : s.enterErrorMode.fq = s.fq := rfl
@[simp] theorem State.enterErrorMode_fpuMode (s : State) : s.enterErrorMode.fpuMode = s.fpuMode := rfl
@[simp] theorem State.enterErrorMode_pendingFp (s : State) : s.enterErrorMode.pendingFp = s.pendingFp := rfl
@[simp] theorem State.enterErrorMode_cp (s : State) : s.enterErrorMode.cp = s.cp := rfl
@[simp] theorem State.enterErrorMode_mmu (s : State) : s.enterErrorMode.mmu = s.mmu := rfl
@[simp] theorem State.enterErrorMode_ibuf (s : State) : s.enterErrorMode.ibuf = s.ibuf := rfl
@[simp] theorem State.enterErrorMode_io (s : State) : s.enterErrorMode.io = s.io := rfl
@[simp] theorem State.enterErrorMode_ir (s : State) : s.enterErrorMode.ir = s.ir := rfl
@[simp] theorem State.enterErrorMode_hzFcmp (s : State) : s.enterErrorMode.hzFcmp = s.hzFcmp := rfl
@[simp] theorem State.enterErrorMode_hzLdfsr (s : State) : s.enterErrorMode.hzLdfsr = s.hzLdfsr := rfl
@[simp] theorem State.enterErrorMode_freeCtr (s : State) : s.enterErrorMode.freeCtr = s.freeCtr := rfl
@[simp] theorem State.enterErrorMode_mem (s : State) : s.enterErrorMode.mem = s.mem := rfl

@[simp] theorem State.errorStop_cfg (s : State) (t : Trap) : (s.errorStop t).cfg = s.cfg := rfl
@[simp] theorem State.errorStop_globals (s : State) (t : Trap) : (s.errorStop t).globals = s.globals := rfl
@[simp] theorem State.errorStop_windows (s : State) (t : Trap) : (s.errorStop t).windows = s.windows := rfl
@[simp] theorem State.errorStop_pc (s : State) (t : Trap) : (s.errorStop t).pc = s.pc := rfl
@[simp] theorem State.errorStop_npc (s : State) (t : Trap) : (s.errorStop t).npc = s.npc := rfl
@[simp] theorem State.errorStop_psr (s : State) (t : Trap) : (s.errorStop t).psr = s.psr := rfl
@[simp] theorem State.errorStop_wim (s : State) (t : Trap) : (s.errorStop t).wim = s.wim := rfl
@[simp] theorem State.errorStop_tba (s : State) (t : Trap) : (s.errorStop t).tba = s.tba := rfl
@[simp] theorem State.errorStop_tt (s : State) (t : Trap) : (s.errorStop t).tt = t.tt := rfl
@[simp] theorem State.errorStop_y (s : State) (t : Trap) : (s.errorStop t).y = s.y := rfl
@[simp] theorem State.errorStop_asr (s : State) (t : Trap) : (s.errorStop t).asr = s.asr := rfl
@[simp] theorem State.errorStop_pending (s : State) (t : Trap) : (s.errorStop t).pending = s.pending := rfl
@[simp] theorem State.errorStop_annul (s : State) (t : Trap) : (s.errorStop t).annul = s.annul := rfl
@[simp] theorem State.errorStop_mode (s : State) (t : Trap) : (s.errorStop t).mode = .error := rfl
@[simp] theorem State.errorStop_pbError (s : State) (t : Trap) : (s.errorStop t).pbError = true := rfl
@[simp] theorem State.errorStop_requests (s : State) (t : Trap) : (s.errorStop t).requests = s.requests.flag t := rfl
@[simp] theorem State.errorStop_raised (s : State) (t : Trap) : (s.errorStop t).raised = s.raised := rfl
@[simp] theorem State.errorStop_storeBarrierPending (s : State) (t : Trap) : (s.errorStop t).storeBarrierPending = s.storeBarrierPending := rfl
@[simp] theorem State.errorStop_pbBlockByte (s : State) (t : Trap) : (s.errorStop t).pbBlockByte = s.pbBlockByte := rfl
@[simp] theorem State.errorStop_pbBlockWord (s : State) (t : Trap) : (s.errorStop t).pbBlockWord = s.pbBlockWord := rfl
@[simp] theorem State.errorStop_lastWriteSync (s : State) (t : Trap) : (s.errorStop t).lastWriteSync = s.lastWriteSync := rfl
@[simp] theorem State.errorStop_irl (s : State) (t : Trap) : (s.errorStop t).irl = s.irl := rfl
@[simp] theorem State.errorStop_resetIn (s : State) (t : Trap) : (s.errorStop t).resetIn = s.resetIn := rfl
@[simp] theorem State.errorStop_rRegisterError (s : State) (t : Trap) : (s.errorStop t).rRegisterError = s.rRegisterError := rfl
@[simp] theorem State.errorStop_f (s : State) (t : Trap) : (s.errorStop t).f = s.f := rfl
@[simp] theorem State.errorStop_fsr (s : State) (t : Trap) : (s.errorStop t).fsr = s.fsr := rfl
@[simp] theorem State.errorStop_fq (s : State) (t : Trap) : (s.errorStop t).fq = s.fq := rfl
@[simp] theorem State.errorStop_fpuMode (s : State) (t : Trap) : (s.errorStop t).fpuMode = s.fpuMode := rfl
@[simp] theorem State.errorStop_pendingFp (s : State) (t : Trap) : (s.errorStop t).pendingFp = s.pendingFp := rfl
@[simp] theorem State.errorStop_cp (s : State) (t : Trap) : (s.errorStop t).cp = s.cp := rfl
@[simp] theorem State.errorStop_mmu (s : State) (t : Trap) : (s.errorStop t).mmu = s.mmu := rfl
@[simp] theorem State.errorStop_ibuf (s : State) (t : Trap) : (s.errorStop t).ibuf = s.ibuf := rfl
@[simp] theorem State.errorStop_io (s : State) (t : Trap) : (s.errorStop t).io = s.io := rfl
@[simp] theorem State.errorStop_ir (s : State) (t : Trap) : (s.errorStop t).ir = s.ir := rfl
@[simp] theorem State.errorStop_hzFcmp (s : State) (t : Trap) : (s.errorStop t).hzFcmp = s.hzFcmp := rfl
@[simp] theorem State.errorStop_hzLdfsr (s : State) (t : Trap) : (s.errorStop t).hzLdfsr = s.hzLdfsr := rfl
@[simp] theorem State.errorStop_freeCtr (s : State) (t : Trap) : (s.errorStop t).freeCtr = s.freeCtr := rfl
@[simp] theorem State.errorStop_mem (s : State) (t : Trap) : (s.errorStop t).mem = s.mem := rfl

@[simp] theorem State.drawn_cfg (s : State) : s.drawn.cfg = s.cfg := rfl
@[simp] theorem State.drawn_globals (s : State) : s.drawn.globals = s.globals := rfl
@[simp] theorem State.drawn_windows (s : State) : s.drawn.windows = s.windows := rfl
@[simp] theorem State.drawn_pc (s : State) : s.drawn.pc = s.pc := rfl
@[simp] theorem State.drawn_npc (s : State) : s.drawn.npc = s.npc := rfl
@[simp] theorem State.drawn_psr (s : State) : s.drawn.psr = s.psr := rfl
@[simp] theorem State.drawn_wim (s : State) : s.drawn.wim = s.wim := rfl
@[simp] theorem State.drawn_tba (s : State) : s.drawn.tba = s.tba := rfl
@[simp] theorem State.drawn_tt (s : State) : s.drawn.tt = s.tt := rfl
@[simp] theorem State.drawn_y (s : State) : s.drawn.y = s.y := rfl
@[simp] theorem State.drawn_asr (s : State) : s.drawn.asr = s.asr := rfl
@[simp] theorem State.drawn_pending (s : State) : s.drawn.pending = s.pending := rfl
@[simp] theorem State.drawn_annul (s : State) : s.drawn.annul = s.annul := rfl
@[simp] theorem State.drawn_mode (s : State) : s.drawn.mode = s.mode := rfl
@[simp] theorem State.drawn_pbError (s : State) : s.drawn.pbError = s.pbError := rfl
@[simp] theorem State.drawn_requests (s : State) : s.drawn.requests = s.requests := rfl
@[simp] theorem State.drawn_raised (s : State) : s.drawn.raised = s.raised := rfl
@[simp] theorem State.drawn_storeBarrierPending (s : State) : s.drawn.storeBarrierPending = s.storeBarrierPending := rfl
@[simp] theorem State.drawn_pbBlockByte (s : State) : s.drawn.pbBlockByte = s.pbBlockByte := rfl
@[simp] theorem State.drawn_pbBlockWord (s : State) : s.drawn.pbBlockWord = s.pbBlockWord := rfl
@[simp] theorem State.drawn_lastWriteSync (s : State) : s.drawn.lastWriteSync = s.lastWriteSync := rfl
@[simp] theorem State.drawn_irl (s : State) : s.drawn.irl = s.irl := rfl
@[simp] theorem State.drawn_resetIn (s : State) : s.drawn.resetIn = s.resetIn := rfl
@[simp] theorem State.drawn_rRegisterError (s : State) : s.drawn.rRegisterError = s.rRegisterError := rfl
@[simp] theorem State.drawn_f (s : State) : s.drawn.f = s.f := rfl
@[simp] theorem State.drawn_fsr (s : State) : s.drawn.fsr = s.fsr := rfl
@[simp] theorem State.drawn_fq (s : State) : s.drawn.fq = s.fq := rfl
@[simp] theorem State.drawn_fpuMode (s : State) : s.drawn.fpuMode = s.fpuMode := rfl
@[simp] theorem State.drawn_pendingFp (s : State) : s.drawn.pendingFp = s.pendingFp := rfl
@[simp] theorem State.drawn_cp (s : State) : s.drawn.cp = s.cp := rfl
@[simp] theorem State.drawn_mmu (s : State) : s.drawn.mmu = s.mmu := rfl
@[simp] theorem State.drawn_ibuf (s : State) : s.drawn.ibuf = s.ibuf := rfl
@[simp] theorem State.drawn_io (s : State) : s.drawn.io = s.io := rfl
@[simp] theorem State.drawn_ir (s : State) : s.drawn.ir = s.ir := rfl
@[simp] theorem State.drawn_hzFcmp (s : State) : s.drawn.hzFcmp = s.hzFcmp := rfl
@[simp] theorem State.drawn_hzLdfsr (s : State) : s.drawn.hzLdfsr = s.hzLdfsr := rfl
@[simp] theorem State.drawn_freeCtr (s : State) : s.drawn.freeCtr = s.freeCtr + 1 := rfl
@[simp] theorem State.drawn_mem (s : State) : s.drawn.mem = s.mem := rfl

@[simp] theorem State.setIcc_cfg (s : State) (i : Icc) : (s.setIcc i).cfg = s.cfg := rfl
@[simp] theorem State.setIcc_globals (s : State) (i : Icc) : (s.setIcc i).globals = s.globals := rfl
@[simp] theorem State.setIcc_windows (s : State) (i : Icc) : (s.setIcc i).windows = s.windows := rfl
@[simp] theorem State.setIcc_pc (s : State) (i : Icc) : (s.setIcc i).pc = s.pc := rfl
@[simp] theorem State.setIcc_npc (s : State) (i : Icc) : (s.setIcc i).npc = s.npc := rfl
@[simp] theorem State.setIcc_psr (s : State) (i : Icc) : (s.setIcc i).psr = { s.psr with icc := i } := rfl
@[simp] theorem State.setIcc_wim (s : State) (i : Icc) : (s.setIcc i).wim = s.wim := rfl
@[simp] theorem State.setIcc_tba (s : State) (i : Icc) : (s.setIcc i).tba = s.tba := rfl
@[simp] theorem State.setIcc_tt (s : State) (i : Icc) : (s.setIcc i).tt = s.tt := rfl
@[simp] theorem State.setIcc_y (s : State) (i : Icc) : (s.setIcc i).y = s.y := rfl
@[simp] theorem State.setIcc_asr (s : State) (i : Icc) : (s.setIcc i).asr = s.asr := rfl
@[simp] theorem State.setIcc_pending (s : State) (i : Icc) : (s.setIcc i).pending = s.pending := rfl
@[simp] theorem State.setIcc_annul (s : State) (i : Icc) : (s.setIcc i).annul = s.annul := rfl
@[simp] theorem State.setIcc_mode (s : State) (i : Icc) : (s.setIcc i).mode = s.mode := rfl
@[simp] theorem State.setIcc_pbError (s : State) (i : Icc) : (s.setIcc i).pbError = s.pbError := rfl
@[simp] theorem State.setIcc_requests (s : State) (i : Icc) : (s.setIcc i).requests = s.requests := rfl
@[simp] theorem State.setIcc_raised (s : State) (i : Icc) : (s.setIcc i).raised = s.raised := rfl
@[simp] theorem State.setIcc_storeBarrierPending (s : State) (i : Icc) : (s.setIcc i).storeBarrierPending = s.storeBarrierPending := rfl
@[simp] theorem State.setIcc_pbBlockByte (s : State) (i : Icc) : (s.setIcc i).pbBlockByte = s.pbBlockByte := rfl
@[simp] theorem State.setIcc_pbBlockWord (s : State) (i : Icc) : (s.setIcc i).pbBlockWord = s.pbBlockWord := rfl
@[simp] theorem State.setIcc_lastWriteSync (s : State) (i : Icc) : (s.setIcc i).lastWriteSync = s.lastWriteSync := rfl
@[simp] theorem State.setIcc_irl (s : State) (i : Icc) : (s.setIcc i).irl = s.irl := rfl
@[simp] theorem State.setIcc_resetIn (s : State) (i : Icc) : (s.setIcc i).resetIn = s.resetIn := rfl
@[simp] theorem State.setIcc_rRegisterError (s : State) (i : Icc) : (s.setIcc i).rRegisterError = s.rRegisterError := rfl
@[simp] theorem State.setIcc_f (s : State) (i : Icc) : (s.setIcc i).f = s.f := rfl
@[simp] theorem State.setIcc_fsr (s : State) (i : Icc) : (s.setIcc i).fsr = s.fsr := rfl
@[simp] theorem State.setIcc_fq (s : State) (i : Icc) : (s.setIcc i).fq = s.fq := rfl
@[simp] theorem State.setIcc_fpuMode (s : State) (i : Icc) : (s.setIcc i).fpuMode = s.fpuMode := rfl
@[simp] theorem State.setIcc_pendingFp (s : State) (i : Icc) : (s.setIcc i).pendingFp = s.pendingFp := rfl
@[simp] theorem State.setIcc_cp (s : State) (i : Icc) : (s.setIcc i).cp = s.cp := rfl
@[simp] theorem State.setIcc_mmu (s : State) (i : Icc) : (s.setIcc i).mmu = s.mmu := rfl
@[simp] theorem State.setIcc_ibuf (s : State) (i : Icc) : (s.setIcc i).ibuf = s.ibuf := rfl
@[simp] theorem State.setIcc_io (s : State) (i : Icc) : (s.setIcc i).io = s.io := rfl
@[simp] theorem State.setIcc_ir (s : State) (i : Icc) : (s.setIcc i).ir = s.ir := rfl
@[simp] theorem State.setIcc_hzFcmp (s : State) (i : Icc) : (s.setIcc i).hzFcmp = s.hzFcmp := rfl
@[simp] theorem State.setIcc_hzLdfsr (s : State) (i : Icc) : (s.setIcc i).hzLdfsr = s.hzLdfsr := rfl
@[simp] theorem State.setIcc_freeCtr (s : State) (i : Icc) : (s.setIcc i).freeCtr = s.freeCtr := rfl
@[simp] theorem State.setIcc_mem (s : State) (i : Icc) : (s.setIcc i).mem = s.mem := rfl

@[simp] theorem State.setY_cfg (s : State) (v : Word) : (s.setY v).cfg = s.cfg := rfl
@[simp] theorem State.setY_globals (s : State) (v : Word) : (s.setY v).globals = s.globals := rfl
@[simp] theorem State.setY_windows (s : State) (v : Word) : (s.setY v).windows = s.windows := rfl
@[simp] theorem State.setY_pc (s : State) (v : Word) : (s.setY v).pc = s.pc := rfl
@[simp] theorem State.setY_npc (s : State) (v : Word) : (s.setY v).npc = s.npc := rfl
@[simp] theorem State.setY_psr (s : State) (v : Word) : (s.setY v).psr = s.psr := rfl
@[simp] theorem State.setY_wim (s : State) (v : Word) : (s.setY v).wim = s.wim := rfl
@[simp] theorem State.setY_tba (s : State) (v : Word) : (s.setY v).tba = s.tba := rfl
@[simp] theorem State.setY_tt (s : State) (v : Word) : (s.setY v).tt = s.tt := rfl
@[simp] theorem State.setY_y (s : State) (v : Word) : (s.setY v).y = v := rfl
@[simp] theorem State.setY_asr (s : State) (v : Word) : (s.setY v).asr = s.asr := rfl
@[simp] theorem State.setY_pending (s : State) (v : Word) : (s.setY v).pending = s.pending := rfl
@[simp] theorem State.setY_annul (s : State) (v : Word) : (s.setY v).annul = s.annul := rfl
@[simp] theorem State.setY_mode (s : State) (v : Word) : (s.setY v).mode = s.mode := rfl
@[simp] theorem State.setY_pbError (s : State) (v : Word) : (s.setY v).pbError = s.pbError := rfl
@[simp] theorem State.setY_requests (s : State) (v : Word) : (s.setY v).requests = s.requests := rfl
@[simp] theorem State.setY_raised (s : State) (v : Word) : (s.setY v).raised = s.raised := rfl
@[simp] theorem State.setY_storeBarrierPending (s : State) (v : Word) : (s.setY v).storeBarrierPending = s.storeBarrierPending := rfl
@[simp] theorem State.setY_pbBlockByte (s : State) (v : Word) : (s.setY v).pbBlockByte = s.pbBlockByte := rfl
@[simp] theorem State.setY_pbBlockWord (s : State) (v : Word) : (s.setY v).pbBlockWord = s.pbBlockWord := rfl
@[simp] theorem State.setY_lastWriteSync (s : State) (v : Word) : (s.setY v).lastWriteSync = s.lastWriteSync := rfl
@[simp] theorem State.setY_irl (s : State) (v : Word) : (s.setY v).irl = s.irl := rfl
@[simp] theorem State.setY_resetIn (s : State) (v : Word) : (s.setY v).resetIn = s.resetIn := rfl
@[simp] theorem State.setY_rRegisterError (s : State) (v : Word) : (s.setY v).rRegisterError = s.rRegisterError := rfl
@[simp] theorem State.setY_f (s : State) (v : Word) : (s.setY v).f = s.f := rfl
@[simp] theorem State.setY_fsr (s : State) (v : Word) : (s.setY v).fsr = s.fsr := rfl
@[simp] theorem State.setY_fq (s : State) (v : Word) : (s.setY v).fq = s.fq := rfl
@[simp] theorem State.setY_fpuMode (s : State) (v : Word) : (s.setY v).fpuMode = s.fpuMode := rfl
@[simp] theorem State.setY_pendingFp (s : State) (v : Word) : (s.setY v).pendingFp = s.pendingFp := rfl
@[simp] theorem State.setY_cp (s : State) (v : Word) : (s.setY v).cp = s.cp := rfl
@[simp] theorem State.setY_mmu (s : State) (v : Word) : (s.setY v).mmu = s.mmu := rfl
@[simp] theorem State.setY_ibuf (s : State) (v : Word) : (s.setY v).ibuf = s.ibuf := rfl
@[simp] theorem State.setY_io (s : State) (v : Word) : (s.setY v).io = s.io := rfl
@[simp] theorem State.setY_ir (s : State) (v : Word) : (s.setY v).ir = s.ir := rfl
@[simp] theorem State.setY_hzFcmp (s : State) (v : Word) : (s.setY v).hzFcmp = s.hzFcmp := rfl
@[simp] theorem State.setY_hzLdfsr (s : State) (v : Word) : (s.setY v).hzLdfsr = s.hzLdfsr := rfl
@[simp] theorem State.setY_freeCtr (s : State) (v : Word) : (s.setY v).freeCtr = s.freeCtr := rfl
@[simp] theorem State.setY_mem (s : State) (v : Word) : (s.setY v).mem = s.mem := rfl

@[simp] theorem State.setCwp_cfg (s : State) (w : BitVec 5) : (s.setCwp w).cfg = s.cfg := rfl
@[simp] theorem State.setCwp_globals (s : State) (w : BitVec 5) : (s.setCwp w).globals = s.globals := rfl
@[simp] theorem State.setCwp_windows (s : State) (w : BitVec 5) : (s.setCwp w).windows = s.windows := rfl
@[simp] theorem State.setCwp_pc (s : State) (w : BitVec 5) : (s.setCwp w).pc = s.pc := rfl
@[simp] theorem State.setCwp_npc (s : State) (w : BitVec 5) : (s.setCwp w).npc = s.npc := rfl
@[simp] theorem State.setCwp_psr (s : State) (w : BitVec 5) : (s.setCwp w).psr = { s.psr with cwp := w } := rfl
@[simp] theorem State.setCwp_wim (s : State) (w : BitVec 5) : (s.setCwp w).wim = s.wim := rfl
@[simp] theorem State.setCwp_tba (s : State) (w : BitVec 5) : (s.setCwp w).tba = s.tba := rfl
@[simp] theorem State.setCwp_tt (s : State) (w : BitVec 5) : (s.setCwp w).tt = s.tt := rfl
@[simp] theorem State.setCwp_y (s : State) (w : BitVec 5) : (s.setCwp w).y = s.y := rfl
@[simp] theorem State.setCwp_asr (s : State) (w : BitVec 5) : (s.setCwp w).asr = s.asr := rfl
@[simp] theorem State.setCwp_pending (s : State) (w : BitVec 5) : (s.setCwp w).pending = s.pending := rfl
@[simp] theorem State.setCwp_annul (s : State) (w : BitVec 5) : (s.setCwp w).annul = s.annul := rfl
@[simp] theorem State.setCwp_mode (s : State) (w : BitVec 5) : (s.setCwp w).mode = s.mode := rfl
@[simp] theorem State.setCwp_pbError (s : State) (w : BitVec 5) : (s.setCwp w).pbError = s.pbError := rfl
@[simp] theorem State.setCwp_requests (s : State) (w : BitVec 5) : (s.setCwp w).requests = s.requests := rfl
@[simp] theorem State.setCwp_raised (s : State) (w : BitVec 5) : (s.setCwp w).raised = s.raised := rfl
@[simp] theorem State.setCwp_storeBarrierPending (s : State) (w : BitVec 5) : (s.setCwp w).storeBarrierPending = s.storeBarrierPending := rfl
@[simp] theorem State.setCwp_pbBlockByte (s : State) (w : BitVec 5) : (s.setCwp w).pbBlockByte = s.pbBlockByte := rfl
@[simp] theorem State.setCwp_pbBlockWord (s : State) (w : BitVec 5) : (s.setCwp w).pbBlockWord = s.pbBlockWord := rfl
@[simp] theorem State.setCwp_lastWriteSync (s : State) (w : BitVec 5) : (s.setCwp w).lastWriteSync = s.lastWriteSync := rfl
@[simp] theorem State.setCwp_irl (s : State) (w : BitVec 5) : (s.setCwp w).irl = s.irl := rfl
@[simp] theorem State.setCwp_resetIn (s : State) (w : BitVec 5) : (s.setCwp w).resetIn = s.resetIn := rfl
@[simp] theorem State.setCwp_rRegisterError (s : State) (w : BitVec 5) : (s.setCwp w).rRegisterError = s.rRegisterError := rfl
@[simp] theorem State.setCwp_f (s : State) (w : BitVec 5) : (s.setCwp w).f = s.f := rfl
@[simp] theorem State.setCwp_fsr (s : State) (w : BitVec 5) : (s.setCwp w).fsr = s.fsr := rfl
@[simp] theorem State.setCwp_fq (s : State) (w : BitVec 5) : (s.setCwp w).fq = s.fq := rfl
@[simp] theorem State.setCwp_fpuMode (s : State) (w : BitVec 5) : (s.setCwp w).fpuMode = s.fpuMode := rfl
@[simp] theorem State.setCwp_pendingFp (s : State) (w : BitVec 5) : (s.setCwp w).pendingFp = s.pendingFp := rfl
@[simp] theorem State.setCwp_cp (s : State) (w : BitVec 5) : (s.setCwp w).cp = s.cp := rfl
@[simp] theorem State.setCwp_mmu (s : State) (w : BitVec 5) : (s.setCwp w).mmu = s.mmu := rfl
@[simp] theorem State.setCwp_ibuf (s : State) (w : BitVec 5) : (s.setCwp w).ibuf = s.ibuf := rfl
@[simp] theorem State.setCwp_io (s : State) (w : BitVec 5) : (s.setCwp w).io = s.io := rfl
@[simp] theorem State.setCwp_ir (s : State) (w : BitVec 5) : (s.setCwp w).ir = s.ir := rfl
@[simp] theorem State.setCwp_hzFcmp (s : State) (w : BitVec 5) : (s.setCwp w).hzFcmp = s.hzFcmp := rfl
@[simp] theorem State.setCwp_hzLdfsr (s : State) (w : BitVec 5) : (s.setCwp w).hzLdfsr = s.hzLdfsr := rfl
@[simp] theorem State.setCwp_freeCtr (s : State) (w : BitVec 5) : (s.setCwp w).freeCtr = s.freeCtr := rfl
@[simp] theorem State.setCwp_mem (s : State) (w : BitVec 5) : (s.setCwp w).mem = s.mem := rfl

@[simp] theorem State.setEtPil_cfg (s : State) (w : Word) : (s.setEtPil w).cfg = s.cfg := rfl
@[simp] theorem State.setEtPil_globals (s : State) (w : Word) : (s.setEtPil w).globals = s.globals := rfl
@[simp] theorem State.setEtPil_windows (s : State) (w : Word) : (s.setEtPil w).windows = s.windows := rfl
@[simp] theorem State.setEtPil_pc (s : State) (w : Word) : (s.setEtPil w).pc = s.pc := rfl
@[simp] theorem State.setEtPil_npc (s : State) (w : Word) : (s.setEtPil w).npc = s.npc := rfl
@[simp] theorem State.setEtPil_psr (s : State) (w : Word) : (s.setEtPil w).psr = { s.psr with et := w.getLsbD 5, pil := w.extractLsb' 8 4 } := rfl
@[simp] theorem State.setEtPil_wim (s : State) (w : Word) : (s.setEtPil w).wim = s.wim := rfl
@[simp] theorem State.setEtPil_tba (s : State) (w : Word) : (s.setEtPil w).tba = s.tba := rfl
@[simp] theorem State.setEtPil_tt (s : State) (w : Word) : (s.setEtPil w).tt = s.tt := rfl
@[simp] theorem State.setEtPil_y (s : State) (w : Word) : (s.setEtPil w).y = s.y := rfl
@[simp] theorem State.setEtPil_asr (s : State) (w : Word) : (s.setEtPil w).asr = s.asr := rfl
@[simp] theorem State.setEtPil_pending (s : State) (w : Word) : (s.setEtPil w).pending = s.pending := rfl
@[simp] theorem State.setEtPil_annul (s : State) (w : Word) : (s.setEtPil w).annul = s.annul := rfl
@[simp] theorem State.setEtPil_mode (s : State) (w : Word) : (s.setEtPil w).mode = s.mode := rfl
@[simp] theorem State.setEtPil_pbError (s : State) (w : Word) : (s.setEtPil w).pbError = s.pbError := rfl
@[simp] theorem State.setEtPil_requests (s : State) (w : Word) : (s.setEtPil w).requests = s.requests := rfl
@[simp] theorem State.setEtPil_raised (s : State) (w : Word) : (s.setEtPil w).raised = s.raised := rfl
@[simp] theorem State.setEtPil_storeBarrierPending (s : State) (w : Word) : (s.setEtPil w).storeBarrierPending = s.storeBarrierPending := rfl
@[simp] theorem State.setEtPil_pbBlockByte (s : State) (w : Word) : (s.setEtPil w).pbBlockByte = s.pbBlockByte := rfl
@[simp] theorem State.setEtPil_pbBlockWord (s : State) (w : Word) : (s.setEtPil w).pbBlockWord = s.pbBlockWord := rfl
@[simp] theorem State.setEtPil_lastWriteSync (s : State) (w : Word) : (s.setEtPil w).lastWriteSync = s.lastWriteSync := rfl
@[simp] theorem State.setEtPil_irl (s : State) (w : Word) : (s.setEtPil w).irl = s.irl := rfl
@[simp] theorem State.setEtPil_resetIn (s : State) (w : Word) : (s.setEtPil w).resetIn = s.resetIn := rfl
@[simp] theorem State.setEtPil_rRegisterError (s : State) (w : Word) : (s.setEtPil w).rRegisterError = s.rRegisterError := rfl
@[simp] theorem State.setEtPil_f (s : State) (w : Word) : (s.setEtPil w).f = s.f := rfl
@[simp] theorem State.setEtPil_fsr (s : State) (w : Word) : (s.setEtPil w).fsr = s.fsr := rfl
@[simp] theorem State.setEtPil_fq (s : State) (w : Word) : (s.setEtPil w).fq = s.fq := rfl
@[simp] theorem State.setEtPil_fpuMode (s : State) (w : Word) : (s.setEtPil w).fpuMode = s.fpuMode := rfl
@[simp] theorem State.setEtPil_pendingFp (s : State) (w : Word) : (s.setEtPil w).pendingFp = s.pendingFp := rfl
@[simp] theorem State.setEtPil_cp (s : State) (w : Word) : (s.setEtPil w).cp = s.cp := rfl
@[simp] theorem State.setEtPil_mmu (s : State) (w : Word) : (s.setEtPil w).mmu = s.mmu := rfl
@[simp] theorem State.setEtPil_ibuf (s : State) (w : Word) : (s.setEtPil w).ibuf = s.ibuf := rfl
@[simp] theorem State.setEtPil_io (s : State) (w : Word) : (s.setEtPil w).io = s.io := rfl
@[simp] theorem State.setEtPil_ir (s : State) (w : Word) : (s.setEtPil w).ir = s.ir := rfl
@[simp] theorem State.setEtPil_hzFcmp (s : State) (w : Word) : (s.setEtPil w).hzFcmp = s.hzFcmp := rfl
@[simp] theorem State.setEtPil_hzLdfsr (s : State) (w : Word) : (s.setEtPil w).hzLdfsr = s.hzLdfsr := rfl
@[simp] theorem State.setEtPil_freeCtr (s : State) (w : Word) : (s.setEtPil w).freeCtr = s.freeCtr := rfl
@[simp] theorem State.setEtPil_mem (s : State) (w : Word) : (s.setEtPil w).mem = s.mem := rfl

@[simp] theorem State.setBarrier_cfg (s : State) : s.setBarrier.cfg = s.cfg := rfl
@[simp] theorem State.setBarrier_globals (s : State) : s.setBarrier.globals = s.globals := rfl
@[simp] theorem State.setBarrier_windows (s : State) : s.setBarrier.windows = s.windows := rfl
@[simp] theorem State.setBarrier_pc (s : State) : s.setBarrier.pc = s.pc := rfl
@[simp] theorem State.setBarrier_npc (s : State) : s.setBarrier.npc = s.npc := rfl
@[simp] theorem State.setBarrier_psr (s : State) : s.setBarrier.psr = s.psr := rfl
@[simp] theorem State.setBarrier_wim (s : State) : s.setBarrier.wim = s.wim := rfl
@[simp] theorem State.setBarrier_tba (s : State) : s.setBarrier.tba = s.tba := rfl
@[simp] theorem State.setBarrier_tt (s : State) : s.setBarrier.tt = s.tt := rfl
@[simp] theorem State.setBarrier_y (s : State) : s.setBarrier.y = s.y := rfl
@[simp] theorem State.setBarrier_asr (s : State) : s.setBarrier.asr = s.asr := rfl
@[simp] theorem State.setBarrier_pending (s : State) : s.setBarrier.pending = s.pending := rfl
@[simp] theorem State.setBarrier_annul (s : State) : s.setBarrier.annul = s.annul := rfl
@[simp] theorem State.setBarrier_mode (s : State) : s.setBarrier.mode = s.mode := rfl
@[simp] theorem State.setBarrier_pbError (s : State) : s.setBarrier.pbError = s.pbError := rfl
@[simp] theorem State.setBarrier_requests (s : State) : s.setBarrier.requests = s.requests := rfl
@[simp] theorem State.setBarrier_raised (s : State) : s.setBarrier.raised = s.raised := rfl
@[simp] theorem State.setBarrier_storeBarrierPending (s : State) : s.setBarrier.storeBarrierPending = true := rfl
@[simp] theorem State.setBarrier_pbBlockByte (s : State) : s.setBarrier.pbBlockByte = s.pbBlockByte := rfl
@[simp] theorem State.setBarrier_pbBlockWord (s : State) : s.setBarrier.pbBlockWord = s.pbBlockWord := rfl
@[simp] theorem State.setBarrier_lastWriteSync (s : State) : s.setBarrier.lastWriteSync = s.lastWriteSync := rfl
@[simp] theorem State.setBarrier_irl (s : State) : s.setBarrier.irl = s.irl := rfl
@[simp] theorem State.setBarrier_resetIn (s : State) : s.setBarrier.resetIn = s.resetIn := rfl
@[simp] theorem State.setBarrier_rRegisterError (s : State) : s.setBarrier.rRegisterError = s.rRegisterError := rfl
@[simp] theorem State.setBarrier_f (s : State) : s.setBarrier.f = s.f := rfl
@[simp] theorem State.setBarrier_fsr (s : State) : s.setBarrier.fsr = s.fsr := rfl
@[simp] theorem State.setBarrier_fq (s : State) : s.setBarrier.fq = s.fq := rfl
@[simp] theorem State.setBarrier_fpuMode (s : State) : s.setBarrier.fpuMode = s.fpuMode := rfl
@[simp] theorem State.setBarrier_pendingFp (s : State) : s.setBarrier.pendingFp = s.pendingFp := rfl
@[simp] theorem State.setBarrier_cp (s : State) : s.setBarrier.cp = s.cp := rfl
@[simp] theorem State.setBarrier_mmu (s : State) : s.setBarrier.mmu = s.mmu := rfl
@[simp] theorem State.setBarrier_ibuf (s : State) : s.setBarrier.ibuf = s.ibuf := rfl
@[simp] theorem State.setBarrier_io (s : State) : s.setBarrier.io = s.io := rfl
@[simp] theorem State.setBarrier_ir (s : State) : s.setBarrier.ir = s.ir := rfl
@[simp] theorem State.setBarrier_hzFcmp (s : State) : s.setBarrier.hzFcmp = s.hzFcmp := rfl
@[simp] theorem State.setBarrier_hzLdfsr (s : State) : s.setBarrier.hzLdfsr = s.hzLdfsr := rfl
@[simp] theorem State.setBarrier_freeCtr (s : State) : s.setBarrier.freeCtr = s.freeCtr := rfl
@[simp] theorem State.setBarrier_mem (s : State) : s.setBarrier.mem = s.mem := rfl

@[simp] theorem State.blockByte_cfg (s : State) (b : Bool) : (s.blockByte b).cfg = s.cfg := rfl
@[simp] theorem State.blockByte_globals (s : State) (b : Bool) : (s.blockByte b).globals = s.globals := rfl
@[simp] theorem State.blockByte_windows (s : State) (b : Bool) : (s.blockByte b).windows = s.windows := rfl
@[simp] theorem State.blockByte_pc (s : State) (b : Bool) : (s.blockByte b).pc = s.pc := rfl
@[simp] theorem State.blockByte_npc (s : State) (b : Bool) : (s.blockByte b).npc = s.npc := rfl
@[simp] theorem State.blockByte_psr (s : State) (b : Bool) : (s.blockByte b).psr = s.psr := rfl
@[simp] theorem State.blockByte_wim (s : State) (b : Bool) : (s.blockByte b).wim = s.wim := rfl
@[simp] theorem State.blockByte_tba (s : State) (b : Bool) : (s.blockByte b).tba = s.tba := rfl
@[simp] theorem State.blockByte_tt (s : State) (b : Bool) : (s.blockByte b).tt = s.tt := rfl
@[simp] theorem State.blockByte_y (s : State) (b : Bool) : (s.blockByte b).y = s.y := rfl
@[simp] theorem State.blockByte_asr (s : State) (b : Bool) : (s.blockByte b).asr = s.asr := rfl
@[simp] theorem State.blockByte_pending (s : State) (b : Bool) : (s.blockByte b).pending = s.pending := rfl
@[simp] theorem State.blockByte_annul (s : State) (b : Bool) : (s.blockByte b).annul = s.annul := rfl
@[simp] theorem State.blockByte_mode (s : State) (b : Bool) : (s.blockByte b).mode = s.mode := rfl
@[simp] theorem State.blockByte_pbError (s : State) (b : Bool) : (s.blockByte b).pbError = s.pbError := rfl
@[simp] theorem State.blockByte_requests (s : State) (b : Bool) : (s.blockByte b).requests = s.requests := rfl
@[simp] theorem State.blockByte_raised (s : State) (b : Bool) : (s.blockByte b).raised = s.raised := rfl
@[simp] theorem State.blockByte_storeBarrierPending (s : State) (b : Bool) : (s.blockByte b).storeBarrierPending = s.storeBarrierPending := rfl
@[simp] theorem State.blockByte_pbBlockByte (s : State) (b : Bool) : (s.blockByte b).pbBlockByte = b := rfl
@[simp] theorem State.blockByte_pbBlockWord (s : State) (b : Bool) : (s.blockByte b).pbBlockWord = s.pbBlockWord := rfl
@[simp] theorem State.blockByte_lastWriteSync (s : State) (b : Bool) : (s.blockByte b).lastWriteSync = s.lastWriteSync := rfl
@[simp] theorem State.blockByte_irl (s : State) (b : Bool) : (s.blockByte b).irl = s.irl := rfl
@[simp] theorem State.blockByte_resetIn (s : State) (b : Bool) : (s.blockByte b).resetIn = s.resetIn := rfl
@[simp] theorem State.blockByte_rRegisterError (s : State) (b : Bool) : (s.blockByte b).rRegisterError = s.rRegisterError := rfl
@[simp] theorem State.blockByte_f (s : State) (b : Bool) : (s.blockByte b).f = s.f := rfl
@[simp] theorem State.blockByte_fsr (s : State) (b : Bool) : (s.blockByte b).fsr = s.fsr := rfl
@[simp] theorem State.blockByte_fq (s : State) (b : Bool) : (s.blockByte b).fq = s.fq := rfl
@[simp] theorem State.blockByte_fpuMode (s : State) (b : Bool) : (s.blockByte b).fpuMode = s.fpuMode := rfl
@[simp] theorem State.blockByte_pendingFp (s : State) (b : Bool) : (s.blockByte b).pendingFp = s.pendingFp := rfl
@[simp] theorem State.blockByte_cp (s : State) (b : Bool) : (s.blockByte b).cp = s.cp := rfl
@[simp] theorem State.blockByte_mmu (s : State) (b : Bool) : (s.blockByte b).mmu = s.mmu := rfl
@[simp] theorem State.blockByte_ibuf (s : State) (b : Bool) : (s.blockByte b).ibuf = s.ibuf := rfl
@[simp] theorem State.blockByte_io (s : State) (b : Bool) : (s.blockByte b).io = s.io := rfl
@[simp] theorem State.blockByte_ir (s : State) (b : Bool) : (s.blockByte b).ir = s.ir := rfl
@[simp] theorem State.blockByte_hzFcmp (s : State) (b : Bool) : (s.blockByte b).hzFcmp = s.hzFcmp := rfl
@[simp] theorem State.blockByte_hzLdfsr (s : State) (b : Bool) : (s.blockByte b).hzLdfsr = s.hzLdfsr := rfl
@[simp] theorem State.blockByte_freeCtr (s : State) (b : Bool) : (s.blockByte b).freeCtr = s.freeCtr := rfl
@[simp] theorem State.blockByte_mem (s : State) (b : Bool) : (s.blockByte b).mem = s.mem := rfl

@[simp] theorem State.blockWord_cfg (s : State) (b : Bool) : (s.blockWord b).cfg = s.cfg := rfl
@[simp] theorem State.blockWord_globals (s : State) (b : Bool) : (s.blockWord b).globals = s.globals := rfl
@[simp] theorem State.blockWord_windows (s : State) (b : Bool) : (s.blockWord b).windows = s.windows := rfl
@[simp] theorem State.blockWord_pc (s : State) (b : Bool) : (s.blockWord b).pc = s.pc := rfl
@[simp] theorem State.blockWord_npc (s : State) (b : Bool) : (s.blockWord b).npc = s.npc := rfl
@[simp] theorem State.blockWord_psr (s : State) (b : Bool) : (s.blockWord b).psr = s.psr := rfl
@[simp] theorem State.blockWord_wim (s : State) (b : Bool) : (s.blockWord b).wim = s.wim := rfl
@[simp] theorem State.blockWord_tba (s : State) (b : Bool) : (s.blockWord b).tba = s.tba := rfl
@[simp] theorem State.blockWord_tt (s : State) (b : Bool) : (s.blockWord b).tt = s.tt := rfl
@[simp] theorem State.blockWord_y (s : State) (b : Bool) : (s.blockWord b).y = s.y := rfl
@[simp] theorem State.blockWord_asr (s : State) (b : Bool) : (s.blockWord b).asr = s.asr := rfl
@[simp] theorem State.blockWord_pending (s : State) (b : Bool) : (s.blockWord b).pending = s.pending := rfl
@[simp] theorem State.blockWord_annul (s : State) (b : Bool) : (s.blockWord b).annul = s.annul := rfl
@[simp] theorem State.blockWord_mode (s : State) (b : Bool) : (s.blockWord b).mode = s.mode := rfl
@[simp] theorem State.blockWord_pbError (s : State) (b : Bool) : (s.blockWord b).pbError = s.pbError := rfl
@[simp] theorem State.blockWord_requests (s : State) (b : Bool) : (s.blockWord b).requests = s.requests := rfl
@[simp] theorem State.blockWord_raised (s : State) (b : Bool) : (s.blockWord b).raised = s.raised := rfl
@[simp] theorem State.blockWord_storeBarrierPending (s : State) (b : Bool) : (s.blockWord b).storeBarrierPending = s.storeBarrierPending := rfl
@[simp] theorem State.blockWord_pbBlockByte (s : State) (b : Bool) : (s.blockWord b).pbBlockByte = s.pbBlockByte := rfl
@[simp] theorem State.blockWord_pbBlockWord (s : State) (b : Bool) : (s.blockWord b).pbBlockWord = b := rfl
@[simp] theorem State.blockWord_lastWriteSync (s : State) (b : Bool) : (s.blockWord b).lastWriteSync = s.lastWriteSync := rfl
@[simp] theorem State.blockWord_irl (s : State) (b : Bool) : (s.blockWord b).irl = s.irl := rfl
@[simp] theorem State.blockWord_resetIn (s : State) (b : Bool) : (s.blockWord b).resetIn = s.resetIn := rfl
@[simp] theorem State.blockWord_rRegisterError (s : State) (b : Bool) : (s.blockWord b).rRegisterError = s.rRegisterError := rfl
@[simp] theorem State.blockWord_f (s : State) (b : Bool) : (s.blockWord b).f = s.f := rfl
@[simp] theorem State.blockWord_fsr (s : State) (b : Bool) : (s.blockWord b).fsr = s.fsr := rfl
@[simp] theorem State.blockWord_fq (s : State) (b : Bool) : (s.blockWord b).fq = s.fq := rfl
@[simp] theorem State.blockWord_fpuMode (s : State) (b : Bool) : (s.blockWord b).fpuMode = s.fpuMode := rfl
@[simp] theorem State.blockWord_pendingFp (s : State) (b : Bool) : (s.blockWord b).pendingFp = s.pendingFp := rfl
@[simp] theorem State.blockWord_cp (s : State) (b : Bool) : (s.blockWord b).cp = s.cp := rfl
@[simp] theorem State.blockWord_mmu (s : State) (b : Bool) : (s.blockWord b).mmu = s.mmu := rfl
@[simp] theorem State.blockWord_ibuf (s : State) (b : Bool) : (s.blockWord b).ibuf = s.ibuf := rfl
@[simp] theorem State.blockWord_io (s : State) (b : Bool) : (s.blockWord b).io = s.io := rfl
@[simp] theorem State.blockWord_ir (s : State) (b : Bool) : (s.blockWord b).ir = s.ir := rfl
@[simp] theorem State.blockWord_hzFcmp (s : State) (b : Bool) : (s.blockWord b).hzFcmp = s.hzFcmp := rfl
@[simp] theorem State.blockWord_hzLdfsr (s : State) (b : Bool) : (s.blockWord b).hzLdfsr = s.hzLdfsr := rfl
@[simp] theorem State.blockWord_freeCtr (s : State) (b : Bool) : (s.blockWord b).freeCtr = s.freeCtr := rfl
@[simp] theorem State.blockWord_mem (s : State) (b : Bool) : (s.blockWord b).mem = s.mem := rfl

@[simp] theorem State.setFtt_cfg (s : State) (t : BitVec 3) : (s.setFtt t).cfg = s.cfg := rfl
@[simp] theorem State.setFtt_globals (s : State) (t : BitVec 3) : (s.setFtt t).globals = s.globals := rfl
@[simp] theorem State.setFtt_windows (s : State) (t : BitVec 3) : (s.setFtt t).windows = s.windows := rfl
@[simp] theorem State.setFtt_pc (s : State) (t : BitVec 3) : (s.setFtt t).pc = s.pc := rfl
@[simp] theorem State.setFtt_npc (s : State) (t : BitVec 3) : (s.setFtt t).npc = s.npc := rfl
@[simp] theorem State.setFtt_psr (s : State) (t : BitVec 3) : (s.setFtt t).psr = s.psr := rfl
@[simp] theorem State.setFtt_wim (s : State) (t : BitVec 3) : (s.setFtt t).wim = s.wim := rfl
@[simp] theorem State.setFtt_tba (s : State) (t : BitVec 3) : (s.setFtt t).tba = s.tba := rfl
@[simp] theorem State.setFtt_tt (s : State) (t : BitVec 3) : (s.setFtt t).tt = s.tt := rfl
@[simp] theorem State.setFtt_y (s : State) (t : BitVec 3) : (s.setFtt t).y = s.y := rfl
@[simp] theorem State.setFtt_asr (s : State) (t : BitVec 3) : (s.setFtt t).asr = s.asr := rfl
@[simp] theorem State.setFtt_pending (s : State) (t : BitVec 3) : (s.setFtt t).pending = s.pending := rfl
@[simp] theorem State.setFtt_annul (s : State) (t : BitVec 3) : (s.setFtt t).annul = s.annul := rfl
@[simp] theorem State.setFtt_mode (s : State) (t : BitVec 3) : (s.setFtt t).mode = s.mode := rfl
@[simp] theorem State.setFtt_pbError (s : State) (t : BitVec 3) : (s.setFtt t).pbError = s.pbError := rfl
@[simp] theorem State.setFtt_requests (s : State) (t : BitVec 3) : (s.setFtt t).requests = s.requests := rfl
@[simp] theorem State.setFtt_raised (s : State) (t : BitVec 3) : (s.setFtt t).raised = s.raised := rfl
@[simp] theorem State.setFtt_storeBarrierPending (s : State) (t : BitVec 3) : (s.setFtt t).storeBarrierPending = s.storeBarrierPending := rfl
@[simp] theorem State.setFtt_pbBlockByte (s : State) (t : BitVec 3) : (s.setFtt t).pbBlockByte = s.pbBlockByte := rfl
@[simp] theorem State.setFtt_pbBlockWord (s : State) (t : BitVec 3) : (s.setFtt t).pbBlockWord = s.pbBlockWord := rfl
@[simp] theorem State.setFtt_lastWriteSync (s : State) (t : BitVec 3) : (s.setFtt t).lastWriteSync = s.lastWriteSync := rfl
@[simp] theorem State.setFtt_irl (s : State) (t : BitVec 3) : (s.setFtt t).irl = s.irl := rfl
@[simp] theorem State.setFtt_resetIn (s : State) (t : BitVec 3) : (s.setFtt t).resetIn = s.resetIn := rfl
@[simp] theorem State.setFtt_rRegisterError (s : State) (t : BitVec 3) : (s.setFtt t).rRegisterError = s.rRegisterError := rfl
@[simp] theorem State.setFtt_f (s : State) (t : BitVec 3) : (s.setFtt t).f = s.f := rfl
@[simp] theorem State.setFtt_fsr (s : State) (t : BitVec 3) : (s.setFtt t).fsr = { s.fsr with ftt := t } := rfl
@[simp] theorem State.setFtt_fq (s : State) (t : BitVec 3) : (s.setFtt t).fq = s.fq := rfl
@[simp] theorem State.setFtt_fpuMode (s : State) (t : BitVec 3) : (s.setFtt t).fpuMode = s.fpuMode := rfl
@[simp] theorem State.setFtt_pendingFp (s : State) (t : BitVec 3) : (s.setFtt t).pendingFp = s.pendingFp := rfl
@[simp] theorem State.setFtt_cp (s : State) (t : BitVec 3) : (s.setFtt t).cp = s.cp := rfl
@[simp] theorem State.setFtt_mmu (s : State) (t : BitVec 3) : (s.setFtt t).mmu = s.mmu := rfl
@[simp] theorem State.setFtt_ibuf (s : State) (t : BitVec 3) : (s.setFtt t).ibuf = s.ibuf := rfl
@[simp] theorem State.setFtt_io (s : State) (t : BitVec 3) : (s.setFtt t).io = s.io := rfl
@[simp] theorem State.setFtt_ir (s : State) (t : BitVec 3) : (s.setFtt t).ir = s.ir := rfl
@[simp] theorem State.setFtt_hzFcmp (s : State) (t : BitVec 3) : (s.setFtt t).hzFcmp = s.hzFcmp := rfl
@[simp] theorem State.setFtt_hzLdfsr (s : State) (t : BitVec 3) : (s.setFtt t).hzLdfsr = s.hzLdfsr := rfl
@[simp] theorem State.setFtt_freeCtr (s : State) (t : BitVec 3) : (s.setFtt t).freeCtr = s.freeCtr := rfl
@[simp] theorem State.setFtt_mem (s : State) (t : BitVec 3) : (s.setFtt t).mem = s.mem := rfl

@[simp] theorem State.sequenceError_cfg (s : State) : s.sequenceError.cfg = s.cfg := rfl
@[simp] theorem State.sequenceError_globals (s : State) : s.sequenceError.globals = s.globals := rfl
@[simp] theorem State.sequenceError_windows (s : State) : s.sequenceError.windows = s.windows := rfl
@[simp] theorem State.sequenceError_pc (s : State) : s.sequenceError.pc = s.pc := rfl
@[simp] theorem State.sequenceError_npc (s : State) : s.sequenceError.npc = s.npc := rfl
@[simp] theorem State.sequenceError_psr (s : State) : s.sequenceError.psr = s.psr := rfl
@[simp] theorem State.sequenceError_wim (s : State) : s.sequenceError.wim = s.wim := rfl
@[simp] theorem State.sequenceError_tba (s : State) : s.sequenceError.tba = s.tba := rfl
@[simp] theorem State.sequenceError_tt (s : State) : s.sequenceError.tt = s.tt := rfl
@[simp] theorem State.sequenceError_y (s : State) : s.sequenceError.y = s.y := rfl
@[simp] theorem State.sequenceError_asr (s : State) : s.sequenceError.asr = s.asr := rfl
@[simp] theorem State.sequenceError_pending (s : State) : s.sequenceError.pending = s.pending := rfl
@[simp] theorem State.sequenceError_annul (s : State) : s.sequenceError.annul = s.annul := rfl
@[simp] theorem State.sequenceError_mode (s : State) : s.sequenceError.mode = s.mode := rfl
@[simp] theorem State.sequenceError_pbError (s : State) : s.sequenceError.pbError = s.pbError := rfl
@[simp] theorem State.sequenceError_requests (s : State) : s.sequenceError.requests = s.requests := rfl
@[simp] theorem State.sequenceError_raised (s : State) : s.sequenceError.raised = s.raised := rfl
@[simp] theorem State.sequenceError_storeBarrierPending (s : State) : s.sequenceError.storeBarrierPending = s.storeBarrierPending := rfl
@[simp] theorem State.sequenceError_pbBlockByte (s : State) : s.sequenceError.pbBlockByte = s.pbBlockByte := rfl
@[simp] theorem State.sequenceError_pbBlockWord (s : State) : s.sequenceError.pbBlockWord = s.pbBlockWord := rfl
@[simp] theorem State.sequenceError_lastWriteSync (s : State) : s.sequenceError.lastWriteSync = s.lastWriteSync := rfl
@[simp] theorem State.sequenceError_irl (s : State) : s.sequenceError.irl = s.irl := rfl
@[simp] theorem State.sequenceError_resetIn (s : State) : s.sequenceError.resetIn = s.resetIn := rfl
@[simp] theorem State.sequenceError_rRegisterError (s : State) : s.sequenceError.rRegisterError = s.rRegisterError := rfl
@[simp] theorem State.sequenceError_f (s : State) : s.sequenceError.f = s.f := rfl
@[simp] theorem State.sequenceError_fsr (s : State) : s.sequenceError.fsr = { s.fsr with ftt := fttSequenceError } := rfl
@[simp] theorem State.sequenceError_fq (s : State) : s.sequenceError.fq = s.fq := rfl
@[simp] theorem State.sequenceError_fpuMode (s : State) : s.sequenceError.fpuMode = .exceptionPending := rfl
@[simp] theorem State.sequenceError_pendingFp (s : State) : s.sequenceError.pendingFp = none := rfl
@[simp] theorem State.sequenceError_cp (s : State) : s.sequenceError.cp = s.cp := rfl
@[simp] theorem State.sequenceError_mmu (s : State) : s.sequenceError.mmu = s.mmu := rfl
@[simp] theorem State.sequenceError_ibuf (s : State) : s.sequenceError.ibuf = s.ibuf := rfl
@[simp] theorem State.sequenceError_io (s : State) : s.sequenceError.io = s.io := rfl
@[simp] theorem State.sequenceError_ir (s : State) : s.sequenceError.ir = s.ir := rfl
@[simp] theorem State.sequenceError_hzFcmp (s : State) : s.sequenceError.hzFcmp = s.hzFcmp := rfl
@[simp] theorem State.sequenceError_hzLdfsr (s : State) : s.sequenceError.hzLdfsr = s.hzLdfsr := rfl
@[simp] theorem State.sequenceError_freeCtr (s : State) : s.sequenceError.freeCtr = s.freeCtr := rfl
@[simp] theorem State.sequenceError_mem (s : State) : s.sequenceError.mem = s.mem := rfl

@[simp] theorem State.setCexc_cfg (s : State) (x : BitVec 5) : (s.setCexc x).cfg = s.cfg := rfl
@[simp] theorem State.setCexc_globals (s : State) (x : BitVec 5) : (s.setCexc x).globals = s.globals := rfl
@[simp] theorem State.setCexc_windows (s : State) (x : BitVec 5) : (s.setCexc x).windows = s.windows := rfl
@[simp] theorem State.setCexc_pc (s : State) (x : BitVec 5) : (s.setCexc x).pc = s.pc := rfl
@[simp] theorem State.setCexc_npc (s : State) (x : BitVec 5) : (s.setCexc x).npc = s.npc := rfl
@[simp] theorem State.setCexc_psr (s : State) (x : BitVec 5) : (s.setCexc x).psr = s.psr := rfl
@[simp] theorem State.setCexc_wim (s : State) (x : BitVec 5) : (s.setCexc x).wim = s.wim := rfl
@[simp] theorem State.setCexc_tba (s : State) (x : BitVec 5) : (s.setCexc x).tba = s.tba := rfl
@[simp] theorem State.setCexc_tt (s : State) (x : BitVec 5) : (s.setCexc x).tt = s.tt := rfl
@[simp] theorem State.setCexc_y (s : State) (x : BitVec 5) : (s.setCexc x).y = s.y := rfl
@[simp] theorem State.setCexc_asr (s : State) (x : BitVec 5) : (s.setCexc x).asr = s.asr := rfl
@[simp] theorem State.setCexc_pending (s : State) (x : BitVec 5) : (s.setCexc x).pending = s.pending := rfl
@[simp] theorem State.setCexc_annul (s : State) (x : BitVec 5) : (s.setCexc x).annul = s.annul := rfl
@[simp] theorem State.setCexc_mode (s : State) (x : BitVec 5) : (s.setCexc x).mode = s.mode := rfl
@[simp] theorem State.setCexc_pbError (s : State) (x : BitVec 5) : (s.setCexc x).pbError = s.pbError := rfl
@[simp] theorem State.setCexc_requests (s : State) (x : BitVec 5) : (s.setCexc x).requests = s.requests := rfl
@[simp] theorem State.setCexc_raised (s : State) (x : BitVec 5) : (s.setCexc x).raised = s.raised := rfl
@[simp] theorem State.setCexc_storeBarrierPending (s : State) (x : BitVec 5) : (s.setCexc x).storeBarrierPending = s.storeBarrierPending := rfl
@[simp] theorem State.setCexc_pbBlockByte (s : State) (x : BitVec 5) : (s.setCexc x).pbBlockByte = s.pbBlockByte := rfl
@[simp] theorem State.setCexc_pbBlockWord (s : State) (x : BitVec 5) : (s.setCexc x).pbBlockWord = s.pbBlockWord := rfl
@[simp] theorem State.setCexc_lastWriteSync (s : State) (x : BitVec 5) : (s.setCexc x).lastWriteSync = s.lastWriteSync := rfl
@[simp] theorem State.setCexc_irl (s : State) (x : BitVec 5) : (s.setCexc x).irl = s.irl := rfl
@[simp] theorem State.setCexc_resetIn (s : State) (x : BitVec 5) : (s.setCexc x).resetIn = s.resetIn := rfl
@[simp] theorem State.setCexc_rRegisterError (s : State) (x : BitVec 5) : (s.setCexc x).rRegisterError = s.rRegisterError := rfl
@[simp] theorem State.setCexc_f (s : State) (x : BitVec 5) : (s.setCexc x).f = s.f := rfl
@[simp] theorem State.setCexc_fsr (s : State) (x : BitVec 5) : (s.setCexc x).fsr = { s.fsr with cexc := x } := rfl
@[simp] theorem State.setCexc_fq (s : State) (x : BitVec 5) : (s.setCexc x).fq = s.fq := rfl
@[simp] theorem State.setCexc_fpuMode (s : State) (x : BitVec 5) : (s.setCexc x).fpuMode = s.fpuMode := rfl
@[simp] theorem State.setCexc_pendingFp (s : State) (x : BitVec 5) : (s.setCexc x).pendingFp = s.pendingFp := rfl
@[simp] theorem State.setCexc_cp (s : State) (x : BitVec 5) : (s.setCexc x).cp = s.cp := rfl
@[simp] theorem State.setCexc_mmu (s : State) (x : BitVec 5) : (s.setCexc x).mmu = s.mmu := rfl
@[simp] theorem State.setCexc_ibuf (s : State) (x : BitVec 5) : (s.setCexc x).ibuf = s.ibuf := rfl
@[simp] theorem State.setCexc_io (s : State) (x : BitVec 5) : (s.setCexc x).io = s.io := rfl
@[simp] theorem State.setCexc_ir (s : State) (x : BitVec 5) : (s.setCexc x).ir = s.ir := rfl
@[simp] theorem State.setCexc_hzFcmp (s : State) (x : BitVec 5) : (s.setCexc x).hzFcmp = s.hzFcmp := rfl
@[simp] theorem State.setCexc_hzLdfsr (s : State) (x : BitVec 5) : (s.setCexc x).hzLdfsr = s.hzLdfsr := rfl
@[simp] theorem State.setCexc_freeCtr (s : State) (x : BitVec 5) : (s.setCexc x).freeCtr = s.freeCtr := rfl
@[simp] theorem State.setCexc_mem (s : State) (x : BitVec 5) : (s.setCexc x).mem = s.mem := rfl

@[simp] theorem State.completeFsr_cfg (s : State) (x : BitVec 5) : (s.completeFsr x).cfg = s.cfg := rfl
@[simp] theorem State.completeFsr_globals (s : State) (x : BitVec 5) : (s.completeFsr x).globals = s.globals := rfl
@[simp] theorem State.completeFsr_windows (s : State) (x : BitVec 5) : (s.completeFsr x).windows = s.windows := rfl
@[simp] theorem State.completeFsr_pc (s : State) (x : BitVec 5) : (s.completeFsr x).pc = s.pc := rfl
@[simp] theorem State.completeFsr_npc (s : State) (x : BitVec 5) : (s.completeFsr x).npc = s.npc := rfl
@[simp] theorem State.completeFsr_psr (s : State) (x : BitVec 5) : (s.completeFsr x).psr = s.psr := rfl
@[simp] theorem State.completeFsr_wim (s : State) (x : BitVec 5) : (s.completeFsr x).wim = s.wim := rfl
@[simp] theorem State.completeFsr_tba (s : State) (x : BitVec 5) : (s.completeFsr x).tba = s.tba := rfl
@[simp] theorem State.completeFsr_tt (s : State) (x : BitVec 5) : (s.completeFsr x).tt = s.tt := rfl
@[simp] theorem State.completeFsr_y (s : State) (x : BitVec 5) : (s.completeFsr x).y = s.y := rfl
@[simp] theorem State.completeFsr_asr (s : State) (x : BitVec 5) : (s.completeFsr x).asr = s.asr := rfl
@[simp] theorem State.completeFsr_pending (s : State) (x : BitVec 5) : (s.completeFsr x).pending = s.pending := rfl
@[simp] theorem State.completeFsr_annul (s : State) (x : BitVec 5) : (s.completeFsr x).annul = s.annul := rfl
@[simp] theorem State.completeFsr_mode (s : State) (x : BitVec 5) : (s.completeFsr x).mode = s.mode := rfl
@[simp] theorem State.completeFsr_pbError (s : State) (x : BitVec 5) : (s.completeFsr x).pbError = s.pbError := rfl
@[simp] theorem State.completeFsr_requests (s : State) (x : BitVec 5) : (s.completeFsr x).requests = s.requests := rfl
@[simp] theorem State.completeFsr_raised (s : State) (x : BitVec 5) : (s.completeFsr x).raised = s.raised := rfl
@[simp] theorem State.completeFsr_storeBarrierPending (s : State) (x : BitVec 5) : (s.completeFsr x).storeBarrierPending = s.storeBarrierPending := rfl
@[simp] theorem State.completeFsr_pbBlockByte (s : State) (x : BitVec 5) : (s.completeFsr x).pbBlockByte = s.pbBlockByte := rfl
@[simp] theorem State.completeFsr_pbBlockWord (s : State) (x : BitVec 5) : (s.completeFsr x).pbBlockWord = s.pbBlockWord := rfl
@[simp] theorem State.completeFsr_lastWriteSync (s : State) (x : BitVec 5) : (s.completeFsr x).lastWriteSync = s.lastWriteSync := rfl
@[simp] theorem State.completeFsr_irl (s : State) (x : BitVec 5) : (s.completeFsr x).irl = s.irl := rfl
@[simp] theorem State.completeFsr_resetIn (s : State) (x : BitVec 5) : (s.completeFsr x).resetIn = s.resetIn := rfl
@[simp] theorem State.completeFsr_rRegisterError (s : State) (x : BitVec 5) : (s.completeFsr x).rRegisterError = s.rRegisterError := rfl
@[simp] theorem State.completeFsr_f (s : State) (x : BitVec 5) : (s.completeFsr x).f = s.f := rfl
@[simp] theorem State.completeFsr_fsr (s : State) (x : BitVec 5) : (s.completeFsr x).fsr = { s.fsr with cexc := x, aexc := s.fsr.aexc ||| x, ftt := 0#3 } := rfl
@[simp] theorem State.completeFsr_fq (s : State) (x : BitVec 5) : (s.completeFsr x).fq = s.fq := rfl
@[simp] theorem State.completeFsr_fpuMode (s : State) (x : BitVec 5) : (s.completeFsr x).fpuMode = s.fpuMode := rfl
@[simp] theorem State.completeFsr_pendingFp (s : State) (x : BitVec 5) : (s.completeFsr x).pendingFp = s.pendingFp := rfl
@[simp] theorem State.completeFsr_cp (s : State) (x : BitVec 5) : (s.completeFsr x).cp = s.cp := rfl
@[simp] theorem State.completeFsr_mmu (s : State) (x : BitVec 5) : (s.completeFsr x).mmu = s.mmu := rfl
@[simp] theorem State.completeFsr_ibuf (s : State) (x : BitVec 5) : (s.completeFsr x).ibuf = s.ibuf := rfl
@[simp] theorem State.completeFsr_io (s : State) (x : BitVec 5) : (s.completeFsr x).io = s.io := rfl
@[simp] theorem State.completeFsr_ir (s : State) (x : BitVec 5) : (s.completeFsr x).ir = s.ir := rfl
@[simp] theorem State.completeFsr_hzFcmp (s : State) (x : BitVec 5) : (s.completeFsr x).hzFcmp = s.hzFcmp := rfl
@[simp] theorem State.completeFsr_hzLdfsr (s : State) (x : BitVec 5) : (s.completeFsr x).hzLdfsr = s.hzLdfsr := rfl
@[simp] theorem State.completeFsr_freeCtr (s : State) (x : BitVec 5) : (s.completeFsr x).freeCtr = s.freeCtr := rfl
@[simp] theorem State.completeFsr_mem (s : State) (x : BitVec 5) : (s.completeFsr x).mem = s.mem := rfl

@[simp] theorem State.setFcc_cfg (s : State) (c : BitVec 2) : (s.setFcc c).cfg = s.cfg := rfl
@[simp] theorem State.setFcc_globals (s : State) (c : BitVec 2) : (s.setFcc c).globals = s.globals := rfl
@[simp] theorem State.setFcc_windows (s : State) (c : BitVec 2) : (s.setFcc c).windows = s.windows := rfl
@[simp] theorem State.setFcc_pc (s : State) (c : BitVec 2) : (s.setFcc c).pc = s.pc := rfl
@[simp] theorem State.setFcc_npc (s : State) (c : BitVec 2) : (s.setFcc c).npc = s.npc := rfl
@[simp] theorem State.setFcc_psr (s : State) (c : BitVec 2) : (s.setFcc c).psr = s.psr := rfl
@[simp] theorem State.setFcc_wim (s : State) (c : BitVec 2) : (s.setFcc c).wim = s.wim := rfl
@[simp] theorem State.setFcc_tba (s : State) (c : BitVec 2) : (s.setFcc c).tba = s.tba := rfl
@[simp] theorem State.setFcc_tt (s : State) (c : BitVec 2) : (s.setFcc c).tt = s.tt := rfl
@[simp] theorem State.setFcc_y (s : State) (c : BitVec 2) : (s.setFcc c).y = s.y := rfl
@[simp] theorem State.setFcc_asr (s : State) (c : BitVec 2) : (s.setFcc c).asr = s.asr := rfl
@[simp] theorem State.setFcc_pending (s : State) (c : BitVec 2) : (s.setFcc c).pending = s.pending := rfl
@[simp] theorem State.setFcc_annul (s : State) (c : BitVec 2) : (s.setFcc c).annul = s.annul := rfl
@[simp] theorem State.setFcc_mode (s : State) (c : BitVec 2) : (s.setFcc c).mode = s.mode := rfl
@[simp] theorem State.setFcc_pbError (s : State) (c : BitVec 2) : (s.setFcc c).pbError = s.pbError := rfl
@[simp] theorem State.setFcc_requests (s : State) (c : BitVec 2) : (s.setFcc c).requests = s.requests := rfl
@[simp] theorem State.setFcc_raised (s : State) (c : BitVec 2) : (s.setFcc c).raised = s.raised := rfl
@[simp] theorem State.setFcc_storeBarrierPending (s : State) (c : BitVec 2) : (s.setFcc c).storeBarrierPending = s.storeBarrierPending := rfl
@[simp] theorem State.setFcc_pbBlockByte (s : State) (c : BitVec 2) : (s.setFcc c).pbBlockByte = s.pbBlockByte := rfl
@[simp] theorem State.setFcc_pbBlockWord (s : State) (c : BitVec 2) : (s.setFcc c).pbBlockWord = s.pbBlockWord := rfl
@[simp] theorem State.setFcc_lastWriteSync (s : State) (c : BitVec 2) : (s.setFcc c).lastWriteSync = s.lastWriteSync := rfl
@[simp] theorem State.setFcc_irl (s : State) (c : BitVec 2) : (s.setFcc c).irl = s.irl := rfl
@[simp] theorem State.setFcc_resetIn (s : State) (c : BitVec 2) : (s.setFcc c).resetIn = s.resetIn := rfl
@[simp] theorem State.setFcc_rRegisterError (s : State) (c : BitVec 2) : (s.setFcc c).rRegisterError = s.rRegisterError := rfl
@[simp] theorem State.setFcc_f (s : State) (c : BitVec 2) : (s.setFcc c).f = s.f := rfl
@[simp] theorem State.setFcc_fsr (s : State) (c : BitVec 2) : (s.setFcc c).fsr = { s.fsr with fcc := c } := rfl
@[simp] theorem State.setFcc_fq (s : State) (c : BitVec 2) : (s.setFcc c).fq = s.fq := rfl
@[simp] theorem State.setFcc_fpuMode (s : State) (c : BitVec 2) : (s.setFcc c).fpuMode = s.fpuMode := rfl
@[simp] theorem State.setFcc_pendingFp (s : State) (c : BitVec 2) : (s.setFcc c).pendingFp = s.pendingFp := rfl
@[simp] theorem State.setFcc_cp (s : State) (c : BitVec 2) : (s.setFcc c).cp = s.cp := rfl
@[simp] theorem State.setFcc_mmu (s : State) (c : BitVec 2) : (s.setFcc c).mmu = s.mmu := rfl
@[simp] theorem State.setFcc_ibuf (s : State) (c : BitVec 2) : (s.setFcc c).ibuf = s.ibuf := rfl
@[simp] theorem State.setFcc_io (s : State) (c : BitVec 2) : (s.setFcc c).io = s.io := rfl
@[simp] theorem State.setFcc_ir (s : State) (c : BitVec 2) : (s.setFcc c).ir = s.ir := rfl
@[simp] theorem State.setFcc_hzFcmp (s : State) (c : BitVec 2) : (s.setFcc c).hzFcmp = 2 := rfl
@[simp] theorem State.setFcc_hzLdfsr (s : State) (c : BitVec 2) : (s.setFcc c).hzLdfsr = s.hzLdfsr := rfl
@[simp] theorem State.setFcc_freeCtr (s : State) (c : BitVec 2) : (s.setFcc c).freeCtr = s.freeCtr := rfl
@[simp] theorem State.setFcc_mem (s : State) (c : BitVec 2) : (s.setFcc c).mem = s.mem := rfl

@[simp] theorem State.fccLoaded_cfg (s : State) : s.fccLoaded.cfg = s.cfg := rfl
@[simp] theorem State.fccLoaded_globals (s : State) : s.fccLoaded.globals = s.globals := rfl
@[simp] theorem State.fccLoaded_windows (s : State) : s.fccLoaded.windows = s.windows := rfl
@[simp] theorem State.fccLoaded_pc (s : State) : s.fccLoaded.pc = s.pc := rfl
@[simp] theorem State.fccLoaded_npc (s : State) : s.fccLoaded.npc = s.npc := rfl
@[simp] theorem State.fccLoaded_psr (s : State) : s.fccLoaded.psr = s.psr := rfl
@[simp] theorem State.fccLoaded_wim (s : State) : s.fccLoaded.wim = s.wim := rfl
@[simp] theorem State.fccLoaded_tba (s : State) : s.fccLoaded.tba = s.tba := rfl
@[simp] theorem State.fccLoaded_tt (s : State) : s.fccLoaded.tt = s.tt := rfl
@[simp] theorem State.fccLoaded_y (s : State) : s.fccLoaded.y = s.y := rfl
@[simp] theorem State.fccLoaded_asr (s : State) : s.fccLoaded.asr = s.asr := rfl
@[simp] theorem State.fccLoaded_pending (s : State) : s.fccLoaded.pending = s.pending := rfl
@[simp] theorem State.fccLoaded_annul (s : State) : s.fccLoaded.annul = s.annul := rfl
@[simp] theorem State.fccLoaded_mode (s : State) : s.fccLoaded.mode = s.mode := rfl
@[simp] theorem State.fccLoaded_pbError (s : State) : s.fccLoaded.pbError = s.pbError := rfl
@[simp] theorem State.fccLoaded_requests (s : State) : s.fccLoaded.requests = s.requests := rfl
@[simp] theorem State.fccLoaded_raised (s : State) : s.fccLoaded.raised = s.raised := rfl
@[simp] theorem State.fccLoaded_storeBarrierPending (s : State) : s.fccLoaded.storeBarrierPending = s.storeBarrierPending := rfl
@[simp] theorem State.fccLoaded_pbBlockByte (s : State) : s.fccLoaded.pbBlockByte = s.pbBlockByte := rfl
@[simp] theorem State.fccLoaded_pbBlockWord (s : State) : s.fccLoaded.pbBlockWord = s.pbBlockWord := rfl
@[simp] theorem State.fccLoaded_lastWriteSync (s : State) : s.fccLoaded.lastWriteSync = s.lastWriteSync := rfl
@[simp] theorem State.fccLoaded_irl (s : State) : s.fccLoaded.irl = s.irl := rfl
@[simp] theorem State.fccLoaded_resetIn (s : State) : s.fccLoaded.resetIn = s.resetIn := rfl
@[simp] theorem State.fccLoaded_rRegisterError (s : State) : s.fccLoaded.rRegisterError = s.rRegisterError := rfl
@[simp] theorem State.fccLoaded_f (s : State) : s.fccLoaded.f = s.f := rfl
@[simp] theorem State.fccLoaded_fsr (s : State) : s.fccLoaded.fsr = s.fsr := rfl
@[simp] theorem State.fccLoaded_fq (s : State) : s.fccLoaded.fq = s.fq := rfl
@[simp] theorem State.fccLoaded_fpuMode (s : State) : s.fccLoaded.fpuMode = s.fpuMode := rfl
@[simp] theorem State.fccLoaded_pendingFp (s : State) : s.fccLoaded.pendingFp = s.pendingFp := rfl
@[simp] theorem State.fccLoaded_cp (s : State) : s.fccLoaded.cp = s.cp := rfl
@[simp] theorem State.fccLoaded_mmu (s : State) : s.fccLoaded.mmu = s.mmu := rfl
@[simp] theorem State.fccLoaded_ibuf (s : State) : s.fccLoaded.ibuf = s.ibuf := rfl
@[simp] theorem State.fccLoaded_io (s : State) : s.fccLoaded.io = s.io := rfl
@[simp] theorem State.fccLoaded_ir (s : State) : s.fccLoaded.ir = s.ir := rfl
@[simp] theorem State.fccLoaded_hzFcmp (s : State) : s.fccLoaded.hzFcmp = s.hzFcmp := rfl
@[simp] theorem State.fccLoaded_hzLdfsr (s : State) : s.fccLoaded.hzLdfsr = 4 := rfl
@[simp] theorem State.fccLoaded_freeCtr (s : State) : s.fccLoaded.freeCtr = s.freeCtr := rfl
@[simp] theorem State.fccLoaded_mem (s : State) : s.fccLoaded.mem = s.mem := rfl

@[simp] theorem State.popFq_cfg (s : State) : s.popFq.cfg = s.cfg := rfl
@[simp] theorem State.popFq_globals (s : State) : s.popFq.globals = s.globals := rfl
@[simp] theorem State.popFq_windows (s : State) : s.popFq.windows = s.windows := rfl
@[simp] theorem State.popFq_pc (s : State) : s.popFq.pc = s.pc := rfl
@[simp] theorem State.popFq_npc (s : State) : s.popFq.npc = s.npc := rfl
@[simp] theorem State.popFq_psr (s : State) : s.popFq.psr = s.psr := rfl
@[simp] theorem State.popFq_wim (s : State) : s.popFq.wim = s.wim := rfl
@[simp] theorem State.popFq_tba (s : State) : s.popFq.tba = s.tba := rfl
@[simp] theorem State.popFq_tt (s : State) : s.popFq.tt = s.tt := rfl
@[simp] theorem State.popFq_y (s : State) : s.popFq.y = s.y := rfl
@[simp] theorem State.popFq_asr (s : State) : s.popFq.asr = s.asr := rfl
@[simp] theorem State.popFq_pending (s : State) : s.popFq.pending = s.pending := rfl
@[simp] theorem State.popFq_annul (s : State) : s.popFq.annul = s.annul := rfl
@[simp] theorem State.popFq_mode (s : State) : s.popFq.mode = s.mode := rfl
@[simp] theorem State.popFq_pbError (s : State) : s.popFq.pbError = s.pbError := rfl
@[simp] theorem State.popFq_requests (s : State) : s.popFq.requests = s.requests := rfl
@[simp] theorem State.popFq_raised (s : State) : s.popFq.raised = s.raised := rfl
@[simp] theorem State.popFq_storeBarrierPending (s : State) : s.popFq.storeBarrierPending = s.storeBarrierPending := rfl
@[simp] theorem State.popFq_pbBlockByte (s : State) : s.popFq.pbBlockByte = s.pbBlockByte := rfl
@[simp] theorem State.popFq_pbBlockWord (s : State) : s.popFq.pbBlockWord = s.pbBlockWord := rfl
@[simp] theorem State.popFq_lastWriteSync (s : State) : s.popFq.lastWriteSync = s.lastWriteSync := rfl
@[simp] theorem State.popFq_irl (s : State) : s.popFq.irl = s.irl := rfl
@[simp] theorem State.popFq_resetIn (s : State) : s.popFq.resetIn = s.resetIn := rfl
@[simp] theorem State.popFq_rRegisterError (s : State) : s.popFq.rRegisterError = s.rRegisterError := rfl
@[simp] theorem State.popFq_f (s : State) : s.popFq.f = s.f := rfl
@[simp] theorem State.popFq_fsr (s : State) : s.popFq.fsr = s.fsr := rfl
@[simp] theorem State.popFq_fq (s : State) : s.popFq.fq = s.fq.tail := rfl
@[simp] theorem State.popFq_pendingFp (s : State) : s.popFq.pendingFp = s.pendingFp := rfl
@[simp] theorem State.popFq_cp (s : State) : s.popFq.cp = s.cp := rfl
@[simp] theorem State.popFq_mmu (s : State) : s.popFq.mmu = s.mmu := rfl
@[simp] theorem State.popFq_ibuf (s : State) : s.popFq.ibuf = s.ibuf := rfl
@[simp] theorem State.popFq_io (s : State) : s.popFq.io = s.io := rfl
@[simp] theorem State.popFq_ir (s : State) : s.popFq.ir = s.ir := rfl
@[simp] theorem State.popFq_hzFcmp (s : State) : s.popFq.hzFcmp = s.hzFcmp := rfl
@[simp] theorem State.popFq_hzLdfsr (s : State) : s.popFq.hzLdfsr = s.hzLdfsr := rfl
@[simp] theorem State.popFq_freeCtr (s : State) : s.popFq.freeCtr = s.freeCtr := rfl
@[simp] theorem State.popFq_mem (s : State) : s.popFq.mem = s.mem := rfl

@[simp] theorem State.setCplace_cfg (s : State) (p : CpPlace) (w : Word) : (s.setCplace p w).cfg = s.cfg := rfl
@[simp] theorem State.setCplace_globals (s : State) (p : CpPlace) (w : Word) : (s.setCplace p w).globals = s.globals := rfl
@[simp] theorem State.setCplace_windows (s : State) (p : CpPlace) (w : Word) : (s.setCplace p w).windows = s.windows := rfl
@[simp] theorem State.setCplace_pc (s : State) (p : CpPlace) (w : Word) : (s.setCplace p w).pc = s.pc := rfl
@[simp] theorem State.setCplace_npc (s : State) (p : CpPlace) (w : Word) : (s.setCplace p w).npc = s.npc := rfl
@[simp] theorem State.setCplace_psr (s : State) (p : CpPlace) (w : Word) : (s.setCplace p w).psr = s.psr := rfl
@[simp] theorem State.setCplace_wim (s : State) (p : CpPlace) (w : Word) : (s.setCplace p w).wim = s.wim := rfl
@[simp] theorem State.setCplace_tba (s : State) (p : CpPlace) (w : Word) : (s.setCplace p w).tba = s.tba := rfl
@[simp] theorem State.setCplace_tt (s : State) (p : CpPlace) (w : Word) : (s.setCplace p w).tt = s.tt := rfl
@[simp] theorem State.setCplace_y (s : State) (p : CpPlace) (w : Word) : (s.setCplace p w).y = s.y := rfl
@[simp] theorem State.setCplace_asr (s : State) (p : CpPlace) (w : Word) : (s.setCplace p w).asr = s.asr := rfl
@[simp] theorem State.setCplace_pending (s : State) (p : CpPlace) (w : Word) : (s.setCplace p w).pending = s.pending := rfl
@[simp] theorem State.setCplace_annul (s : State) (p : CpPlace) (w : Word) : (s.setCplace p w).annul = s.annul := rfl
@[simp] theorem State.setCplace_mode (s : State) (p : CpPlace) (w : Word) : (s.setCplace p w).mode = s.mode := rfl
@[simp] theorem State.setCplace_pbError (s : State) (p : CpPlace) (w : Word) : (s.setCplace p w).pbError = s.pbError := rfl
@[simp] theorem State.setCplace_requests (s : State) (p : CpPlace) (w : Word) : (s.setCplace p w).requests = s.requests := rfl
@[simp] theorem State.setCplace_raised (s : State) (p : CpPlace) (w : Word) : (s.setCplace p w).raised = s.raised := rfl
@[simp] theorem State.setCplace_storeBarrierPending (s : State) (p : CpPlace) (w : Word) : (s.setCplace p w).storeBarrierPending = s.storeBarrierPending := rfl
@[simp] theorem State.setCplace_pbBlockByte (s : State) (p : CpPlace) (w : Word) : (s.setCplace p w).pbBlockByte = s.pbBlockByte := rfl
@[simp] theorem State.setCplace_pbBlockWord (s : State) (p : CpPlace) (w : Word) : (s.setCplace p w).pbBlockWord = s.pbBlockWord := rfl
@[simp] theorem State.setCplace_lastWriteSync (s : State) (p : CpPlace) (w : Word) : (s.setCplace p w).lastWriteSync = s.lastWriteSync := rfl
@[simp] theorem State.setCplace_irl (s : State) (p : CpPlace) (w : Word) : (s.setCplace p w).irl = s.irl := rfl
@[simp] theorem State.setCplace_resetIn (s : State) (p : CpPlace) (w : Word) : (s.setCplace p w).resetIn = s.resetIn := rfl
@[simp] theorem State.setCplace_rRegisterError (s : State) (p : CpPlace) (w : Word) : (s.setCplace p w).rRegisterError = s.rRegisterError := rfl
@[simp] theorem State.setCplace_f (s : State) (p : CpPlace) (w : Word) : (s.setCplace p w).f = s.f := rfl
@[simp] theorem State.setCplace_fsr (s : State) (p : CpPlace) (w : Word) : (s.setCplace p w).fsr = s.fsr := rfl
@[simp] theorem State.setCplace_fq (s : State) (p : CpPlace) (w : Word) : (s.setCplace p w).fq = s.fq := rfl
@[simp] theorem State.setCplace_fpuMode (s : State) (p : CpPlace) (w : Word) : (s.setCplace p w).fpuMode = s.fpuMode := rfl
@[simp] theorem State.setCplace_pendingFp (s : State) (p : CpPlace) (w : Word) : (s.setCplace p w).pendingFp = s.pendingFp := rfl
@[simp] theorem State.setCplace_cp (s : State) (p : CpPlace) (w : Word) : (s.setCplace p w).cp = { s.cp with state := Config.cpLoadWord p w s.cp.state } := rfl
@[simp] theorem State.setCplace_mmu (s : State) (p : CpPlace) (w : Word) : (s.setCplace p w).mmu = s.mmu := rfl
@[simp] theorem State.setCplace_ibuf (s : State) (p : CpPlace) (w : Word) : (s.setCplace p w).ibuf = s.ibuf := rfl
@[simp] theorem State.setCplace_io (s : State) (p : CpPlace) (w : Word) : (s.setCplace p w).io = s.io := rfl
@[simp] theorem State.setCplace_ir (s : State) (p : CpPlace) (w : Word) : (s.setCplace p w).ir = s.ir := rfl
@[simp] theorem State.setCplace_hzFcmp (s : State) (p : CpPlace) (w : Word) : (s.setCplace p w).hzFcmp = s.hzFcmp := rfl
@[simp] theorem State.setCplace_hzLdfsr (s : State) (p : CpPlace) (w : Word) : (s.setCplace p w).hzLdfsr = s.hzLdfsr := rfl
@[simp] theorem State.setCplace_freeCtr (s : State) (p : CpPlace) (w : Word) : (s.setCplace p w).freeCtr = s.freeCtr := rfl
@[simp] theorem State.setCplace_mem (s : State) (p : CpPlace) (w : Word) : (s.setCplace p w).mem = s.mem := rfl

@[simp] theorem State.popCq_cfg (s : State) : s.popCq.cfg = s.cfg := rfl
@[simp] theorem State.popCq_globals (s : State) : s.popCq.globals = s.globals := rfl
@[simp] theorem State.popCq_windows (s : State) : s.popCq.windows = s.windows := rfl
@[simp] theorem State.popCq_pc (s : State) : s.popCq.pc = s.pc := rfl
@[simp] theorem State.popCq_npc (s : State) : s.popCq.npc = s.npc := rfl
@[simp] theorem State.popCq_psr (s : State) : s.popCq.psr = s.psr := rfl
@[simp] theorem State.popCq_wim (s : State) : s.popCq.wim = s.wim := rfl
@[simp] theorem State.popCq_tba (s : State) : s.popCq.tba = s.tba := rfl
@[simp] theorem State.popCq_tt (s : State) : s.popCq.tt = s.tt := rfl
@[simp] theorem State.popCq_y (s : State) : s.popCq.y = s.y := rfl
@[simp] theorem State.popCq_asr (s : State) : s.popCq.asr = s.asr := rfl
@[simp] theorem State.popCq_pending (s : State) : s.popCq.pending = s.pending := rfl
@[simp] theorem State.popCq_annul (s : State) : s.popCq.annul = s.annul := rfl
@[simp] theorem State.popCq_mode (s : State) : s.popCq.mode = s.mode := rfl
@[simp] theorem State.popCq_pbError (s : State) : s.popCq.pbError = s.pbError := rfl
@[simp] theorem State.popCq_requests (s : State) : s.popCq.requests = s.requests := rfl
@[simp] theorem State.popCq_raised (s : State) : s.popCq.raised = s.raised := rfl
@[simp] theorem State.popCq_storeBarrierPending (s : State) : s.popCq.storeBarrierPending = s.storeBarrierPending := rfl
@[simp] theorem State.popCq_pbBlockByte (s : State) : s.popCq.pbBlockByte = s.pbBlockByte := rfl
@[simp] theorem State.popCq_pbBlockWord (s : State) : s.popCq.pbBlockWord = s.pbBlockWord := rfl
@[simp] theorem State.popCq_lastWriteSync (s : State) : s.popCq.lastWriteSync = s.lastWriteSync := rfl
@[simp] theorem State.popCq_irl (s : State) : s.popCq.irl = s.irl := rfl
@[simp] theorem State.popCq_resetIn (s : State) : s.popCq.resetIn = s.resetIn := rfl
@[simp] theorem State.popCq_rRegisterError (s : State) : s.popCq.rRegisterError = s.rRegisterError := rfl
@[simp] theorem State.popCq_f (s : State) : s.popCq.f = s.f := rfl
@[simp] theorem State.popCq_fsr (s : State) : s.popCq.fsr = s.fsr := rfl
@[simp] theorem State.popCq_fq (s : State) : s.popCq.fq = s.fq := rfl
@[simp] theorem State.popCq_fpuMode (s : State) : s.popCq.fpuMode = s.fpuMode := rfl
@[simp] theorem State.popCq_pendingFp (s : State) : s.popCq.pendingFp = s.pendingFp := rfl
@[simp] theorem State.popCq_cp (s : State) : s.popCq.cp = { s.cp with state := Config.cpQueuePop s.cp.state } := rfl
@[simp] theorem State.popCq_mmu (s : State) : s.popCq.mmu = s.mmu := rfl
@[simp] theorem State.popCq_ibuf (s : State) : s.popCq.ibuf = s.ibuf := rfl
@[simp] theorem State.popCq_io (s : State) : s.popCq.io = s.io := rfl
@[simp] theorem State.popCq_ir (s : State) : s.popCq.ir = s.ir := rfl
@[simp] theorem State.popCq_hzFcmp (s : State) : s.popCq.hzFcmp = s.hzFcmp := rfl
@[simp] theorem State.popCq_hzLdfsr (s : State) : s.popCq.hzLdfsr = s.hzLdfsr := rfl
@[simp] theorem State.popCq_freeCtr (s : State) : s.popCq.freeCtr = s.freeCtr := rfl
@[simp] theorem State.popCq_mem (s : State) : s.popCq.mem = s.mem := rfl

@[simp] theorem State.storeKey_cfg (s : State) (k : Nat) (mask : BitVec 4) (data : Word) : (s.storeKey k mask data).cfg = s.cfg := rfl
@[simp] theorem State.storeKey_globals (s : State) (k : Nat) (mask : BitVec 4) (data : Word) : (s.storeKey k mask data).globals = s.globals := rfl
@[simp] theorem State.storeKey_windows (s : State) (k : Nat) (mask : BitVec 4) (data : Word) : (s.storeKey k mask data).windows = s.windows := rfl
@[simp] theorem State.storeKey_pc (s : State) (k : Nat) (mask : BitVec 4) (data : Word) : (s.storeKey k mask data).pc = s.pc := rfl
@[simp] theorem State.storeKey_npc (s : State) (k : Nat) (mask : BitVec 4) (data : Word) : (s.storeKey k mask data).npc = s.npc := rfl
@[simp] theorem State.storeKey_psr (s : State) (k : Nat) (mask : BitVec 4) (data : Word) : (s.storeKey k mask data).psr = s.psr := rfl
@[simp] theorem State.storeKey_wim (s : State) (k : Nat) (mask : BitVec 4) (data : Word) : (s.storeKey k mask data).wim = s.wim := rfl
@[simp] theorem State.storeKey_tba (s : State) (k : Nat) (mask : BitVec 4) (data : Word) : (s.storeKey k mask data).tba = s.tba := rfl
@[simp] theorem State.storeKey_tt (s : State) (k : Nat) (mask : BitVec 4) (data : Word) : (s.storeKey k mask data).tt = s.tt := rfl
@[simp] theorem State.storeKey_y (s : State) (k : Nat) (mask : BitVec 4) (data : Word) : (s.storeKey k mask data).y = s.y := rfl
@[simp] theorem State.storeKey_asr (s : State) (k : Nat) (mask : BitVec 4) (data : Word) : (s.storeKey k mask data).asr = s.asr := rfl
@[simp] theorem State.storeKey_pending (s : State) (k : Nat) (mask : BitVec 4) (data : Word) : (s.storeKey k mask data).pending = s.pending := rfl
@[simp] theorem State.storeKey_annul (s : State) (k : Nat) (mask : BitVec 4) (data : Word) : (s.storeKey k mask data).annul = s.annul := rfl
@[simp] theorem State.storeKey_mode (s : State) (k : Nat) (mask : BitVec 4) (data : Word) : (s.storeKey k mask data).mode = s.mode := rfl
@[simp] theorem State.storeKey_pbError (s : State) (k : Nat) (mask : BitVec 4) (data : Word) : (s.storeKey k mask data).pbError = s.pbError := rfl
@[simp] theorem State.storeKey_requests (s : State) (k : Nat) (mask : BitVec 4) (data : Word) : (s.storeKey k mask data).requests = s.requests := rfl
@[simp] theorem State.storeKey_raised (s : State) (k : Nat) (mask : BitVec 4) (data : Word) : (s.storeKey k mask data).raised = s.raised := rfl
@[simp] theorem State.storeKey_storeBarrierPending (s : State) (k : Nat) (mask : BitVec 4) (data : Word) : (s.storeKey k mask data).storeBarrierPending = s.storeBarrierPending := rfl
@[simp] theorem State.storeKey_pbBlockByte (s : State) (k : Nat) (mask : BitVec 4) (data : Word) : (s.storeKey k mask data).pbBlockByte = s.pbBlockByte := rfl
@[simp] theorem State.storeKey_pbBlockWord (s : State) (k : Nat) (mask : BitVec 4) (data : Word) : (s.storeKey k mask data).pbBlockWord = s.pbBlockWord := rfl
@[simp] theorem State.storeKey_lastWriteSync (s : State) (k : Nat) (mask : BitVec 4) (data : Word) : (s.storeKey k mask data).lastWriteSync = s.lastWriteSync := rfl
@[simp] theorem State.storeKey_irl (s : State) (k : Nat) (mask : BitVec 4) (data : Word) : (s.storeKey k mask data).irl = s.irl := rfl
@[simp] theorem State.storeKey_resetIn (s : State) (k : Nat) (mask : BitVec 4) (data : Word) : (s.storeKey k mask data).resetIn = s.resetIn := rfl
@[simp] theorem State.storeKey_rRegisterError (s : State) (k : Nat) (mask : BitVec 4) (data : Word) : (s.storeKey k mask data).rRegisterError = s.rRegisterError := rfl
@[simp] theorem State.storeKey_f (s : State) (k : Nat) (mask : BitVec 4) (data : Word) : (s.storeKey k mask data).f = s.f := rfl
@[simp] theorem State.storeKey_fsr (s : State) (k : Nat) (mask : BitVec 4) (data : Word) : (s.storeKey k mask data).fsr = s.fsr := rfl
@[simp] theorem State.storeKey_fq (s : State) (k : Nat) (mask : BitVec 4) (data : Word) : (s.storeKey k mask data).fq = s.fq := rfl
@[simp] theorem State.storeKey_fpuMode (s : State) (k : Nat) (mask : BitVec 4) (data : Word) : (s.storeKey k mask data).fpuMode = s.fpuMode := rfl
@[simp] theorem State.storeKey_pendingFp (s : State) (k : Nat) (mask : BitVec 4) (data : Word) : (s.storeKey k mask data).pendingFp = s.pendingFp := rfl
@[simp] theorem State.storeKey_cp (s : State) (k : Nat) (mask : BitVec 4) (data : Word) : (s.storeKey k mask data).cp = s.cp := rfl
@[simp] theorem State.storeKey_mmu (s : State) (k : Nat) (mask : BitVec 4) (data : Word) : (s.storeKey k mask data).mmu = s.mmu := rfl
@[simp] theorem State.storeKey_ibuf (s : State) (k : Nat) (mask : BitVec 4) (data : Word) : (s.storeKey k mask data).ibuf = if s.cfg.hasIbuf then s.ibuf ++ [.store k (Memory.readWord s.mem k)] else s.ibuf := rfl
@[simp] theorem State.storeKey_io (s : State) (k : Nat) (mask : BitVec 4) (data : Word) : (s.storeKey k mask data).io = s.io := rfl
@[simp] theorem State.storeKey_ir (s : State) (k : Nat) (mask : BitVec 4) (data : Word) : (s.storeKey k mask data).ir = s.ir := rfl
@[simp] theorem State.storeKey_hzFcmp (s : State) (k : Nat) (mask : BitVec 4) (data : Word) : (s.storeKey k mask data).hzFcmp = s.hzFcmp := rfl
@[simp] theorem State.storeKey_hzLdfsr (s : State) (k : Nat) (mask : BitVec 4) (data : Word) : (s.storeKey k mask data).hzLdfsr = s.hzLdfsr := rfl
@[simp] theorem State.storeKey_freeCtr (s : State) (k : Nat) (mask : BitVec 4) (data : Word) : (s.storeKey k mask data).freeCtr = s.freeCtr := rfl
@[simp] theorem State.storeKey_mem (s : State) (k : Nat) (mask : BitVec 4) (data : Word) : (s.storeKey k mask data).mem = Memory.writeMasked s.mem k mask data := rfl

@[simp] theorem State.writeDevice_cfg (s : State) (asi : BitVec 8) (k : Nat) (mask : BitVec 4) (data : Word) : (s.writeDevice asi k mask data).cfg = s.cfg := rfl
@[simp] theorem State.writeDevice_globals (s : State) (asi : BitVec 8) (k : Nat) (mask : BitVec 4) (data : Word) : (s.writeDevice asi k mask data).globals = s.globals := rfl
@[simp] theorem State.writeDevice_windows (s : State) (asi : BitVec 8) (k : Nat) (mask : BitVec 4) (data : Word) : (s.writeDevice asi k mask data).windows = s.windows := rfl
@[simp] theorem State.writeDevice_pc (s : State) (asi : BitVec 8) (k : Nat) (mask : BitVec 4) (data : Word) : (s.writeDevice asi k mask data).pc = s.pc := rfl
@[simp] theorem State.writeDevice_npc (s : State) (asi : BitVec 8) (k : Nat) (mask : BitVec 4) (data : Word) : (s.writeDevice asi k mask data).npc = s.npc := rfl
@[simp] theorem State.writeDevice_psr (s : State) (asi : BitVec 8) (k : Nat) (mask : BitVec 4) (data : Word) : (s.writeDevice asi k mask data).psr = s.psr := rfl
@[simp] theorem State.writeDevice_wim (s : State) (asi : BitVec 8) (k : Nat) (mask : BitVec 4) (data : Word) : (s.writeDevice asi k mask data).wim = s.wim := rfl
@[simp] theorem State.writeDevice_tba (s : State) (asi : BitVec 8) (k : Nat) (mask : BitVec 4) (data : Word) : (s.writeDevice asi k mask data).tba = s.tba := rfl
@[simp] theorem State.writeDevice_tt (s : State) (asi : BitVec 8) (k : Nat) (mask : BitVec 4) (data : Word) : (s.writeDevice asi k mask data).tt = s.tt := rfl
@[simp] theorem State.writeDevice_y (s : State) (asi : BitVec 8) (k : Nat) (mask : BitVec 4) (data : Word) : (s.writeDevice asi k mask data).y = s.y := rfl
@[simp] theorem State.writeDevice_asr (s : State) (asi : BitVec 8) (k : Nat) (mask : BitVec 4) (data : Word) : (s.writeDevice asi k mask data).asr = s.asr := rfl
@[simp] theorem State.writeDevice_pending (s : State) (asi : BitVec 8) (k : Nat) (mask : BitVec 4) (data : Word) : (s.writeDevice asi k mask data).pending = s.pending := rfl
@[simp] theorem State.writeDevice_annul (s : State) (asi : BitVec 8) (k : Nat) (mask : BitVec 4) (data : Word) : (s.writeDevice asi k mask data).annul = s.annul := rfl
@[simp] theorem State.writeDevice_mode (s : State) (asi : BitVec 8) (k : Nat) (mask : BitVec 4) (data : Word) : (s.writeDevice asi k mask data).mode = s.mode := rfl
@[simp] theorem State.writeDevice_pbError (s : State) (asi : BitVec 8) (k : Nat) (mask : BitVec 4) (data : Word) : (s.writeDevice asi k mask data).pbError = s.pbError := rfl
@[simp] theorem State.writeDevice_requests (s : State) (asi : BitVec 8) (k : Nat) (mask : BitVec 4) (data : Word) : (s.writeDevice asi k mask data).requests = s.requests := rfl
@[simp] theorem State.writeDevice_raised (s : State) (asi : BitVec 8) (k : Nat) (mask : BitVec 4) (data : Word) : (s.writeDevice asi k mask data).raised = s.raised := rfl
@[simp] theorem State.writeDevice_storeBarrierPending (s : State) (asi : BitVec 8) (k : Nat) (mask : BitVec 4) (data : Word) : (s.writeDevice asi k mask data).storeBarrierPending = s.storeBarrierPending := rfl
@[simp] theorem State.writeDevice_pbBlockByte (s : State) (asi : BitVec 8) (k : Nat) (mask : BitVec 4) (data : Word) : (s.writeDevice asi k mask data).pbBlockByte = s.pbBlockByte := rfl
@[simp] theorem State.writeDevice_pbBlockWord (s : State) (asi : BitVec 8) (k : Nat) (mask : BitVec 4) (data : Word) : (s.writeDevice asi k mask data).pbBlockWord = s.pbBlockWord := rfl
@[simp] theorem State.writeDevice_lastWriteSync (s : State) (asi : BitVec 8) (k : Nat) (mask : BitVec 4) (data : Word) : (s.writeDevice asi k mask data).lastWriteSync = s.lastWriteSync := rfl
@[simp] theorem State.writeDevice_irl (s : State) (asi : BitVec 8) (k : Nat) (mask : BitVec 4) (data : Word) : (s.writeDevice asi k mask data).irl = s.irl := rfl
@[simp] theorem State.writeDevice_resetIn (s : State) (asi : BitVec 8) (k : Nat) (mask : BitVec 4) (data : Word) : (s.writeDevice asi k mask data).resetIn = s.resetIn := rfl
@[simp] theorem State.writeDevice_rRegisterError (s : State) (asi : BitVec 8) (k : Nat) (mask : BitVec 4) (data : Word) : (s.writeDevice asi k mask data).rRegisterError = s.rRegisterError := rfl
@[simp] theorem State.writeDevice_f (s : State) (asi : BitVec 8) (k : Nat) (mask : BitVec 4) (data : Word) : (s.writeDevice asi k mask data).f = s.f := rfl
@[simp] theorem State.writeDevice_fsr (s : State) (asi : BitVec 8) (k : Nat) (mask : BitVec 4) (data : Word) : (s.writeDevice asi k mask data).fsr = s.fsr := rfl
@[simp] theorem State.writeDevice_fq (s : State) (asi : BitVec 8) (k : Nat) (mask : BitVec 4) (data : Word) : (s.writeDevice asi k mask data).fq = s.fq := rfl
@[simp] theorem State.writeDevice_fpuMode (s : State) (asi : BitVec 8) (k : Nat) (mask : BitVec 4) (data : Word) : (s.writeDevice asi k mask data).fpuMode = s.fpuMode := rfl
@[simp] theorem State.writeDevice_pendingFp (s : State) (asi : BitVec 8) (k : Nat) (mask : BitVec 4) (data : Word) : (s.writeDevice asi k mask data).pendingFp = s.pendingFp := rfl
@[simp] theorem State.writeDevice_cp (s : State) (asi : BitVec 8) (k : Nat) (mask : BitVec 4) (data : Word) : (s.writeDevice asi k mask data).cp = s.cp := rfl
@[simp] theorem State.writeDevice_mmu (s : State) (asi : BitVec 8) (k : Nat) (mask : BitVec 4) (data : Word) : (s.writeDevice asi k mask data).mmu = s.mmu := rfl
@[simp] theorem State.writeDevice_ibuf (s : State) (asi : BitVec 8) (k : Nat) (mask : BitVec 4) (data : Word) : (s.writeDevice asi k mask data).ibuf = s.ibuf := rfl
@[simp] theorem State.writeDevice_io (s : State) (asi : BitVec 8) (k : Nat) (mask : BitVec 4) (data : Word) : (s.writeDevice asi k mask data).io = s.io ++ [⟨asi, k, true, mask, data, s.lastWriteSync⟩] := rfl
@[simp] theorem State.writeDevice_ir (s : State) (asi : BitVec 8) (k : Nat) (mask : BitVec 4) (data : Word) : (s.writeDevice asi k mask data).ir = s.ir := rfl
@[simp] theorem State.writeDevice_hzFcmp (s : State) (asi : BitVec 8) (k : Nat) (mask : BitVec 4) (data : Word) : (s.writeDevice asi k mask data).hzFcmp = s.hzFcmp := rfl
@[simp] theorem State.writeDevice_hzLdfsr (s : State) (asi : BitVec 8) (k : Nat) (mask : BitVec 4) (data : Word) : (s.writeDevice asi k mask data).hzLdfsr = s.hzLdfsr := rfl
@[simp] theorem State.writeDevice_freeCtr (s : State) (asi : BitVec 8) (k : Nat) (mask : BitVec 4) (data : Word) : (s.writeDevice asi k mask data).freeCtr = s.freeCtr := rfl
@[simp] theorem State.writeDevice_mem (s : State) (asi : BitVec 8) (k : Nat) (mask : BitVec 4) (data : Word) : (s.writeDevice asi k mask data).mem = s.mem := rfl

@[simp] theorem State.expireIBuf_cfg (s : State) : s.expireIBuf.cfg = s.cfg := rfl
@[simp] theorem State.expireIBuf_globals (s : State) : s.expireIBuf.globals = s.globals := rfl
@[simp] theorem State.expireIBuf_windows (s : State) : s.expireIBuf.windows = s.windows := rfl
@[simp] theorem State.expireIBuf_pc (s : State) : s.expireIBuf.pc = s.pc := rfl
@[simp] theorem State.expireIBuf_npc (s : State) : s.expireIBuf.npc = s.npc := rfl
@[simp] theorem State.expireIBuf_psr (s : State) : s.expireIBuf.psr = s.psr := rfl
@[simp] theorem State.expireIBuf_wim (s : State) : s.expireIBuf.wim = s.wim := rfl
@[simp] theorem State.expireIBuf_tba (s : State) : s.expireIBuf.tba = s.tba := rfl
@[simp] theorem State.expireIBuf_tt (s : State) : s.expireIBuf.tt = s.tt := rfl
@[simp] theorem State.expireIBuf_y (s : State) : s.expireIBuf.y = s.y := rfl
@[simp] theorem State.expireIBuf_asr (s : State) : s.expireIBuf.asr = s.asr := rfl
@[simp] theorem State.expireIBuf_pending (s : State) : s.expireIBuf.pending = s.pending := rfl
@[simp] theorem State.expireIBuf_annul (s : State) : s.expireIBuf.annul = s.annul := rfl
@[simp] theorem State.expireIBuf_mode (s : State) : s.expireIBuf.mode = s.mode := rfl
@[simp] theorem State.expireIBuf_pbError (s : State) : s.expireIBuf.pbError = s.pbError := rfl
@[simp] theorem State.expireIBuf_requests (s : State) : s.expireIBuf.requests = s.requests := rfl
@[simp] theorem State.expireIBuf_raised (s : State) : s.expireIBuf.raised = s.raised := rfl
@[simp] theorem State.expireIBuf_storeBarrierPending (s : State) : s.expireIBuf.storeBarrierPending = s.storeBarrierPending := rfl
@[simp] theorem State.expireIBuf_pbBlockByte (s : State) : s.expireIBuf.pbBlockByte = s.pbBlockByte := rfl
@[simp] theorem State.expireIBuf_pbBlockWord (s : State) : s.expireIBuf.pbBlockWord = s.pbBlockWord := rfl
@[simp] theorem State.expireIBuf_lastWriteSync (s : State) : s.expireIBuf.lastWriteSync = s.lastWriteSync := rfl
@[simp] theorem State.expireIBuf_irl (s : State) : s.expireIBuf.irl = s.irl := rfl
@[simp] theorem State.expireIBuf_resetIn (s : State) : s.expireIBuf.resetIn = s.resetIn := rfl
@[simp] theorem State.expireIBuf_rRegisterError (s : State) : s.expireIBuf.rRegisterError = s.rRegisterError := rfl
@[simp] theorem State.expireIBuf_f (s : State) : s.expireIBuf.f = s.f := rfl
@[simp] theorem State.expireIBuf_fsr (s : State) : s.expireIBuf.fsr = s.fsr := rfl
@[simp] theorem State.expireIBuf_fq (s : State) : s.expireIBuf.fq = s.fq := rfl
@[simp] theorem State.expireIBuf_fpuMode (s : State) : s.expireIBuf.fpuMode = s.fpuMode := rfl
@[simp] theorem State.expireIBuf_pendingFp (s : State) : s.expireIBuf.pendingFp = s.pendingFp := rfl
@[simp] theorem State.expireIBuf_cp (s : State) : s.expireIBuf.cp = s.cp := rfl
@[simp] theorem State.expireIBuf_mmu (s : State) : s.expireIBuf.mmu = s.mmu := rfl
@[simp] theorem State.expireIBuf_ibuf (s : State) : s.expireIBuf.ibuf = expireFlushes s.ibuf := rfl
@[simp] theorem State.expireIBuf_io (s : State) : s.expireIBuf.io = s.io := rfl
@[simp] theorem State.expireIBuf_ir (s : State) : s.expireIBuf.ir = s.ir := rfl
@[simp] theorem State.expireIBuf_hzFcmp (s : State) : s.expireIBuf.hzFcmp = s.hzFcmp := rfl
@[simp] theorem State.expireIBuf_hzLdfsr (s : State) : s.expireIBuf.hzLdfsr = s.hzLdfsr := rfl
@[simp] theorem State.expireIBuf_freeCtr (s : State) : s.expireIBuf.freeCtr = s.freeCtr := rfl
@[simp] theorem State.expireIBuf_mem (s : State) : s.expireIBuf.mem = s.mem := rfl

@[simp] theorem State.aged_cfg (s : State) : s.aged.cfg = s.cfg := rfl
@[simp] theorem State.aged_globals (s : State) : s.aged.globals = s.globals := rfl
@[simp] theorem State.aged_windows (s : State) : s.aged.windows = s.windows := rfl
@[simp] theorem State.aged_pc (s : State) : s.aged.pc = s.pc := rfl
@[simp] theorem State.aged_npc (s : State) : s.aged.npc = s.npc := rfl
@[simp] theorem State.aged_psr (s : State) : s.aged.psr = s.psr := rfl
@[simp] theorem State.aged_wim (s : State) : s.aged.wim = s.wim := rfl
@[simp] theorem State.aged_tba (s : State) : s.aged.tba = s.tba := rfl
@[simp] theorem State.aged_tt (s : State) : s.aged.tt = s.tt := rfl
@[simp] theorem State.aged_y (s : State) : s.aged.y = s.y := rfl
@[simp] theorem State.aged_asr (s : State) : s.aged.asr = s.asr := rfl
@[simp] theorem State.aged_pending (s : State) : s.aged.pending = s.pending := rfl
@[simp] theorem State.aged_annul (s : State) : s.aged.annul = s.annul := rfl
@[simp] theorem State.aged_mode (s : State) : s.aged.mode = s.mode := rfl
@[simp] theorem State.aged_pbError (s : State) : s.aged.pbError = s.pbError := rfl
@[simp] theorem State.aged_requests (s : State) : s.aged.requests = s.requests := rfl
@[simp] theorem State.aged_raised (s : State) : s.aged.raised = s.raised := rfl
@[simp] theorem State.aged_storeBarrierPending (s : State) : s.aged.storeBarrierPending = s.storeBarrierPending := rfl
@[simp] theorem State.aged_pbBlockByte (s : State) : s.aged.pbBlockByte = s.pbBlockByte := rfl
@[simp] theorem State.aged_pbBlockWord (s : State) : s.aged.pbBlockWord = s.pbBlockWord := rfl
@[simp] theorem State.aged_lastWriteSync (s : State) : s.aged.lastWriteSync = s.lastWriteSync := rfl
@[simp] theorem State.aged_irl (s : State) : s.aged.irl = s.irl := rfl
@[simp] theorem State.aged_resetIn (s : State) : s.aged.resetIn = s.resetIn := rfl
@[simp] theorem State.aged_rRegisterError (s : State) : s.aged.rRegisterError = s.rRegisterError := rfl
@[simp] theorem State.aged_f (s : State) : s.aged.f = s.f := rfl
@[simp] theorem State.aged_fsr (s : State) : s.aged.fsr = s.fsr := rfl
@[simp] theorem State.aged_fq (s : State) : s.aged.fq = s.fq := rfl
@[simp] theorem State.aged_fpuMode (s : State) : s.aged.fpuMode = s.fpuMode := rfl
@[simp] theorem State.aged_pendingFp (s : State) : s.aged.pendingFp = s.pendingFp := rfl
@[simp] theorem State.aged_cp (s : State) : s.aged.cp = s.cp := rfl
@[simp] theorem State.aged_mmu (s : State) : s.aged.mmu = s.mmu := rfl
@[simp] theorem State.aged_ibuf (s : State) : s.aged.ibuf = s.ibuf.map IBufEvent.aged := rfl
@[simp] theorem State.aged_io (s : State) : s.aged.io = s.io := rfl
@[simp] theorem State.aged_ir (s : State) : s.aged.ir = s.ir := rfl
@[simp] theorem State.aged_hzFcmp (s : State) : s.aged.hzFcmp = s.hzFcmp - 1 := rfl
@[simp] theorem State.aged_hzLdfsr (s : State) : s.aged.hzLdfsr = s.hzLdfsr - 1 := rfl
@[simp] theorem State.aged_freeCtr (s : State) : s.aged.freeCtr = s.freeCtr := rfl
@[simp] theorem State.aged_mem (s : State) : s.aged.mem = s.mem := rfl

@[simp] theorem State.setCp_cfg (s : State) (c : CpState) : (s.setCp c).cfg = s.cfg := rfl
@[simp] theorem State.setCp_globals (s : State) (c : CpState) : (s.setCp c).globals = s.globals := rfl
@[simp] theorem State.setCp_windows (s : State) (c : CpState) : (s.setCp c).windows = s.windows := rfl
@[simp] theorem State.setCp_pc (s : State) (c : CpState) : (s.setCp c).pc = s.pc := rfl
@[simp] theorem State.setCp_npc (s : State) (c : CpState) : (s.setCp c).npc = s.npc := rfl
@[simp] theorem State.setCp_psr (s : State) (c : CpState) : (s.setCp c).psr = s.psr := rfl
@[simp] theorem State.setCp_wim (s : State) (c : CpState) : (s.setCp c).wim = s.wim := rfl
@[simp] theorem State.setCp_tba (s : State) (c : CpState) : (s.setCp c).tba = s.tba := rfl
@[simp] theorem State.setCp_tt (s : State) (c : CpState) : (s.setCp c).tt = s.tt := rfl
@[simp] theorem State.setCp_y (s : State) (c : CpState) : (s.setCp c).y = s.y := rfl
@[simp] theorem State.setCp_asr (s : State) (c : CpState) : (s.setCp c).asr = s.asr := rfl
@[simp] theorem State.setCp_pending (s : State) (c : CpState) : (s.setCp c).pending = s.pending := rfl
@[simp] theorem State.setCp_annul (s : State) (c : CpState) : (s.setCp c).annul = s.annul := rfl
@[simp] theorem State.setCp_mode (s : State) (c : CpState) : (s.setCp c).mode = s.mode := rfl
@[simp] theorem State.setCp_pbError (s : State) (c : CpState) : (s.setCp c).pbError = s.pbError := rfl
@[simp] theorem State.setCp_requests (s : State) (c : CpState) : (s.setCp c).requests = s.requests := rfl
@[simp] theorem State.setCp_raised (s : State) (c : CpState) : (s.setCp c).raised = s.raised := rfl
@[simp] theorem State.setCp_storeBarrierPending (s : State) (c : CpState) : (s.setCp c).storeBarrierPending = s.storeBarrierPending := rfl
@[simp] theorem State.setCp_pbBlockByte (s : State) (c : CpState) : (s.setCp c).pbBlockByte = s.pbBlockByte := rfl
@[simp] theorem State.setCp_pbBlockWord (s : State) (c : CpState) : (s.setCp c).pbBlockWord = s.pbBlockWord := rfl
@[simp] theorem State.setCp_lastWriteSync (s : State) (c : CpState) : (s.setCp c).lastWriteSync = s.lastWriteSync := rfl
@[simp] theorem State.setCp_irl (s : State) (c : CpState) : (s.setCp c).irl = s.irl := rfl
@[simp] theorem State.setCp_resetIn (s : State) (c : CpState) : (s.setCp c).resetIn = s.resetIn := rfl
@[simp] theorem State.setCp_rRegisterError (s : State) (c : CpState) : (s.setCp c).rRegisterError = s.rRegisterError := rfl
@[simp] theorem State.setCp_f (s : State) (c : CpState) : (s.setCp c).f = s.f := rfl
@[simp] theorem State.setCp_fsr (s : State) (c : CpState) : (s.setCp c).fsr = s.fsr := rfl
@[simp] theorem State.setCp_fq (s : State) (c : CpState) : (s.setCp c).fq = s.fq := rfl
@[simp] theorem State.setCp_fpuMode (s : State) (c : CpState) : (s.setCp c).fpuMode = s.fpuMode := rfl
@[simp] theorem State.setCp_pendingFp (s : State) (c : CpState) : (s.setCp c).pendingFp = s.pendingFp := rfl
@[simp] theorem State.setCp_cp (s : State) (c : CpState) : (s.setCp c).cp = { s.cp with state := c } := rfl
@[simp] theorem State.setCp_mmu (s : State) (c : CpState) : (s.setCp c).mmu = s.mmu := rfl
@[simp] theorem State.setCp_ibuf (s : State) (c : CpState) : (s.setCp c).ibuf = s.ibuf := rfl
@[simp] theorem State.setCp_io (s : State) (c : CpState) : (s.setCp c).io = s.io := rfl
@[simp] theorem State.setCp_ir (s : State) (c : CpState) : (s.setCp c).ir = s.ir := rfl
@[simp] theorem State.setCp_hzFcmp (s : State) (c : CpState) : (s.setCp c).hzFcmp = s.hzFcmp := rfl
@[simp] theorem State.setCp_hzLdfsr (s : State) (c : CpState) : (s.setCp c).hzLdfsr = s.hzLdfsr := rfl
@[simp] theorem State.setCp_freeCtr (s : State) (c : CpState) : (s.setCp c).freeCtr = s.freeCtr := rfl
@[simp] theorem State.setCp_mem (s : State) (c : CpState) : (s.setCp c).mem = s.mem := rfl

@[simp] theorem State.passAnnulled_cfg (s : State) : s.passAnnulled.cfg = s.cfg := rfl
@[simp] theorem State.passAnnulled_globals (s : State) : s.passAnnulled.globals = s.globals := rfl
@[simp] theorem State.passAnnulled_windows (s : State) : s.passAnnulled.windows = s.windows := rfl
@[simp] theorem State.passAnnulled_pc (s : State) : s.passAnnulled.pc = s.npc := rfl
@[simp] theorem State.passAnnulled_npc (s : State) : s.passAnnulled.npc = s.npc + 4#32 := rfl
@[simp] theorem State.passAnnulled_psr (s : State) : s.passAnnulled.psr = s.psr := rfl
@[simp] theorem State.passAnnulled_wim (s : State) : s.passAnnulled.wim = s.wim := rfl
@[simp] theorem State.passAnnulled_tba (s : State) : s.passAnnulled.tba = s.tba := rfl
@[simp] theorem State.passAnnulled_tt (s : State) : s.passAnnulled.tt = s.tt := rfl
@[simp] theorem State.passAnnulled_y (s : State) : s.passAnnulled.y = s.y := rfl
@[simp] theorem State.passAnnulled_asr (s : State) : s.passAnnulled.asr = s.asr := rfl
@[simp] theorem State.passAnnulled_pending (s : State) : s.passAnnulled.pending = s.pending := rfl
@[simp] theorem State.passAnnulled_annul (s : State) : s.passAnnulled.annul = false := rfl
@[simp] theorem State.passAnnulled_mode (s : State) : s.passAnnulled.mode = s.mode := rfl
@[simp] theorem State.passAnnulled_pbError (s : State) : s.passAnnulled.pbError = s.pbError := rfl
@[simp] theorem State.passAnnulled_requests (s : State) : s.passAnnulled.requests = s.requests := rfl
@[simp] theorem State.passAnnulled_raised (s : State) : s.passAnnulled.raised = s.raised := rfl
@[simp] theorem State.passAnnulled_storeBarrierPending (s : State) : s.passAnnulled.storeBarrierPending = s.storeBarrierPending := rfl
@[simp] theorem State.passAnnulled_pbBlockByte (s : State) : s.passAnnulled.pbBlockByte = s.pbBlockByte := rfl
@[simp] theorem State.passAnnulled_pbBlockWord (s : State) : s.passAnnulled.pbBlockWord = s.pbBlockWord := rfl
@[simp] theorem State.passAnnulled_lastWriteSync (s : State) : s.passAnnulled.lastWriteSync = s.lastWriteSync := rfl
@[simp] theorem State.passAnnulled_irl (s : State) : s.passAnnulled.irl = s.irl := rfl
@[simp] theorem State.passAnnulled_resetIn (s : State) : s.passAnnulled.resetIn = s.resetIn := rfl
@[simp] theorem State.passAnnulled_rRegisterError (s : State) : s.passAnnulled.rRegisterError = s.rRegisterError := rfl
@[simp] theorem State.passAnnulled_f (s : State) : s.passAnnulled.f = s.f := rfl
@[simp] theorem State.passAnnulled_fsr (s : State) : s.passAnnulled.fsr = s.fsr := rfl
@[simp] theorem State.passAnnulled_fq (s : State) : s.passAnnulled.fq = s.fq := rfl
@[simp] theorem State.passAnnulled_fpuMode (s : State) : s.passAnnulled.fpuMode = s.fpuMode := rfl
@[simp] theorem State.passAnnulled_pendingFp (s : State) : s.passAnnulled.pendingFp = s.pendingFp := rfl
@[simp] theorem State.passAnnulled_cp (s : State) : s.passAnnulled.cp = s.cp := rfl
@[simp] theorem State.passAnnulled_mmu (s : State) : s.passAnnulled.mmu = s.mmu := rfl
@[simp] theorem State.passAnnulled_ibuf (s : State) : s.passAnnulled.ibuf = s.ibuf := rfl
@[simp] theorem State.passAnnulled_io (s : State) : s.passAnnulled.io = s.io := rfl
@[simp] theorem State.passAnnulled_ir (s : State) : s.passAnnulled.ir = s.ir := rfl
@[simp] theorem State.passAnnulled_hzFcmp (s : State) : s.passAnnulled.hzFcmp = s.hzFcmp := rfl
@[simp] theorem State.passAnnulled_hzLdfsr (s : State) : s.passAnnulled.hzLdfsr = s.hzLdfsr := rfl
@[simp] theorem State.passAnnulled_freeCtr (s : State) : s.passAnnulled.freeCtr = s.freeCtr := rfl
@[simp] theorem State.passAnnulled_mem (s : State) : s.passAnnulled.mem = s.mem := rfl

@[simp] theorem State.setIr_cfg (s : State) (w : Word) : (s.setIr w).cfg = s.cfg := rfl
@[simp] theorem State.setIr_globals (s : State) (w : Word) : (s.setIr w).globals = s.globals := rfl
@[simp] theorem State.setIr_windows (s : State) (w : Word) : (s.setIr w).windows = s.windows := rfl
@[simp] theorem State.setIr_pc (s : State) (w : Word) : (s.setIr w).pc = s.pc := rfl
@[simp] theorem State.setIr_npc (s : State) (w : Word) : (s.setIr w).npc = s.npc := rfl
@[simp] theorem State.setIr_psr (s : State) (w : Word) : (s.setIr w).psr = s.psr := rfl
@[simp] theorem State.setIr_wim (s : State) (w : Word) : (s.setIr w).wim = s.wim := rfl
@[simp] theorem State.setIr_tba (s : State) (w : Word) : (s.setIr w).tba = s.tba := rfl
@[simp] theorem State.setIr_tt (s : State) (w : Word) : (s.setIr w).tt = s.tt := rfl
@[simp] theorem State.setIr_y (s : State) (w : Word) : (s.setIr w).y = s.y := rfl
@[simp] theorem State.setIr_asr (s : State) (w : Word) : (s.setIr w).asr = s.asr := rfl
@[simp] theorem State.setIr_pending (s : State) (w : Word) : (s.setIr w).pending = s.pending := rfl
@[simp] theorem State.setIr_annul (s : State) (w : Word) : (s.setIr w).annul = s.annul := rfl
@[simp] theorem State.setIr_mode (s : State) (w : Word) : (s.setIr w).mode = s.mode := rfl
@[simp] theorem State.setIr_pbError (s : State) (w : Word) : (s.setIr w).pbError = s.pbError := rfl
@[simp] theorem State.setIr_requests (s : State) (w : Word) : (s.setIr w).requests = s.requests := rfl
@[simp] theorem State.setIr_raised (s : State) (w : Word) : (s.setIr w).raised = s.raised := rfl
@[simp] theorem State.setIr_storeBarrierPending (s : State) (w : Word) : (s.setIr w).storeBarrierPending = s.storeBarrierPending := rfl
@[simp] theorem State.setIr_pbBlockByte (s : State) (w : Word) : (s.setIr w).pbBlockByte = s.pbBlockByte := rfl
@[simp] theorem State.setIr_pbBlockWord (s : State) (w : Word) : (s.setIr w).pbBlockWord = s.pbBlockWord := rfl
@[simp] theorem State.setIr_lastWriteSync (s : State) (w : Word) : (s.setIr w).lastWriteSync = s.lastWriteSync := rfl
@[simp] theorem State.setIr_irl (s : State) (w : Word) : (s.setIr w).irl = s.irl := rfl
@[simp] theorem State.setIr_resetIn (s : State) (w : Word) : (s.setIr w).resetIn = s.resetIn := rfl
@[simp] theorem State.setIr_rRegisterError (s : State) (w : Word) : (s.setIr w).rRegisterError = s.rRegisterError := rfl
@[simp] theorem State.setIr_f (s : State) (w : Word) : (s.setIr w).f = s.f := rfl
@[simp] theorem State.setIr_fsr (s : State) (w : Word) : (s.setIr w).fsr = s.fsr := rfl
@[simp] theorem State.setIr_fq (s : State) (w : Word) : (s.setIr w).fq = s.fq := rfl
@[simp] theorem State.setIr_fpuMode (s : State) (w : Word) : (s.setIr w).fpuMode = s.fpuMode := rfl
@[simp] theorem State.setIr_pendingFp (s : State) (w : Word) : (s.setIr w).pendingFp = s.pendingFp := rfl
@[simp] theorem State.setIr_cp (s : State) (w : Word) : (s.setIr w).cp = s.cp := rfl
@[simp] theorem State.setIr_mmu (s : State) (w : Word) : (s.setIr w).mmu = s.mmu := rfl
@[simp] theorem State.setIr_ibuf (s : State) (w : Word) : (s.setIr w).ibuf = s.ibuf := rfl
@[simp] theorem State.setIr_io (s : State) (w : Word) : (s.setIr w).io = s.io := rfl
@[simp] theorem State.setIr_ir (s : State) (w : Word) : (s.setIr w).ir = w := rfl
@[simp] theorem State.setIr_hzFcmp (s : State) (w : Word) : (s.setIr w).hzFcmp = s.hzFcmp := rfl
@[simp] theorem State.setIr_hzLdfsr (s : State) (w : Word) : (s.setIr w).hzLdfsr = s.hzLdfsr := rfl
@[simp] theorem State.setIr_freeCtr (s : State) (w : Word) : (s.setIr w).freeCtr = s.freeCtr := rfl
@[simp] theorem State.setIr_mem (s : State) (w : Word) : (s.setIr w).mem = s.mem := rfl

@[simp] theorem State.clearRegisterError_cfg (s : State) : s.clearRegisterError.cfg = s.cfg := rfl
@[simp] theorem State.clearRegisterError_globals (s : State) : s.clearRegisterError.globals = s.globals := rfl
@[simp] theorem State.clearRegisterError_windows (s : State) : s.clearRegisterError.windows = s.windows := rfl
@[simp] theorem State.clearRegisterError_pc (s : State) : s.clearRegisterError.pc = s.pc := rfl
@[simp] theorem State.clearRegisterError_npc (s : State) : s.clearRegisterError.npc = s.npc := rfl
@[simp] theorem State.clearRegisterError_psr (s : State) : s.clearRegisterError.psr = s.psr := rfl
@[simp] theorem State.clearRegisterError_wim (s : State) : s.clearRegisterError.wim = s.wim := rfl
@[simp] theorem State.clearRegisterError_tba (s : State) : s.clearRegisterError.tba = s.tba := rfl
@[simp] theorem State.clearRegisterError_tt (s : State) : s.clearRegisterError.tt = s.tt := rfl
@[simp] theorem State.clearRegisterError_y (s : State) : s.clearRegisterError.y = s.y := rfl
@[simp] theorem State.clearRegisterError_asr (s : State) : s.clearRegisterError.asr = s.asr := rfl
@[simp] theorem State.clearRegisterError_pending (s : State) : s.clearRegisterError.pending = s.pending := rfl
@[simp] theorem State.clearRegisterError_annul (s : State) : s.clearRegisterError.annul = s.annul := rfl
@[simp] theorem State.clearRegisterError_mode (s : State) : s.clearRegisterError.mode = s.mode := rfl
@[simp] theorem State.clearRegisterError_pbError (s : State) : s.clearRegisterError.pbError = s.pbError := rfl
@[simp] theorem State.clearRegisterError_requests (s : State) : s.clearRegisterError.requests = s.requests := rfl
@[simp] theorem State.clearRegisterError_raised (s : State) : s.clearRegisterError.raised = s.raised := rfl
@[simp] theorem State.clearRegisterError_storeBarrierPending (s : State) : s.clearRegisterError.storeBarrierPending = s.storeBarrierPending := rfl
@[simp] theorem State.clearRegisterError_pbBlockByte (s : State) : s.clearRegisterError.pbBlockByte = s.pbBlockByte := rfl
@[simp] theorem State.clearRegisterError_pbBlockWord (s : State) : s.clearRegisterError.pbBlockWord = s.pbBlockWord := rfl
@[simp] theorem State.clearRegisterError_lastWriteSync (s : State) : s.clearRegisterError.lastWriteSync = s.lastWriteSync := rfl
@[simp] theorem State.clearRegisterError_irl (s : State) : s.clearRegisterError.irl = s.irl := rfl
@[simp] theorem State.clearRegisterError_resetIn (s : State) : s.clearRegisterError.resetIn = s.resetIn := rfl
@[simp] theorem State.clearRegisterError_rRegisterError (s : State) : s.clearRegisterError.rRegisterError = false := rfl
@[simp] theorem State.clearRegisterError_f (s : State) : s.clearRegisterError.f = s.f := rfl
@[simp] theorem State.clearRegisterError_fsr (s : State) : s.clearRegisterError.fsr = s.fsr := rfl
@[simp] theorem State.clearRegisterError_fq (s : State) : s.clearRegisterError.fq = s.fq := rfl
@[simp] theorem State.clearRegisterError_fpuMode (s : State) : s.clearRegisterError.fpuMode = s.fpuMode := rfl
@[simp] theorem State.clearRegisterError_pendingFp (s : State) : s.clearRegisterError.pendingFp = s.pendingFp := rfl
@[simp] theorem State.clearRegisterError_cp (s : State) : s.clearRegisterError.cp = s.cp := rfl
@[simp] theorem State.clearRegisterError_mmu (s : State) : s.clearRegisterError.mmu = s.mmu := rfl
@[simp] theorem State.clearRegisterError_ibuf (s : State) : s.clearRegisterError.ibuf = s.ibuf := rfl
@[simp] theorem State.clearRegisterError_io (s : State) : s.clearRegisterError.io = s.io := rfl
@[simp] theorem State.clearRegisterError_ir (s : State) : s.clearRegisterError.ir = s.ir := rfl
@[simp] theorem State.clearRegisterError_hzFcmp (s : State) : s.clearRegisterError.hzFcmp = s.hzFcmp := rfl
@[simp] theorem State.clearRegisterError_hzLdfsr (s : State) : s.clearRegisterError.hzLdfsr = s.hzLdfsr := rfl
@[simp] theorem State.clearRegisterError_freeCtr (s : State) : s.clearRegisterError.freeCtr = s.freeCtr := rfl
@[simp] theorem State.clearRegisterError_mem (s : State) : s.clearRegisterError.mem = s.mem := rfl

@[simp] theorem State.enterReset_cfg (s : State) : s.enterReset.cfg = s.cfg := rfl
@[simp] theorem State.enterReset_globals (s : State) : s.enterReset.globals = s.globals := rfl
@[simp] theorem State.enterReset_windows (s : State) : s.enterReset.windows = s.windows := rfl
@[simp] theorem State.enterReset_pc (s : State) : s.enterReset.pc = s.pc := rfl
@[simp] theorem State.enterReset_npc (s : State) : s.enterReset.npc = s.npc := rfl
@[simp] theorem State.enterReset_psr (s : State) : s.enterReset.psr = s.psr := rfl
@[simp] theorem State.enterReset_wim (s : State) : s.enterReset.wim = s.wim := rfl
@[simp] theorem State.enterReset_tba (s : State) : s.enterReset.tba = s.tba := rfl
@[simp] theorem State.enterReset_tt (s : State) : s.enterReset.tt = s.tt := rfl
@[simp] theorem State.enterReset_y (s : State) : s.enterReset.y = s.y := rfl
@[simp] theorem State.enterReset_asr (s : State) : s.enterReset.asr = s.asr := rfl
@[simp] theorem State.enterReset_pending (s : State) : s.enterReset.pending = s.pending := rfl
@[simp] theorem State.enterReset_annul (s : State) : s.enterReset.annul = s.annul := rfl
@[simp] theorem State.enterReset_mode (s : State) : s.enterReset.mode = .reset := rfl
@[simp] theorem State.enterReset_pbError (s : State) : s.enterReset.pbError = false := rfl
@[simp] theorem State.enterReset_requests (s : State) : s.enterReset.requests = s.requests := rfl
@[simp] theorem State.enterReset_raised (s : State) : s.enterReset.raised = s.raised := rfl
@[simp] theorem State.enterReset_storeBarrierPending (s : State) : s.enterReset.storeBarrierPending = s.storeBarrierPending := rfl
@[simp] theorem State.enterReset_pbBlockByte (s : State) : s.enterReset.pbBlockByte = s.pbBlockByte := rfl
@[simp] theorem State.enterReset_pbBlockWord (s : State) : s.enterReset.pbBlockWord = s.pbBlockWord := rfl
@[simp] theorem State.enterReset_lastWriteSync (s : State) : s.enterReset.lastWriteSync = s.lastWriteSync := rfl
@[simp] theorem State.enterReset_irl (s : State) : s.enterReset.irl = s.irl := rfl
@[simp] theorem State.enterReset_resetIn (s : State) : s.enterReset.resetIn = s.resetIn := rfl
@[simp] theorem State.enterReset_rRegisterError (s : State) : s.enterReset.rRegisterError = s.rRegisterError := rfl
@[simp] theorem State.enterReset_f (s : State) : s.enterReset.f = s.f := rfl
@[simp] theorem State.enterReset_fsr (s : State) : s.enterReset.fsr = s.fsr := rfl
@[simp] theorem State.enterReset_fq (s : State) : s.enterReset.fq = s.fq := rfl
@[simp] theorem State.enterReset_fpuMode (s : State) : s.enterReset.fpuMode = s.fpuMode := rfl
@[simp] theorem State.enterReset_pendingFp (s : State) : s.enterReset.pendingFp = s.pendingFp := rfl
@[simp] theorem State.enterReset_cp (s : State) : s.enterReset.cp = s.cp := rfl
@[simp] theorem State.enterReset_mmu (s : State) : s.enterReset.mmu = s.mmu := rfl
@[simp] theorem State.enterReset_ibuf (s : State) : s.enterReset.ibuf = s.ibuf := rfl
@[simp] theorem State.enterReset_io (s : State) : s.enterReset.io = s.io := rfl
@[simp] theorem State.enterReset_ir (s : State) : s.enterReset.ir = s.ir := rfl
@[simp] theorem State.enterReset_hzFcmp (s : State) : s.enterReset.hzFcmp = s.hzFcmp := rfl
@[simp] theorem State.enterReset_hzLdfsr (s : State) : s.enterReset.hzLdfsr = s.hzLdfsr := rfl
@[simp] theorem State.enterReset_freeCtr (s : State) : s.enterReset.freeCtr = s.freeCtr := rfl
@[simp] theorem State.enterReset_mem (s : State) : s.enterReset.mem = s.mem := rfl

@[simp] theorem State.leaveReset_cfg (s : State) : s.leaveReset.cfg = s.cfg := rfl
@[simp] theorem State.leaveReset_globals (s : State) : s.leaveReset.globals = s.globals := rfl
@[simp] theorem State.leaveReset_windows (s : State) : s.leaveReset.windows = s.windows := rfl
@[simp] theorem State.leaveReset_pc (s : State) : s.leaveReset.pc = s.pc := rfl
@[simp] theorem State.leaveReset_npc (s : State) : s.leaveReset.npc = s.npc := rfl
@[simp] theorem State.leaveReset_psr (s : State) : s.leaveReset.psr = s.psr := rfl
@[simp] theorem State.leaveReset_wim (s : State) : s.leaveReset.wim = s.wim := rfl
@[simp] theorem State.leaveReset_tba (s : State) : s.leaveReset.tba = s.tba := rfl
@[simp] theorem State.leaveReset_tt (s : State) : s.leaveReset.tt = s.tt := rfl
@[simp] theorem State.leaveReset_y (s : State) : s.leaveReset.y = s.y := rfl
@[simp] theorem State.leaveReset_asr (s : State) : s.leaveReset.asr = s.asr := rfl
@[simp] theorem State.leaveReset_pending (s : State) : s.leaveReset.pending = s.pending := rfl
@[simp] theorem State.leaveReset_annul (s : State) : s.leaveReset.annul = s.annul := rfl
@[simp] theorem State.leaveReset_mode (s : State) : s.leaveReset.mode = .execute := rfl
@[simp] theorem State.leaveReset_pbError (s : State) : s.leaveReset.pbError = s.pbError := rfl
@[simp] theorem State.leaveReset_raised (s : State) : s.leaveReset.raised = s.raised := rfl
@[simp] theorem State.leaveReset_storeBarrierPending (s : State) : s.leaveReset.storeBarrierPending = s.storeBarrierPending := rfl
@[simp] theorem State.leaveReset_pbBlockByte (s : State) : s.leaveReset.pbBlockByte = s.pbBlockByte := rfl
@[simp] theorem State.leaveReset_pbBlockWord (s : State) : s.leaveReset.pbBlockWord = s.pbBlockWord := rfl
@[simp] theorem State.leaveReset_lastWriteSync (s : State) : s.leaveReset.lastWriteSync = s.lastWriteSync := rfl
@[simp] theorem State.leaveReset_irl (s : State) : s.leaveReset.irl = s.irl := rfl
@[simp] theorem State.leaveReset_resetIn (s : State) : s.leaveReset.resetIn = s.resetIn := rfl
@[simp] theorem State.leaveReset_rRegisterError (s : State) : s.leaveReset.rRegisterError = s.rRegisterError := rfl
@[simp] theorem State.leaveReset_f (s : State) : s.leaveReset.f = s.f := rfl
@[simp] theorem State.leaveReset_fsr (s : State) : s.leaveReset.fsr = s.fsr := rfl
@[simp] theorem State.leaveReset_fq (s : State) : s.leaveReset.fq = s.fq := rfl
@[simp] theorem State.leaveReset_fpuMode (s : State) : s.leaveReset.fpuMode = s.fpuMode := rfl
@[simp] theorem State.leaveReset_pendingFp (s : State) : s.leaveReset.pendingFp = s.pendingFp := rfl
@[simp] theorem State.leaveReset_cp (s : State) : s.leaveReset.cp = s.cp := rfl
@[simp] theorem State.leaveReset_mmu (s : State) : s.leaveReset.mmu = s.mmu := rfl
@[simp] theorem State.leaveReset_ibuf (s : State) : s.leaveReset.ibuf = s.ibuf := rfl
@[simp] theorem State.leaveReset_io (s : State) : s.leaveReset.io = s.io := rfl
@[simp] theorem State.leaveReset_ir (s : State) : s.leaveReset.ir = s.ir := rfl
@[simp] theorem State.leaveReset_hzFcmp (s : State) : s.leaveReset.hzFcmp = s.hzFcmp := rfl
@[simp] theorem State.leaveReset_hzLdfsr (s : State) : s.leaveReset.hzLdfsr = s.hzLdfsr := rfl
@[simp] theorem State.leaveReset_freeCtr (s : State) : s.leaveReset.freeCtr = s.freeCtr := rfl
@[simp] theorem State.leaveReset_mem (s : State) : s.leaveReset.mem = s.mem := rfl

/-! A write of an r register changes globals or windows alone. -/

theorem State.setRegIn_eq (s : State) (cwp : BitVec 5) (n : RegNum) (v : Word) :
    s.setRegIn cwp n v = { s with globals := (s.setRegIn cwp n v).globals, windows := (s.setRegIn cwp n v).windows } := by
  unfold State.setRegIn
  split
  · rfl
  · split <;> rfl

theorem State.setReg_eq (s : State) (n : RegNum) (v : Word) :
    s.setReg n v = { s with globals := (s.setReg n v).globals, windows := (s.setReg n v).windows } :=
  s.setRegIn_eq s.psr.cwp n v

/-! Reading a device adds to its past alone; FLUSH changes the instruction buffer alone. -/

theorem State.flushAddress_eq (s : State) (a : Word) :
    s.flushAddress a = { s with ibuf := (s.flushAddress a).ibuf } := by
  unfold State.flushAddress
  split <;> rfl

@[simp] theorem State.readDevice_cfg (s : State) (asi : BitVec 8) (k : Nat) : (s.readDevice asi k).1.cfg = s.cfg := rfl
@[simp] theorem State.readDevice_globals (s : State) (asi : BitVec 8) (k : Nat) : (s.readDevice asi k).1.globals = s.globals := rfl
@[simp] theorem State.readDevice_windows (s : State) (asi : BitVec 8) (k : Nat) : (s.readDevice asi k).1.windows = s.windows := rfl
@[simp] theorem State.readDevice_pc (s : State) (asi : BitVec 8) (k : Nat) : (s.readDevice asi k).1.pc = s.pc := rfl
@[simp] theorem State.readDevice_npc (s : State) (asi : BitVec 8) (k : Nat) : (s.readDevice asi k).1.npc = s.npc := rfl
@[simp] theorem State.readDevice_psr (s : State) (asi : BitVec 8) (k : Nat) : (s.readDevice asi k).1.psr = s.psr := rfl
@[simp] theorem State.readDevice_wim (s : State) (asi : BitVec 8) (k : Nat) : (s.readDevice asi k).1.wim = s.wim := rfl
@[simp] theorem State.readDevice_tba (s : State) (asi : BitVec 8) (k : Nat) : (s.readDevice asi k).1.tba = s.tba := rfl
@[simp] theorem State.readDevice_tt (s : State) (asi : BitVec 8) (k : Nat) : (s.readDevice asi k).1.tt = s.tt := rfl
@[simp] theorem State.readDevice_y (s : State) (asi : BitVec 8) (k : Nat) : (s.readDevice asi k).1.y = s.y := rfl
@[simp] theorem State.readDevice_asr (s : State) (asi : BitVec 8) (k : Nat) : (s.readDevice asi k).1.asr = s.asr := rfl
@[simp] theorem State.readDevice_pending (s : State) (asi : BitVec 8) (k : Nat) : (s.readDevice asi k).1.pending = s.pending := rfl
@[simp] theorem State.readDevice_annul (s : State) (asi : BitVec 8) (k : Nat) : (s.readDevice asi k).1.annul = s.annul := rfl
@[simp] theorem State.readDevice_mode (s : State) (asi : BitVec 8) (k : Nat) : (s.readDevice asi k).1.mode = s.mode := rfl
@[simp] theorem State.readDevice_pbError (s : State) (asi : BitVec 8) (k : Nat) : (s.readDevice asi k).1.pbError = s.pbError := rfl
@[simp] theorem State.readDevice_requests (s : State) (asi : BitVec 8) (k : Nat) : (s.readDevice asi k).1.requests = s.requests := rfl
@[simp] theorem State.readDevice_raised (s : State) (asi : BitVec 8) (k : Nat) : (s.readDevice asi k).1.raised = s.raised := rfl
@[simp] theorem State.readDevice_storeBarrierPending (s : State) (asi : BitVec 8) (k : Nat) : (s.readDevice asi k).1.storeBarrierPending = s.storeBarrierPending := rfl
@[simp] theorem State.readDevice_pbBlockByte (s : State) (asi : BitVec 8) (k : Nat) : (s.readDevice asi k).1.pbBlockByte = s.pbBlockByte := rfl
@[simp] theorem State.readDevice_pbBlockWord (s : State) (asi : BitVec 8) (k : Nat) : (s.readDevice asi k).1.pbBlockWord = s.pbBlockWord := rfl
@[simp] theorem State.readDevice_lastWriteSync (s : State) (asi : BitVec 8) (k : Nat) : (s.readDevice asi k).1.lastWriteSync = s.lastWriteSync := rfl
@[simp] theorem State.readDevice_irl (s : State) (asi : BitVec 8) (k : Nat) : (s.readDevice asi k).1.irl = s.irl := rfl
@[simp] theorem State.readDevice_resetIn (s : State) (asi : BitVec 8) (k : Nat) : (s.readDevice asi k).1.resetIn = s.resetIn := rfl
@[simp] theorem State.readDevice_rRegisterError (s : State) (asi : BitVec 8) (k : Nat) : (s.readDevice asi k).1.rRegisterError = s.rRegisterError := rfl
@[simp] theorem State.readDevice_f (s : State) (asi : BitVec 8) (k : Nat) : (s.readDevice asi k).1.f = s.f := rfl
@[simp] theorem State.readDevice_fsr (s : State) (asi : BitVec 8) (k : Nat) : (s.readDevice asi k).1.fsr = s.fsr := rfl
@[simp] theorem State.readDevice_fq (s : State) (asi : BitVec 8) (k : Nat) : (s.readDevice asi k).1.fq = s.fq := rfl
@[simp] theorem State.readDevice_fpuMode (s : State) (asi : BitVec 8) (k : Nat) : (s.readDevice asi k).1.fpuMode = s.fpuMode := rfl
@[simp] theorem State.readDevice_pendingFp (s : State) (asi : BitVec 8) (k : Nat) : (s.readDevice asi k).1.pendingFp = s.pendingFp := rfl
@[simp] theorem State.readDevice_cp (s : State) (asi : BitVec 8) (k : Nat) : (s.readDevice asi k).1.cp = s.cp := rfl
@[simp] theorem State.readDevice_mmu (s : State) (asi : BitVec 8) (k : Nat) : (s.readDevice asi k).1.mmu = s.mmu := rfl
@[simp] theorem State.readDevice_ibuf (s : State) (asi : BitVec 8) (k : Nat) : (s.readDevice asi k).1.ibuf = s.ibuf := rfl
@[simp] theorem State.readDevice_ir (s : State) (asi : BitVec 8) (k : Nat) : (s.readDevice asi k).1.ir = s.ir := rfl
@[simp] theorem State.readDevice_hzFcmp (s : State) (asi : BitVec 8) (k : Nat) : (s.readDevice asi k).1.hzFcmp = s.hzFcmp := rfl
@[simp] theorem State.readDevice_hzLdfsr (s : State) (asi : BitVec 8) (k : Nat) : (s.readDevice asi k).1.hzLdfsr = s.hzLdfsr := rfl
@[simp] theorem State.readDevice_freeCtr (s : State) (asi : BitVec 8) (k : Nat) : (s.readDevice asi k).1.freeCtr = s.freeCtr := rfl
@[simp] theorem State.readDevice_mem (s : State) (asi : BitVec 8) (k : Nat) : (s.readDevice asi k).1.mem = s.mem := rfl

@[simp] theorem State.flushAddress_cfg (s : State) (a : Word) : (s.flushAddress a).cfg = s.cfg := by rw [State.flushAddress_eq]
@[simp] theorem State.flushAddress_globals (s : State) (a : Word) : (s.flushAddress a).globals = s.globals := by rw [State.flushAddress_eq]
@[simp] theorem State.flushAddress_windows (s : State) (a : Word) : (s.flushAddress a).windows = s.windows := by rw [State.flushAddress_eq]
@[simp] theorem State.flushAddress_pc (s : State) (a : Word) : (s.flushAddress a).pc = s.pc := by rw [State.flushAddress_eq]
@[simp] theorem State.flushAddress_npc (s : State) (a : Word) : (s.flushAddress a).npc = s.npc := by rw [State.flushAddress_eq]
@[simp] theorem State.flushAddress_psr (s : State) (a : Word) : (s.flushAddress a).psr = s.psr := by rw [State.flushAddress_eq]
@[simp] theorem State.flushAddress_wim (s : State) (a : Word) : (s.flushAddress a).wim = s.wim := by rw [State.flushAddress_eq]
@[simp] theorem State.flushAddress_tba (s : State) (a : Word) : (s.flushAddress a).tba = s.tba := by rw [State.flushAddress_eq]
@[simp] theorem State.flushAddress_tt (s : State) (a : Word) : (s.flushAddress a).tt = s.tt := by rw [State.flushAddress_eq]
@[simp] theorem State.flushAddress_y (s : State) (a : Word) : (s.flushAddress a).y = s.y := by rw [State.flushAddress_eq]
@[simp] theorem State.flushAddress_asr (s : State) (a : Word) : (s.flushAddress a).asr = s.asr := by rw [State.flushAddress_eq]
@[simp] theorem State.flushAddress_pending (s : State) (a : Word) : (s.flushAddress a).pending = s.pending := by rw [State.flushAddress_eq]
@[simp] theorem State.flushAddress_annul (s : State) (a : Word) : (s.flushAddress a).annul = s.annul := by rw [State.flushAddress_eq]
@[simp] theorem State.flushAddress_mode (s : State) (a : Word) : (s.flushAddress a).mode = s.mode := by rw [State.flushAddress_eq]
@[simp] theorem State.flushAddress_pbError (s : State) (a : Word) : (s.flushAddress a).pbError = s.pbError := by rw [State.flushAddress_eq]
@[simp] theorem State.flushAddress_requests (s : State) (a : Word) : (s.flushAddress a).requests = s.requests := by rw [State.flushAddress_eq]
@[simp] theorem State.flushAddress_raised (s : State) (a : Word) : (s.flushAddress a).raised = s.raised := by rw [State.flushAddress_eq]
@[simp] theorem State.flushAddress_storeBarrierPending (s : State) (a : Word) : (s.flushAddress a).storeBarrierPending = s.storeBarrierPending := by rw [State.flushAddress_eq]
@[simp] theorem State.flushAddress_pbBlockByte (s : State) (a : Word) : (s.flushAddress a).pbBlockByte = s.pbBlockByte := by rw [State.flushAddress_eq]
@[simp] theorem State.flushAddress_pbBlockWord (s : State) (a : Word) : (s.flushAddress a).pbBlockWord = s.pbBlockWord := by rw [State.flushAddress_eq]
@[simp] theorem State.flushAddress_lastWriteSync (s : State) (a : Word) : (s.flushAddress a).lastWriteSync = s.lastWriteSync := by rw [State.flushAddress_eq]
@[simp] theorem State.flushAddress_irl (s : State) (a : Word) : (s.flushAddress a).irl = s.irl := by rw [State.flushAddress_eq]
@[simp] theorem State.flushAddress_resetIn (s : State) (a : Word) : (s.flushAddress a).resetIn = s.resetIn := by rw [State.flushAddress_eq]
@[simp] theorem State.flushAddress_rRegisterError (s : State) (a : Word) : (s.flushAddress a).rRegisterError = s.rRegisterError := by rw [State.flushAddress_eq]
@[simp] theorem State.flushAddress_f (s : State) (a : Word) : (s.flushAddress a).f = s.f := by rw [State.flushAddress_eq]
@[simp] theorem State.flushAddress_fsr (s : State) (a : Word) : (s.flushAddress a).fsr = s.fsr := by rw [State.flushAddress_eq]
@[simp] theorem State.flushAddress_fq (s : State) (a : Word) : (s.flushAddress a).fq = s.fq := by rw [State.flushAddress_eq]
@[simp] theorem State.flushAddress_fpuMode (s : State) (a : Word) : (s.flushAddress a).fpuMode = s.fpuMode := by rw [State.flushAddress_eq]
@[simp] theorem State.flushAddress_pendingFp (s : State) (a : Word) : (s.flushAddress a).pendingFp = s.pendingFp := by rw [State.flushAddress_eq]
@[simp] theorem State.flushAddress_cp (s : State) (a : Word) : (s.flushAddress a).cp = s.cp := by rw [State.flushAddress_eq]
@[simp] theorem State.flushAddress_mmu (s : State) (a : Word) : (s.flushAddress a).mmu = s.mmu := by rw [State.flushAddress_eq]
@[simp] theorem State.flushAddress_io (s : State) (a : Word) : (s.flushAddress a).io = s.io := by rw [State.flushAddress_eq]
@[simp] theorem State.flushAddress_ir (s : State) (a : Word) : (s.flushAddress a).ir = s.ir := by rw [State.flushAddress_eq]
@[simp] theorem State.flushAddress_hzFcmp (s : State) (a : Word) : (s.flushAddress a).hzFcmp = s.hzFcmp := by rw [State.flushAddress_eq]
@[simp] theorem State.flushAddress_hzLdfsr (s : State) (a : Word) : (s.flushAddress a).hzLdfsr = s.hzLdfsr := by rw [State.flushAddress_eq]
@[simp] theorem State.flushAddress_freeCtr (s : State) (a : Word) : (s.flushAddress a).freeCtr = s.freeCtr := by rw [State.flushAddress_eq]
@[simp] theorem State.flushAddress_mem (s : State) (a : Word) : (s.flushAddress a).mem = s.mem := by rw [State.flushAddress_eq]

/-! The entry of a trap, and the past it keeps. -/

@[simp] theorem raise_cfg (t : Trap) (s : State) : (raise t s).cfg = (takeTrap t s).cfg := rfl
@[simp] theorem raise_globals (t : Trap) (s : State) : (raise t s).globals = (takeTrap t s).globals := rfl
@[simp] theorem raise_windows (t : Trap) (s : State) : (raise t s).windows = (takeTrap t s).windows := rfl
@[simp] theorem raise_pc (t : Trap) (s : State) : (raise t s).pc = (takeTrap t s).pc := rfl
@[simp] theorem raise_npc (t : Trap) (s : State) : (raise t s).npc = (takeTrap t s).npc := rfl
@[simp] theorem raise_psr (t : Trap) (s : State) : (raise t s).psr = (takeTrap t s).psr := rfl
@[simp] theorem raise_wim (t : Trap) (s : State) : (raise t s).wim = (takeTrap t s).wim := rfl
@[simp] theorem raise_tba (t : Trap) (s : State) : (raise t s).tba = (takeTrap t s).tba := rfl
@[simp] theorem raise_tt (t : Trap) (s : State) : (raise t s).tt = (takeTrap t s).tt := rfl
@[simp] theorem raise_y (t : Trap) (s : State) : (raise t s).y = (takeTrap t s).y := rfl
@[simp] theorem raise_asr (t : Trap) (s : State) : (raise t s).asr = (takeTrap t s).asr := rfl
@[simp] theorem raise_pending (t : Trap) (s : State) : (raise t s).pending = (takeTrap t s).pending := rfl
@[simp] theorem raise_annul (t : Trap) (s : State) : (raise t s).annul = (takeTrap t s).annul := rfl
@[simp] theorem raise_mode (t : Trap) (s : State) : (raise t s).mode = (takeTrap t s).mode := rfl
@[simp] theorem raise_pbError (t : Trap) (s : State) : (raise t s).pbError = (takeTrap t s).pbError := rfl
@[simp] theorem raise_requests (t : Trap) (s : State) : (raise t s).requests = (takeTrap t s).requests := rfl
@[simp] theorem raise_raised (t : Trap) (s : State) : (raise t s).raised = some (s.beforeTrap t) := rfl
@[simp] theorem raise_storeBarrierPending (t : Trap) (s : State) : (raise t s).storeBarrierPending = (takeTrap t s).storeBarrierPending := rfl
@[simp] theorem raise_pbBlockByte (t : Trap) (s : State) : (raise t s).pbBlockByte = (takeTrap t s).pbBlockByte := rfl
@[simp] theorem raise_pbBlockWord (t : Trap) (s : State) : (raise t s).pbBlockWord = (takeTrap t s).pbBlockWord := rfl
@[simp] theorem raise_lastWriteSync (t : Trap) (s : State) : (raise t s).lastWriteSync = (takeTrap t s).lastWriteSync := rfl
@[simp] theorem raise_irl (t : Trap) (s : State) : (raise t s).irl = (takeTrap t s).irl := rfl
@[simp] theorem raise_resetIn (t : Trap) (s : State) : (raise t s).resetIn = (takeTrap t s).resetIn := rfl
@[simp] theorem raise_rRegisterError (t : Trap) (s : State) : (raise t s).rRegisterError = (takeTrap t s).rRegisterError := rfl
@[simp] theorem raise_f (t : Trap) (s : State) : (raise t s).f = (takeTrap t s).f := rfl
@[simp] theorem raise_fsr (t : Trap) (s : State) : (raise t s).fsr = (takeTrap t s).fsr := rfl
@[simp] theorem raise_fq (t : Trap) (s : State) : (raise t s).fq = (takeTrap t s).fq := rfl
@[simp] theorem raise_fpuMode (t : Trap) (s : State) : (raise t s).fpuMode = (takeTrap t s).fpuMode := rfl
@[simp] theorem raise_pendingFp (t : Trap) (s : State) : (raise t s).pendingFp = (takeTrap t s).pendingFp := rfl
@[simp] theorem raise_cp (t : Trap) (s : State) : (raise t s).cp = (takeTrap t s).cp := rfl
@[simp] theorem raise_mmu (t : Trap) (s : State) : (raise t s).mmu = (takeTrap t s).mmu := rfl
@[simp] theorem raise_ibuf (t : Trap) (s : State) : (raise t s).ibuf = (takeTrap t s).ibuf := rfl
@[simp] theorem raise_io (t : Trap) (s : State) : (raise t s).io = (takeTrap t s).io := rfl
@[simp] theorem raise_ir (t : Trap) (s : State) : (raise t s).ir = (takeTrap t s).ir := rfl
@[simp] theorem raise_hzFcmp (t : Trap) (s : State) : (raise t s).hzFcmp = (takeTrap t s).hzFcmp := rfl
@[simp] theorem raise_hzLdfsr (t : Trap) (s : State) : (raise t s).hzLdfsr = (takeTrap t s).hzLdfsr := rfl
@[simp] theorem raise_freeCtr (t : Trap) (s : State) : (raise t s).freeCtr = (takeTrap t s).freeCtr := rfl
@[simp] theorem raise_mem (t : Trap) (s : State) : (raise t s).mem = (takeTrap t s).mem := rfl

@[simp] theorem State.setRegIn_cfg (s : State) (cwp : BitVec 5) (n : RegNum) (v : Word) :
    (s.setRegIn cwp n v).cfg = s.cfg := by rw [State.setRegIn_eq]
@[simp] theorem State.setRegIn_pc (s : State) (cwp : BitVec 5) (n : RegNum) (v : Word) :
    (s.setRegIn cwp n v).pc = s.pc := by rw [State.setRegIn_eq]
@[simp] theorem State.setRegIn_npc (s : State) (cwp : BitVec 5) (n : RegNum) (v : Word) :
    (s.setRegIn cwp n v).npc = s.npc := by rw [State.setRegIn_eq]
@[simp] theorem State.setRegIn_psr (s : State) (cwp : BitVec 5) (n : RegNum) (v : Word) :
    (s.setRegIn cwp n v).psr = s.psr := by rw [State.setRegIn_eq]
@[simp] theorem State.setRegIn_wim (s : State) (cwp : BitVec 5) (n : RegNum) (v : Word) :
    (s.setRegIn cwp n v).wim = s.wim := by rw [State.setRegIn_eq]
@[simp] theorem State.setRegIn_tba (s : State) (cwp : BitVec 5) (n : RegNum) (v : Word) :
    (s.setRegIn cwp n v).tba = s.tba := by rw [State.setRegIn_eq]
@[simp] theorem State.setRegIn_tt (s : State) (cwp : BitVec 5) (n : RegNum) (v : Word) :
    (s.setRegIn cwp n v).tt = s.tt := by rw [State.setRegIn_eq]
@[simp] theorem State.setRegIn_y (s : State) (cwp : BitVec 5) (n : RegNum) (v : Word) :
    (s.setRegIn cwp n v).y = s.y := by rw [State.setRegIn_eq]
@[simp] theorem State.setRegIn_asr (s : State) (cwp : BitVec 5) (n : RegNum) (v : Word) :
    (s.setRegIn cwp n v).asr = s.asr := by rw [State.setRegIn_eq]
@[simp] theorem State.setRegIn_pending (s : State) (cwp : BitVec 5) (n : RegNum) (v : Word) :
    (s.setRegIn cwp n v).pending = s.pending := by rw [State.setRegIn_eq]
@[simp] theorem State.setRegIn_annul (s : State) (cwp : BitVec 5) (n : RegNum) (v : Word) :
    (s.setRegIn cwp n v).annul = s.annul := by rw [State.setRegIn_eq]
@[simp] theorem State.setRegIn_mode (s : State) (cwp : BitVec 5) (n : RegNum) (v : Word) :
    (s.setRegIn cwp n v).mode = s.mode := by rw [State.setRegIn_eq]
@[simp] theorem State.setRegIn_pbError (s : State) (cwp : BitVec 5) (n : RegNum) (v : Word) :
    (s.setRegIn cwp n v).pbError = s.pbError := by rw [State.setRegIn_eq]
@[simp] theorem State.setRegIn_requests (s : State) (cwp : BitVec 5) (n : RegNum) (v : Word) :
    (s.setRegIn cwp n v).requests = s.requests := by rw [State.setRegIn_eq]
@[simp] theorem State.setRegIn_raised (s : State) (cwp : BitVec 5) (n : RegNum) (v : Word) :
    (s.setRegIn cwp n v).raised = s.raised := by rw [State.setRegIn_eq]
@[simp] theorem State.setRegIn_storeBarrierPending (s : State) (cwp : BitVec 5) (n : RegNum) (v : Word) :
    (s.setRegIn cwp n v).storeBarrierPending = s.storeBarrierPending := by rw [State.setRegIn_eq]
@[simp] theorem State.setRegIn_pbBlockByte (s : State) (cwp : BitVec 5) (n : RegNum) (v : Word) :
    (s.setRegIn cwp n v).pbBlockByte = s.pbBlockByte := by rw [State.setRegIn_eq]
@[simp] theorem State.setRegIn_pbBlockWord (s : State) (cwp : BitVec 5) (n : RegNum) (v : Word) :
    (s.setRegIn cwp n v).pbBlockWord = s.pbBlockWord := by rw [State.setRegIn_eq]
@[simp] theorem State.setRegIn_lastWriteSync (s : State) (cwp : BitVec 5) (n : RegNum) (v : Word) :
    (s.setRegIn cwp n v).lastWriteSync = s.lastWriteSync := by rw [State.setRegIn_eq]
@[simp] theorem State.setRegIn_irl (s : State) (cwp : BitVec 5) (n : RegNum) (v : Word) :
    (s.setRegIn cwp n v).irl = s.irl := by rw [State.setRegIn_eq]
@[simp] theorem State.setRegIn_resetIn (s : State) (cwp : BitVec 5) (n : RegNum) (v : Word) :
    (s.setRegIn cwp n v).resetIn = s.resetIn := by rw [State.setRegIn_eq]
@[simp] theorem State.setRegIn_rRegisterError (s : State) (cwp : BitVec 5) (n : RegNum) (v : Word) :
    (s.setRegIn cwp n v).rRegisterError = s.rRegisterError := by rw [State.setRegIn_eq]
@[simp] theorem State.setRegIn_f (s : State) (cwp : BitVec 5) (n : RegNum) (v : Word) :
    (s.setRegIn cwp n v).f = s.f := by rw [State.setRegIn_eq]
@[simp] theorem State.setRegIn_fsr (s : State) (cwp : BitVec 5) (n : RegNum) (v : Word) :
    (s.setRegIn cwp n v).fsr = s.fsr := by rw [State.setRegIn_eq]
@[simp] theorem State.setRegIn_fq (s : State) (cwp : BitVec 5) (n : RegNum) (v : Word) :
    (s.setRegIn cwp n v).fq = s.fq := by rw [State.setRegIn_eq]
@[simp] theorem State.setRegIn_fpuMode (s : State) (cwp : BitVec 5) (n : RegNum) (v : Word) :
    (s.setRegIn cwp n v).fpuMode = s.fpuMode := by rw [State.setRegIn_eq]
@[simp] theorem State.setRegIn_pendingFp (s : State) (cwp : BitVec 5) (n : RegNum) (v : Word) :
    (s.setRegIn cwp n v).pendingFp = s.pendingFp := by rw [State.setRegIn_eq]
@[simp] theorem State.setRegIn_cp (s : State) (cwp : BitVec 5) (n : RegNum) (v : Word) :
    (s.setRegIn cwp n v).cp = s.cp := by rw [State.setRegIn_eq]
@[simp] theorem State.setRegIn_mmu (s : State) (cwp : BitVec 5) (n : RegNum) (v : Word) :
    (s.setRegIn cwp n v).mmu = s.mmu := by rw [State.setRegIn_eq]
@[simp] theorem State.setRegIn_ibuf (s : State) (cwp : BitVec 5) (n : RegNum) (v : Word) :
    (s.setRegIn cwp n v).ibuf = s.ibuf := by rw [State.setRegIn_eq]
@[simp] theorem State.setRegIn_io (s : State) (cwp : BitVec 5) (n : RegNum) (v : Word) :
    (s.setRegIn cwp n v).io = s.io := by rw [State.setRegIn_eq]
@[simp] theorem State.setRegIn_ir (s : State) (cwp : BitVec 5) (n : RegNum) (v : Word) :
    (s.setRegIn cwp n v).ir = s.ir := by rw [State.setRegIn_eq]
@[simp] theorem State.setRegIn_hzFcmp (s : State) (cwp : BitVec 5) (n : RegNum) (v : Word) :
    (s.setRegIn cwp n v).hzFcmp = s.hzFcmp := by rw [State.setRegIn_eq]
@[simp] theorem State.setRegIn_hzLdfsr (s : State) (cwp : BitVec 5) (n : RegNum) (v : Word) :
    (s.setRegIn cwp n v).hzLdfsr = s.hzLdfsr := by rw [State.setRegIn_eq]
@[simp] theorem State.setRegIn_freeCtr (s : State) (cwp : BitVec 5) (n : RegNum) (v : Word) :
    (s.setRegIn cwp n v).freeCtr = s.freeCtr := by rw [State.setRegIn_eq]
@[simp] theorem State.setRegIn_mem (s : State) (cwp : BitVec 5) (n : RegNum) (v : Word) :
    (s.setRegIn cwp n v).mem = s.mem := by rw [State.setRegIn_eq]

@[simp] theorem State.setReg_cfg (s : State) (n : RegNum) (v : Word) : (s.setReg n v).cfg = s.cfg := s.setRegIn_cfg s.psr.cwp n v
@[simp] theorem State.setReg_pc (s : State) (n : RegNum) (v : Word) : (s.setReg n v).pc = s.pc := s.setRegIn_pc s.psr.cwp n v
@[simp] theorem State.setReg_npc (s : State) (n : RegNum) (v : Word) : (s.setReg n v).npc = s.npc := s.setRegIn_npc s.psr.cwp n v
@[simp] theorem State.setReg_psr (s : State) (n : RegNum) (v : Word) : (s.setReg n v).psr = s.psr := s.setRegIn_psr s.psr.cwp n v
@[simp] theorem State.setReg_wim (s : State) (n : RegNum) (v : Word) : (s.setReg n v).wim = s.wim := s.setRegIn_wim s.psr.cwp n v
@[simp] theorem State.setReg_tba (s : State) (n : RegNum) (v : Word) : (s.setReg n v).tba = s.tba := s.setRegIn_tba s.psr.cwp n v
@[simp] theorem State.setReg_tt (s : State) (n : RegNum) (v : Word) : (s.setReg n v).tt = s.tt := s.setRegIn_tt s.psr.cwp n v
@[simp] theorem State.setReg_y (s : State) (n : RegNum) (v : Word) : (s.setReg n v).y = s.y := s.setRegIn_y s.psr.cwp n v
@[simp] theorem State.setReg_asr (s : State) (n : RegNum) (v : Word) : (s.setReg n v).asr = s.asr := s.setRegIn_asr s.psr.cwp n v
@[simp] theorem State.setReg_pending (s : State) (n : RegNum) (v : Word) : (s.setReg n v).pending = s.pending := s.setRegIn_pending s.psr.cwp n v
@[simp] theorem State.setReg_annul (s : State) (n : RegNum) (v : Word) : (s.setReg n v).annul = s.annul := s.setRegIn_annul s.psr.cwp n v
@[simp] theorem State.setReg_mode (s : State) (n : RegNum) (v : Word) : (s.setReg n v).mode = s.mode := s.setRegIn_mode s.psr.cwp n v
@[simp] theorem State.setReg_pbError (s : State) (n : RegNum) (v : Word) : (s.setReg n v).pbError = s.pbError := s.setRegIn_pbError s.psr.cwp n v
@[simp] theorem State.setReg_requests (s : State) (n : RegNum) (v : Word) : (s.setReg n v).requests = s.requests := s.setRegIn_requests s.psr.cwp n v
@[simp] theorem State.setReg_raised (s : State) (n : RegNum) (v : Word) : (s.setReg n v).raised = s.raised := s.setRegIn_raised s.psr.cwp n v
@[simp] theorem State.setReg_storeBarrierPending (s : State) (n : RegNum) (v : Word) : (s.setReg n v).storeBarrierPending = s.storeBarrierPending := s.setRegIn_storeBarrierPending s.psr.cwp n v
@[simp] theorem State.setReg_pbBlockByte (s : State) (n : RegNum) (v : Word) : (s.setReg n v).pbBlockByte = s.pbBlockByte := s.setRegIn_pbBlockByte s.psr.cwp n v
@[simp] theorem State.setReg_pbBlockWord (s : State) (n : RegNum) (v : Word) : (s.setReg n v).pbBlockWord = s.pbBlockWord := s.setRegIn_pbBlockWord s.psr.cwp n v
@[simp] theorem State.setReg_lastWriteSync (s : State) (n : RegNum) (v : Word) : (s.setReg n v).lastWriteSync = s.lastWriteSync := s.setRegIn_lastWriteSync s.psr.cwp n v
@[simp] theorem State.setReg_irl (s : State) (n : RegNum) (v : Word) : (s.setReg n v).irl = s.irl := s.setRegIn_irl s.psr.cwp n v
@[simp] theorem State.setReg_resetIn (s : State) (n : RegNum) (v : Word) : (s.setReg n v).resetIn = s.resetIn := s.setRegIn_resetIn s.psr.cwp n v
@[simp] theorem State.setReg_rRegisterError (s : State) (n : RegNum) (v : Word) : (s.setReg n v).rRegisterError = s.rRegisterError := s.setRegIn_rRegisterError s.psr.cwp n v
@[simp] theorem State.setReg_f (s : State) (n : RegNum) (v : Word) : (s.setReg n v).f = s.f := s.setRegIn_f s.psr.cwp n v
@[simp] theorem State.setReg_fsr (s : State) (n : RegNum) (v : Word) : (s.setReg n v).fsr = s.fsr := s.setRegIn_fsr s.psr.cwp n v
@[simp] theorem State.setReg_fq (s : State) (n : RegNum) (v : Word) : (s.setReg n v).fq = s.fq := s.setRegIn_fq s.psr.cwp n v
@[simp] theorem State.setReg_fpuMode (s : State) (n : RegNum) (v : Word) : (s.setReg n v).fpuMode = s.fpuMode := s.setRegIn_fpuMode s.psr.cwp n v
@[simp] theorem State.setReg_pendingFp (s : State) (n : RegNum) (v : Word) : (s.setReg n v).pendingFp = s.pendingFp := s.setRegIn_pendingFp s.psr.cwp n v
@[simp] theorem State.setReg_cp (s : State) (n : RegNum) (v : Word) : (s.setReg n v).cp = s.cp := s.setRegIn_cp s.psr.cwp n v
@[simp] theorem State.setReg_mmu (s : State) (n : RegNum) (v : Word) : (s.setReg n v).mmu = s.mmu := s.setRegIn_mmu s.psr.cwp n v
@[simp] theorem State.setReg_ibuf (s : State) (n : RegNum) (v : Word) : (s.setReg n v).ibuf = s.ibuf := s.setRegIn_ibuf s.psr.cwp n v
@[simp] theorem State.setReg_io (s : State) (n : RegNum) (v : Word) : (s.setReg n v).io = s.io := s.setRegIn_io s.psr.cwp n v
@[simp] theorem State.setReg_ir (s : State) (n : RegNum) (v : Word) : (s.setReg n v).ir = s.ir := s.setRegIn_ir s.psr.cwp n v
@[simp] theorem State.setReg_hzFcmp (s : State) (n : RegNum) (v : Word) : (s.setReg n v).hzFcmp = s.hzFcmp := s.setRegIn_hzFcmp s.psr.cwp n v
@[simp] theorem State.setReg_hzLdfsr (s : State) (n : RegNum) (v : Word) : (s.setReg n v).hzLdfsr = s.hzLdfsr := s.setRegIn_hzLdfsr s.psr.cwp n v
@[simp] theorem State.setReg_freeCtr (s : State) (n : RegNum) (v : Word) : (s.setReg n v).freeCtr = s.freeCtr := s.setRegIn_freeCtr s.psr.cwp n v
@[simp] theorem State.setReg_mem (s : State) (n : RegNum) (v : Word) : (s.setReg n v).mem = s.mem := s.setRegIn_mem s.psr.cwp n v

end Sys2Proof.Machine
end

