-- ==== Sys2Proof/Laws/Registers.lean ====
section
/-! SUPPORT. The r registers (R22 to R24) and the f registers (R82, R83): a read after a write, which names are one register,
and the window arithmetic. -/

namespace Sys2Proof.Machine

theorem windowIndex_lt (c : Config) (w : BitVec 5) (n : RegNum) : windowIndex c w n < 512 := by
  have h : c.nwindows ≤ 32 := by have := c.nwinMinus2.isLt; unfold Config.nwindows; omega
  have h' : 2 ≤ c.nwindows := by unfold Config.nwindows; omega
  unfold windowIndex
  exact Nat.lt_of_lt_of_le (Nat.mod_lt _ (by omega)) (by omega)

theorem windowIndex_mod (c : Config) (w : BitVec 5) (n : RegNum) : windowIndex c w n % 512 = windowIndex c w n :=
  Nat.mod_eq_of_lt (windowIndex_lt c w n)

/-- The registers r[8] to r[31] of one window are all different. -/
theorem windowIndex_inj {c : Config} {w : BitVec 5} {n n' : RegNum} (h : 8 ≤ n.toNat) (h' : 8 ≤ n'.toNat)
    (e : windowIndex c w n = windowIndex c w n') : n = n' := by
  have hw : 2 ≤ c.nwindows := by unfold Config.nwindows; omega
  unfold windowIndex at e
  have := (Nat.ModEq.add_right_cancel' _ e).eq_of_lt_of_lt (by omega) (by omega)
  exact BitVec.eq_of_toNat_eq (by omega)

/-- In one window only a register's own number names it. -/
theorem sameRegister_same_window {c : Config} {w : BitVec 5} {n n' : RegNum} (h : sameRegister c w n w n') : n = n' := by
  rcases h with ⟨h, -⟩ | ⟨h, h', e⟩
  · exact h
  · exact windowIndex_inj h h' e

/-- A register read depends on nothing but the registers and NWINDOWS. -/
theorem State.regIn_congr {s t : State} (hc : t.cfg = s.cfg) (hg : t.globals = s.globals) (hw : t.windows = s.windows)
    (w : BitVec 5) (n : RegNum) : t.regIn w n = s.regIn w n := by
  unfold State.regIn
  simp only [hc, hg, hw]

/-- r[0] reads 0 (R24). -/
@[simp] theorem State.regIn_zero (s : State) (w : BitVec 5) : s.regIn w 0#5 = 0#32 := rfl

@[simp] theorem State.reg_zero (s : State) : s.reg 0#5 = 0#32 := rfl

theorem State.setReg_zero (s : State) (v : Word) : s.setReg 0#5 v = s := rfl

/-- The register written reads as the value, r[0] as 0 (R22, R24). -/
theorem State.regIn_setRegIn_same (s : State) (w : BitVec 5) (n : RegNum) (v : Word) :
    (s.setRegIn w n v).regIn w n = if n = 0#5 then 0#32 else v := by
  unfold State.regIn State.setRegIn
  by_cases h0 : n = 0#5
  · simp [h0]
  · by_cases h8 : n.toNat < 8 <;> simp [h0, h8]

/-- Every other register reads as before. -/
theorem State.regIn_setRegIn_ne (s : State) {w w' : BitVec 5} {n n' : RegNum} (v : Word)
    (h : ¬ sameRegister s.cfg w' n' w n) : (s.setRegIn w n v).regIn w' n' = s.regIn w' n' := by
  unfold State.setRegIn
  by_cases h0 : n = 0#5
  · simp [h0]
  · by_cases h8 : n.toNat < 8
    · simp only [h0, h8, if_true, if_false]
      unfold State.regIn
      by_cases h0' : n' = 0#5
      · simp [h0']
      · by_cases h8' : n'.toNat < 8
        · have hne : n'.toNat ≠ n.toNat := fun e => h (.inl ⟨BitVec.eq_of_toNat_eq e, h8'⟩)
          have hne' : ¬ n.toNat % 8 = n'.toNat % 8 := by omega
          simp only [h0', h8', if_true, if_false]
          rw [Vector.getElem_set_ne _ _ hne']
        · simp [h0', h8']
    · simp only [h0, h8, if_false]
      unfold State.regIn
      by_cases h0' : n' = 0#5
      · simp [h0']
      · by_cases h8' : n'.toNat < 8
        · simp [h0', h8']
        · have hne : ¬ windowIndex s.cfg w n % 512 = windowIndex s.cfg w' n' % 512 := by
            rw [windowIndex_mod, windowIndex_mod]
            exact fun e => h (.inr ⟨by omega, by omega, e.symm⟩)
          simp only [h0', h8', if_false]
          rw [Vector.getElem_set_ne _ _ hne]

/-- A write of an r register, said once: what it writes and that it writes nothing else. -/
theorem writesReg_setRegIn (s : State) (w : BitVec 5) (n : RegNum) (v : Word) : WritesReg s (s.setRegIn w n v) w n v :=
  ⟨s.regIn_setRegIn_same w n v, fun _ _ h => s.regIn_setRegIn_ne v h⟩

theorem writesReg_setReg (s : State) (n : RegNum) (v : Word) : WritesReg s (s.setReg n v) s.psr.cwp n v :=
  writesReg_setRegIn s s.psr.cwp n v

/-- What a state with the same registers as one that was written says. -/
theorem WritesReg.congr {s t u : State} {w : BitVec 5} {n : RegNum} {v : Word} (h : WritesReg s t w n v)
    (hc : u.cfg = t.cfg) (hg : u.globals = t.globals) (hw : u.windows = t.windows) : WritesReg s u w n v :=
  ⟨(State.regIn_congr hc hg hw _ _).trans h.written, fun w' n' hn => (State.regIn_congr hc hg hw _ _).trans (h.others w' n' hn)⟩

/-- In the window written, only the register written changes. -/
theorem WritesReg.reg_ne {s t : State} {w : BitVec 5} {n n' : RegNum} {v : Word} (h : WritesReg s t w n v) (hn : n' ≠ n) :
    t.regIn w n' = s.regIn w n' :=
  h.others w n' fun e => hn (sameRegister_same_window e)

theorem KeepsRegs.of_eq {s t : State} (hc : t.cfg = s.cfg) (hg : t.globals = s.globals) (hw : t.windows = s.windows) :
    KeepsRegs s t := State.regIn_congr hc hg hw

theorem KeepsMemory.of_eq {s t : State} (h : t.mem = s.mem) : KeepsMemory s t := fun k => by rw [h]

/-! Window arithmetic (R25, R26). -/

theorem two_le_nwindows (c : Config) : 2 ≤ c.nwindows := by unfold Config.nwindows; omega

theorem nwindows_le (c : Config) : c.nwindows ≤ 32 := by
  have := c.nwinMinus2.isLt
  unfold Config.nwindows
  omega

theorem prevWindow_toNat (c : Config) (w : BitVec 5) :
    (prevWindow c w).toNat = (w.toNat + (c.nwindows - 1)) % c.nwindows := by
  have := two_le_nwindows c
  have h := Nat.mod_lt (w.toNat + (c.nwindows - 1)) (show 0 < c.nwindows by omega)
  have := nwindows_le c
  unfold prevWindow
  rw [BitVec.toNat_ofNat]
  exact Nat.mod_eq_of_lt (by omega)

theorem nextWindow_toNat (c : Config) (w : BitVec 5) : (nextWindow c w).toNat = (w.toNat + 1) % c.nwindows := by
  have := two_le_nwindows c
  have h := Nat.mod_lt (w.toNat + 1) (show 0 < c.nwindows by omega)
  have := nwindows_le c
  unfold nextWindow
  rw [BitVec.toNat_ofNat]
  exact Nat.mod_eq_of_lt (by omega)

theorem prevWindow_lt (c : Config) (w : BitVec 5) : (prevWindow c w).toNat < c.nwindows := by
  rw [prevWindow_toNat]
  exact Nat.mod_lt _ (by have := two_le_nwindows c; omega)

theorem nextWindow_lt (c : Config) (w : BitVec 5) : (nextWindow c w).toNat < c.nwindows := by
  rw [nextWindow_toNat]
  exact Nat.mod_lt _ (by have := two_le_nwindows c; omega)

/-! The f registers (R82, R83). -/

@[simp] theorem State.freg_setFreg_same (s : State) (n : RegNum) (v : Word) : (s.setFreg n v).freg n = v := by
  simp [State.freg, State.setFreg]

theorem State.freg_setFreg_ne (s : State) {n n' : RegNum} (v : Word) (h : n' ≠ n) : (s.setFreg n v).freg n' = s.freg n' := by
  have : ¬ n.toNat = n'.toNat := fun e => h (BitVec.eq_of_toNat_eq e.symm)
  simp only [State.freg, State.setFreg]
  rw [Vector.getElem_set_ne _ _ this]

/-- The even and the odd half of a pair are different registers. -/
theorem evenReg_ne_oddReg (n : RegNum) : evenReg n ≠ oddReg n := by
  intro h
  have := congrArg (fun x : RegNum => x.getLsbD 0) h
  simp [evenReg, oddReg] at this

end Sys2Proof.Machine
end

