-- ==== Sys2Proof/Laws/Operations.lean ====
section
/-! SUPPORT. What each shared operation can do, once: the memory access, the traps, the delayed writes. -/

namespace Sys2Proof.Machine

/-! Where an access goes. -/

theorem State.busOutcome_congr {s v : State} (hc : v.cfg = s.cfg) (w : Bool) (k : Nat) : v.busOutcome w k = s.busOutcome w k := by
  unfold State.busOutcome
  rw [hc]

theorem State.tableWord_congr {s v : State} (hc : v.cfg = s.cfg) (hm : v.mem = s.mem) (pa : Nat) :
    v.tableWord pa = s.tableWord pa := by
  unfold State.tableWord
  rw [State.busOutcome_congr hc, hm]

theorem State.walk_congr {s v : State} (hc : v.cfg = s.cfg) (hm : v.mem = s.mem) (is : List Nat) (address level : Nat) :
    v.walk address level is = s.walk address level is := by
  induction is generalizing address level with
  | nil => simp only [State.walk, State.tableWord_congr hc hm]
  | cons i rest ih => simp only [State.walk, State.tableWord_congr hc hm, ih]

theorem State.reachKey_congr {s v : State} (hc : v.cfg = s.cfg) (w : Bool) (k : Nat) : v.reachKey w k = s.reachKey w k := by
  unfold State.reachKey
  rw [State.busOutcome_congr hc]

theorem State.mmuFault_congr {s v : State} (hm : v.mmu = s.mmu) (asi : BitVec 8) (c : FaultClass) (i : FaultInfo) :
    v.mmuFault asi c i = ({ v with mmu := (s.mmuFault asi c i).1.mmu }, (s.mmuFault asi c i).2) := by
  unfold State.mmuFault
  rw [hm]

theorem State.mmuBusFault_congr {s v : State} (hc : v.cfg = s.cfg) (hm : v.mmu = s.mmu) (hn : v.freeCtr = s.freeCtr)
    (asi : BitVec 8) (c : FaultClass) (i : FaultInfo) :
    v.mmuBusFault asi c i =
      ({ v with mmu := (s.mmuBusFault asi c i).1.mmu, freeCtr := (s.mmuBusFault asi c i).1.freeCtr },
       (s.mmuBusFault asi c i).2) := by
  have hb : v.busErrorBits = s.busErrorBits := by unfold State.busErrorBits; rw [hc, hn]
  unfold State.mmuBusFault
  rw [hb, State.mmuFault_congr (s := s.drawn) (v := v.drawn) hm]
  show (_, _) = ({ v with mmu := _, freeCtr := s.freeCtr + 1 }, _)
  rw [← hn]
  rfl

/-- What an access reads of the state: two states that agree on it are accessed alike. -/
structure State.SameAccess (s v : State) : Prop where
  cfg : v.cfg = s.cfg
  mmu : v.mmu = s.mmu
  mem : v.mem = s.mem
  ibuf : v.ibuf = s.ibuf
  freeCtr : v.freeCtr = s.freeCtr

theorem State.SameAccess.refl (s : State) : State.SameAccess s s := ⟨rfl, rfl, rfl, rfl, rfl⟩

/-- `v` with what the access of `s` changed. -/
def State.withAccess (v t : State) : State := { v with mem := t.mem, mmu := t.mmu, ibuf := t.ibuf, freeCtr := t.freeCtr }

theorem State.SameAccess.withAccess {s v : State} (h : State.SameAccess s v) : v.withAccess s = v := by
  unfold State.withAccess
  rw [← h.mem, ← h.mmu, ← h.ibuf, ← h.freeCtr]

theorem State.SameAccess.fault {s v : State} (h : State.SameAccess s v) (asi : BitVec 8) (c : FaultClass) (i : FaultInfo) :
    v.mmuFault asi c i = (v.withAccess (s.mmuFault asi c i).1, (s.mmuFault asi c i).2) := by
  rw [State.mmuFault_congr h.mmu]
  unfold State.withAccess
  show (_, _) = ({ v with mem := s.mem, mmu := _, ibuf := s.ibuf, freeCtr := s.freeCtr }, _)
  rw [← h.mem, ← h.ibuf, ← h.freeCtr]

theorem State.SameAccess.busFault {s v : State} (h : State.SameAccess s v) (asi : BitVec 8) (c : FaultClass) (i : FaultInfo) :
    v.mmuBusFault asi c i = (v.withAccess (s.mmuBusFault asi c i).1, (s.mmuBusFault asi c i).2) := by
  rw [State.mmuBusFault_congr h.cfg h.mmu h.freeCtr]
  unfold State.withAccess
  show (_, _) = ({ v with mem := s.mem, mmu := _, ibuf := s.ibuf, freeCtr := _ }, _)
  rw [← h.mem, ← h.ibuf]

theorem State.SameAccess.page {s v : State} (h : State.SameAccess s v) (asi : BitVec 8) (c : FaultClass) (store : Bool)
    (address : Nat) (e : Word) (i : FaultInfo) :
    v.accessPage asi c store address e i =
      (v.withAccess (s.accessPage asi c store address e i).1, (s.accessPage asi c store address e i).2) := by
  have hk : v.storeKey address 0xF#4 (referencedEntry e store) =
      v.withAccess (s.storeKey address 0xF#4 (referencedEntry e store)) := by
    unfold State.storeKey State.withAccess
    simp only [h.cfg, h.mem, h.ibuf, ← h.mmu, ← h.freeCtr]
  unfold State.accessPage
  rw [State.reachKey_congr h.cfg, State.busOutcome_congr h.cfg]
  split
  · exact h.busFault ..
  · rw [h.withAccess]
  · split
    · rw [h.withAccess]
    · split
      · rw [hk]
      · exact h.busFault ..

/-- A translation changes only memory (an entry's R and M bits), the MMU's registers, the free-value counter and what an
instruction buffer knows of the entry, and depends on nothing else. -/
theorem State.translate_congr {s v : State} (h : State.SameAccess s v) (asi : BitVec 8) (fetch store : Bool) (va : Word) :
    v.translate asi fetch store va =
      (v.withAccess (s.translate asi fetch store va).1, (s.translate asi fetch store va).2) := by
  have hr : v.rootAddress = s.rootAddress := by unfold State.rootAddress; rw [h.mmu]
  unfold State.translate
  rw [hr, State.walk_congr h.cfg h.mem]
  split
  · exact h.busFault ..
  · exact h.fault ..
  · dsimp only
    split
    · exact h.page ..
    · exact h.fault ..

theorem State.passThrough_congr {s v : State} (h : State.SameAccess s v) (asi : BitVec 8) (store : Bool) (va : Word) :
    v.passThrough asi store va =
      (v.withAccess (s.passThrough asi store va).1, (s.passThrough asi store va).2) := by
  unfold State.passThrough
  rw [State.reachKey_congr h.cfg, h.mmu, h.freeCtr]
  split
  · split
    · exact h.busFault ..
    · rw [h.withAccess]
  · rw [h.withAccess]

/-- `State.reach` depends only on what `SameAccess` names, and changes only what `withAccess` does. -/
theorem State.reach_congr {s v : State} (h : State.SameAccess s v) (asi : BitVec 8) (fetch store : Bool) (va : Word) :
    v.reach asi fetch store va = (v.withAccess (s.reach asi fetch store va).1, (s.reach asi fetch store va).2) := by
  have ho (kind : SpaceKind) : v.otherSpace kind asi store va = s.otherSpace kind asi store va := by
    unfold State.otherSpace
    cases kind <;> simp only [State.reachKey_congr h.cfg]
  unfold State.reach
  rw [h.cfg, h.mmu]
  split
  · split
    · exact State.translate_congr h ..
    · rw [State.reachKey_congr h.cfg, h.withAccess]
  · split
    · exact State.passThrough_congr h ..
    · split
      · rw [ho, h.withAccess]
      · rw [h.withAccess]

theorem State.reach_frame (s : State) (asi : BitVec 8) (fetch store : Bool) (va : Word) :
    (s.reach asi fetch store va).1 = s.withAccess (s.reach asi fetch store va).1 :=
  congrArg Prod.fst (State.reach_congr (State.SameAccess.refl s) asi fetch store va)

/-- Without translation an access changes nothing (R130, R216). -/
theorem State.reach_untranslated {s : State} (h : s.untranslated) (asi : BitVec 8) (fetch store : Bool) (va : Word) :
    (s.reach asi fetch store va).1 = s := by
  have h' : (s.cfg.hasRefMmu && s.mmu.e) = false := by
    unfold State.untranslated at h
    rw [← Bool.not_eq_true, Bool.and_eq_true]
    exact h
  unfold State.reach
  rw [h']
  split
  · rfl
  · split
    · rename_i hp
      have he : s.mmu.e = false := by
        cases hh : s.cfg.hasRefMmu
        · rw [hh] at hp; simp at hp
        · rw [hh] at h'; simpa using h'
      unfold State.passThrough
      rw [he]
      split <;> rfl
    · split <;> rfl

/-- What finding the place of an access can do to the state: nothing, record a fault (an external bus error draws a free value), or
set the bits of a table entry. -/
inductive State.Located (s : State) : State → Prop where
  | same : State.Located s s
  | fault (c : FaultClass) (i : FaultInfo) : State.Located s { s with mmu := s.mmu.record c i }
  | busFault (c : FaultClass) (i : FaultInfo) : State.Located s { s.drawn with mmu := s.mmu.record c i }
  | entry (k : Nat) (e : Word) : State.Located s (s.storeKey k 0xF#4 e)

theorem State.accessPage_located (s : State) (asi : BitVec 8) (c : FaultClass) (store : Bool) (address : Nat) (e : Word)
    (i : FaultInfo) : State.Located s (s.accessPage asi c store address e i).1 := by
  unfold State.accessPage
  split
  · exact .busFault ..
  · exact .same
  · split
    · exact .same
    · split
      · exact .entry ..
      · exact .busFault ..

theorem State.reach_located (s : State) (asi : BitVec 8) (fetch store : Bool) (va : Word) :
    State.Located s (s.reach asi fetch store va).1 := by
  unfold State.reach
  split
  · split
    · unfold State.translate
      split
      · exact .busFault ..
      · exact .fault ..
      · dsimp only
        split
        · exact State.accessPage_located ..
        · exact .fault ..
    · exact .same
  · split
    · unfold State.passThrough
      split
      · split
        · exact .busFault ..
        · exact .same
      · exact .same
    · split <;> exact .same

/-- The canonical form is kept by every access. -/
theorem State.reach_wf {s : State} (h : Memory.wf s.mem = true) (asi : BitVec 8) (fetch store : Bool) (va : Word) :
    Memory.wf (s.reach asi fetch store va).1.mem = true := by
  have hl := State.reach_located s asi fetch store va
  generalize (s.reach asi fetch store va).1 = t at hl ⊢
  cases hl
  · exact h
  · exact h
  · exact h
  · rename_i k e
    exact Memory.wf_writeMasked h k 0xF#4 e

theorem Mmu.record_fav (m : Mmu) (h : m.fav = m.cls.isSome) (c : FaultClass) (i : FaultInfo) :
    (m.record c i).fav = (m.record c i).cls.isSome := by
  unfold Mmu.record
  split <;> first | rfl | exact h

theorem Mmu.record_ctx (m : Mmu) (c : FaultClass) (i : FaultInfo) : (m.record c i).ctx = m.ctx := by
  unfold Mmu.record
  split <;> rfl

/-- What an access keeps of the MMU's registers. -/
structure Mmu.Keeps (m n : Mmu) : Prop where
  fav : m.fav = m.cls.isSome → n.fav = n.cls.isSome
  ctx : n.ctx = m.ctx

theorem Mmu.Keeps.rfl {m : Mmu} : Mmu.Keeps m m := ⟨id, Eq.refl _⟩

theorem Mmu.record_keeps (m : Mmu) (c : FaultClass) (i : FaultInfo) : Mmu.Keeps m (m.record c i) :=
  ⟨fun h => Mmu.record_fav m h .., Mmu.record_ctx ..⟩

theorem State.reach_mmu (s : State) (asi : BitVec 8) (fetch store : Bool) (va : Word) :
    Mmu.Keeps s.mmu (s.reach asi fetch store va).1.mmu := by
  have hl := State.reach_located s asi fetch store va
  generalize (s.reach asi fetch store va).1 = t at hl ⊢
  cases hl
  · exact Mmu.Keeps.rfl
  · exact Mmu.record_keeps ..
  · exact Mmu.record_keeps ..
  · exact Mmu.Keeps.rfl

/-! The instruction buffer. -/

/-- Without remembered stores of a key a fetch of it reads memory (R186). -/
theorem State.fetchedWord_current {s : State} {k : Nat} (h : oldWords k s.ibuf = []) (w : Word) : s.fetchedWord k w = (s, w) := by
  unfold State.fetchedWord
  rw [h]

/-- A fetch changes only what an instruction buffer knows, and the free-value counter. -/
theorem State.fetchedWord_frame (s : State) (k : Nat) (w : Word) :
    (s.fetchedWord k w).1 = { s with ibuf := (s.fetchedWord k w).1.ibuf, freeCtr := (s.fetchedWord k w).1.freeCtr } := by
  unfold State.fetchedWord
  split <;> rfl

/-! Reads. -/

/-- memory_read changes only memory (an entry's R and M bits), the MMU's registers, the instruction buffer, the past of the device
interfaces and the free-value counter. -/
theorem State.memoryRead_frame (s : State) (asi : BitVec 8) (fetch isWord : Bool) (a : Word) :
    (s.memoryRead asi fetch isWord a).1 =
      { s with
        mem := (s.memoryRead asi fetch isWord a).1.mem
        mmu := (s.memoryRead asi fetch isWord a).1.mmu
        ibuf := (s.memoryRead asi fetch isWord a).1.ibuf
        io := (s.memoryRead asi fetch isWord a).1.io
        freeCtr := (s.memoryRead asi fetch isWord a).1.freeCtr } := by
  unfold State.memoryRead
  split
  · dsimp only
    unfold State.mmuProbe
    split <;> rfl
  · split
    · dsimp only
      unfold State.mmuRead
      split
      · split <;> rfl
      · rfl
    · have hf := State.reach_frame s asi fetch false a
      unfold State.withAccess at hf
      split
      · rename_i t k h
        rw [h] at hf
        dsimp only at hf
        split
        · dsimp only
          rw [State.fetchedWord_frame, hf]
        · dsimp only
          rw [hf]
      · rename_i t k h
        rw [h] at hf
        dsimp only at hf ⊢
        unfold State.readDevice
        rw [hf]
      · rename_i t h
        rw [h] at hf
        dsimp only at hf ⊢
        rw [hf]
      · rename_i t e h
        rw [h] at hf
        dsimp only at hf ⊢
        rw [hf]

theorem State.memoryRead_keeps (s : State) (asi : BitVec 8) (fetch isWord : Bool) (a : Word) :
    Mmu.Keeps s.mmu (s.memoryRead asi fetch isWord a).1.mmu := by
  unfold State.memoryRead
  split
  · dsimp only
    unfold State.mmuProbe
    split
    · exact Mmu.Keeps.rfl
    · exact Mmu.record_keeps ..
    · exact Mmu.record_keeps ..
  · split
    · dsimp only
      unfold State.mmuRead
      split
      · split <;> first | exact Mmu.Keeps.rfl | exact ⟨fun _ => Eq.refl _, Eq.refl _⟩
      · exact Mmu.Keeps.rfl
    · have hk := State.reach_mmu s asi fetch false a
      split <;> rename_i h <;> rw [h] at hk
      · split
        · dsimp only
          rw [State.fetchedWord_frame]
          exact hk
        · exact hk
      · exact hk
      · exact hk
      · exact hk

theorem State.memoryRead_wf {s : State} (h : Memory.wf s.mem = true) (asi : BitVec 8) (fetch isWord : Bool) (a : Word) :
    Memory.wf (s.memoryRead asi fetch isWord a).1.mem = true := by
  unfold State.memoryRead
  split
  · dsimp only
    unfold State.mmuProbe
    split <;> exact h
  · split
    · dsimp only
      unfold State.mmuRead
      split
      · split <;> exact h
      · exact h
    · have hk := State.reach_wf h asi fetch false a
      split <;> rename_i h <;> rw [h] at hk
      · split
        · dsimp only
          rw [State.fetchedWord_frame]
          exact hk
        · exact hk
      · exact hk
      · exact hk
      · exact hk

/-- memory_read depends only on what `SameAccess` names and the past of the device interfaces. -/
theorem State.memoryRead_congr {s v : State} (h : State.SameAccess s v) (hio : v.io = s.io) (asi : BitVec 8)
    (fetch isWord : Bool) (a : Word) :
    v.memoryRead asi fetch isWord a =
      ({ v.withAccess (s.memoryRead asi fetch isWord a).1 with io := (s.memoryRead asi fetch isWord a).1.io },
       (s.memoryRead asi fetch isWord a).2) := by
  have hv : v = { v with
      cfg := s.cfg, mem := s.mem, mmu := s.mmu, ibuf := s.ibuf, freeCtr := s.freeCtr, io := s.io } := by
    rw [← h.cfg, ← h.mem, ← h.mmu, ← h.ibuf, ← h.freeCtr, ← hio]
  have hd (down : Nat) (is : List Nat) (x level : Nat) : v.probeDown x level down is = s.probeDown x level down is := by
    induction is generalizing x level down with
    | nil => simp only [State.probeDown, State.tableWord_congr h.cfg h.mem]
    | cons i rest ih => simp only [State.probeDown, State.tableWord_congr h.cfg h.mem, ih]
  have hp : v.probeWalk a = s.probeWalk a := by
    have hr : v.rootAddress = s.rootAddress := by unfold State.rootAddress; rw [h.mmu]
    unfold State.probeWalk
    simp only [hd, hr, State.walk_congr h.cfg h.mem]
  have hr := State.reach_congr h asi fetch false a
  have hf := State.reach_frame s asi fetch false a
  clear hd h hio
  generalize hb : ({ v with
      cfg := s.cfg, mem := s.mem, mmu := s.mmu, ibuf := s.ibuf, freeCtr := s.freeCtr, io := s.io } : State) = b at hv
  unfold State.memoryRead
  rw [hr]
  generalize s.reach asi fetch false a = r at hf
  obtain ⟨t, r⟩ := r
  have hti : t.io = s.io := by dsimp only at hf; rw [hf]; rfl
  have htc : t.cfg = s.cfg := by dsimp only at hf; rw [hf]; rfl
  rw [hv] at hp ⊢
  rw [← hb] at hp ⊢
  dsimp only
  split
  · unfold State.mmuProbe
    rw [hp]
    cases s.probeWalk a <;> rfl
  · split
    · unfold State.mmuRead
      split
      · split <;> rfl
      · rfl
    · cases r with
      | key k =>
        dsimp only
        split
        · unfold State.fetchedWord State.withAccess
          dsimp only
          split <;> (dsimp only; rw [← hti]; try rfl)
        · dsimp only; rw [hti]; rfl
      | device k => dsimp only [State.readDevice]; rw [hti]; rfl
      | suppressed => dsimp only; rw [hti]; rfl
      | failed e => dsimp only; rw [hti]; rfl

/-! Writes. -/

/-- memory_write changes only memory, the MMU's registers, the store signals, the instruction buffer, the past of the device
interfaces and the free-value counter. -/
theorem State.memoryWrite_frame (s : State) (asi : BitVec 8) (isWord : Bool) (a : Word) (mask : BitVec 4) (data : Word) :
    (s.memoryWrite asi isWord a mask data).1 =
      { s with
        lastWriteSync := s.storeBarrierPending || !s.psoMode
        storeBarrierPending := false
        ibuf := (s.memoryWrite asi isWord a mask data).1.ibuf
        io := (s.memoryWrite asi isWord a mask data).1.io
        freeCtr := (s.memoryWrite asi isWord a mask data).1.freeCtr
        mem := (s.memoryWrite asi isWord a mask data).1.mem
        mmu := (s.memoryWrite asi isWord a mask data).1.mmu } := by
  unfold State.memoryWrite
  dsimp only
  split
  · rfl
  · split
    · unfold State.mmuWrite
      split
      · split <;> rfl
      · rfl
    · have hf := State.reach_frame
        { s with lastWriteSync := s.storeBarrierPending || !s.psoMode, storeBarrierPending := false } asi false true a
      unfold State.withAccess at hf
      split <;> rename_i h <;> rw [h] at hf <;> dsimp only at hf ⊢
      · unfold State.storeKey; rw [hf]
      · unfold State.writeDevice; rw [hf]
      · rw [hf]
      · rw [hf]

theorem State.memoryWrite_keeps (s : State) (asi : BitVec 8) (isWord : Bool) (a : Word) (mask : BitVec 4) (data : Word)
    (h : s.mmu.ctx &&& contextMask s.cfg = s.mmu.ctx) :
    (s.mmu.fav = s.mmu.cls.isSome →
      (s.memoryWrite asi isWord a mask data).1.mmu.fav = (s.memoryWrite asi isWord a mask data).1.mmu.cls.isSome) ∧
    (s.memoryWrite asi isWord a mask data).1.mmu.ctx &&& contextMask s.cfg = (s.memoryWrite asi isWord a mask data).1.mmu.ctx := by
  unfold State.memoryWrite
  dsimp only
  split
  · exact ⟨id, h⟩
  · split
    · unfold State.mmuWrite
      split
      · split
        · exact ⟨id, h⟩
        · exact ⟨id, h⟩
        · refine ⟨id, ?_⟩
          dsimp only
          rw [BitVec.and_assoc, BitVec.and_self]
        · exact ⟨id, h⟩
      · exact ⟨id, h⟩
    · have hk := State.reach_mmu { s with lastWriteSync := s.storeBarrierPending || !s.psoMode, storeBarrierPending := false } asi false true a
      split <;> rename_i h' <;> rw [h'] at hk <;> exact ⟨hk.fav, by
        first
        | (show (State.storeKey _ _ _ _).mmu.ctx &&& _ = (State.storeKey _ _ _ _).mmu.ctx; simp only [State.storeKey_mmu]; rw [hk.ctx]; exact h)
        | (show (State.writeDevice _ _ _ _ _).mmu.ctx &&& _ = (State.writeDevice _ _ _ _ _).mmu.ctx; simp only [State.writeDevice_mmu]; rw [hk.ctx]; exact h)
        | (dsimp only; rw [hk.ctx]; exact h)⟩

theorem State.memoryWrite_wf {s : State} (h : Memory.wf s.mem = true) (asi : BitVec 8) (isWord : Bool) (a : Word)
    (mask : BitVec 4) (data : Word) : Memory.wf (s.memoryWrite asi isWord a mask data).1.mem = true := by
  unfold State.memoryWrite
  dsimp only
  split
  · exact h
  · split
    · unfold State.mmuWrite
      split
      · split <;> exact h
      · exact h
    · have hk := State.reach_wf (s := { s with lastWriteSync := s.storeBarrierPending || !s.psoMode, storeBarrierPending := false }) h asi false true a
      split <;> rename_i h' <;> rw [h'] at hk
      · exact Memory.wf_writeMasked hk ..
      · exact hk
      · exact hk
      · exact hk

/-! Traps and delayed writes. -/

/-- Applying delayed writes changes only the state registers. -/
theorem State.applyWrite_frame (s : State) (w : StateWrite) :
    s.applyWrite w =
      { s with psr := (s.applyWrite w).psr, wim := (s.applyWrite w).wim, tba := (s.applyWrite w).tba, y := (s.applyWrite w).y
               asr := (s.applyWrite w).asr } := by
  cases w <;> rfl

theorem State.applyWrite_pil (s : State) (w : StateWrite) :
    (s.applyWrite w).psr.et = s.psr.et ∧ (s.applyWrite w).psr.pil = s.psr.pil := by
  cases w <;> exact ⟨rfl, rfl⟩

theorem State.applyWrites_frame (ws : List PendingWrite) (s : State) :
    s.applyWrites ws =
      { s with psr := (s.applyWrites ws).psr, wim := (s.applyWrites ws).wim, tba := (s.applyWrites ws).tba
               y := (s.applyWrites ws).y, asr := (s.applyWrites ws).asr } := by
  induction ws generalizing s with
  | nil => rfl
  | cons w rest ih =>
    have h := ih (s.applyWrite w.write)
    have h' := State.applyWrite_frame s w.write
    show (s.applyWrite w.write).applyWrites rest = { s with
      psr := ((s.applyWrite w.write).applyWrites rest).psr, wim := ((s.applyWrite w.write).applyWrites rest).wim
      tba := ((s.applyWrite w.write).applyWrites rest).tba, y := ((s.applyWrite w.write).applyWrites rest).y
      asr := ((s.applyWrite w.write).applyWrites rest).asr }
    generalize (s.applyWrite w.write).applyWrites rest = u at h ⊢
    generalize s.applyWrite w.write = v at h h'
    rw [h, h']

/-- ET and PIL are written at once, never late (R47). -/
theorem State.applyWrites_pil (ws : List PendingWrite) (s : State) :
    (s.applyWrites ws).psr.et = s.psr.et ∧ (s.applyWrites ws).psr.pil = s.psr.pil := by
  induction ws generalizing s with
  | nil => exact ⟨rfl, rfl⟩
  | cons w rest ih =>
    have h := ih (s.applyWrite w.write)
    have h' := State.applyWrite_pil s w.write
    exact ⟨h.1.trans h'.1, h.2.trans h'.2⟩

theorem State.drainPending_frame (s : State) :
    s.drainPending =
      { s with psr := s.drainPending.psr, wim := s.drainPending.wim, tba := s.drainPending.tba, y := s.drainPending.y
               asr := s.drainPending.asr, pending := [] } := by
  have h := State.applyWrites_frame s.pending s
  unfold State.drainPending
  generalize s.applyWrites s.pending = u at h ⊢
  rw [h]

theorem State.drainPending_nil {s : State} (h : s.pending = []) : s.drainPending = s := by
  unfold State.drainPending State.applyWrites
  rw [h]
  show { s with pending := [] } = s
  rw [← h]

theorem State.tickPending_nil {s : State} (h : s.pending = []) : s.tickPending = s := by
  unfold State.tickPending State.applyWrites
  rw [h]
  show { s with pending := [] } = s
  rw [← h]

/-- The tt and the requests do not matter to the delayed writes. -/
theorem State.drainPending_with (s : State) (t : BitVec 8) (r : Requests) :
    { s with tt := t, requests := r }.drainPending = { s.drainPending with tt := t, requests := r } := by
  have h : ∀ (ws : List PendingWrite) (s : State),
      { s with tt := t, requests := r }.applyWrites ws = { s.applyWrites ws with tt := t, requests := r } := by
    intro ws
    induction ws with
    | nil => intro s; rfl
    | cons w rest ih =>
      intro s
      have h' : { s with tt := t, requests := r }.applyWrite w.write =
          { s.applyWrite w.write with tt := t, requests := r } := by
        cases w.write <;> rfl
      show ({ s with tt := t, requests := r }.applyWrite w.write).applyWrites rest =
        { (s.applyWrite w.write).applyWrites rest with tt := t, requests := r }
      rw [h']
      exact ih _
  show { { s with tt := t, requests := r }.applyWrites s.pending with pending := [] } = _
  rw [h]
  rfl

end Sys2Proof.Machine
end

