-- ==== Sys2Proof/Laws/Access.lean ====
section
/-! SUPPORT. What the checks of an access, its reads and its writes can do: alignment, the lanes of a word, the bytes a store
leaves in memory. -/

namespace Sys2Proof.Machine

set_option maxRecDepth 4000
set_option linter.unusedSimpArgs false

/-- R124: a halfword address is even. -/
theorem AccessSize.aligned_half_iff (a : Word) : AccessSize.half.aligned a = true ↔ a.toNat % 2 = 0 := by
  simp [AccessSize.aligned, BitVec.getLsbD, Nat.testBit_zero]

/-- R124: a word address is a multiple of 4. -/
theorem AccessSize.aligned_word_iff (a : Word) : AccessSize.word.aligned a = true ↔ a.toNat % 4 = 0 := by
  simp only [AccessSize.aligned, beq_iff_eq]
  rw [← BitVec.toNat_inj]; simp

/-- R124: a doubleword address is a multiple of 8. -/
theorem AccessSize.aligned_double_iff (a : Word) : AccessSize.double.aligned a = true ↔ a.toNat % 8 = 0 := by
  simp only [AccessSize.aligned, beq_iff_eq]
  rw [← BitVec.toNat_inj]; simp

/-- A misaligned address takes mem_address_not_aligned (R124). -/
theorem State.ifAligned_misaligned {s : State} {sz a k} (h : ¬ AccessSize.aligned sz a = true) : s.ifAligned sz a k = raise .memAddressNotAligned s := by
  unfold State.ifAligned; rw [if_neg h]

/-- An aligned address goes on (R124). -/
theorem State.ifAligned_aligned {s : State} {sz a k} (h : AccessSize.aligned sz a = true) : s.ifAligned sz a k = k s := by
  unfold State.ifAligned; rw [if_pos h]

/-- Where an odd rd is allowed, or rd is even, LDD and STD go on (R331). -/
theorem State.oddRdTraps_false {s : State} {rd} (h : s.cfg.lddOddRdTraps = false ∨ rd.getLsbD 0 = false) : s.oddRdTraps rd = false := by
  unfold State.oddRdTraps; rcases h with h | h <;> rw [h] <;> simp

/-- The word that holds a byte. -/
theorem wordAddress_toNat (a : Word) : (wordAddress a).toNat = a.toNat - a.toNat % 4 := by
  unfold wordAddress
  rw [BitVec.toNat_and]
  have := Nat.and_two_pow_sub_one_eq_mod a.toNat 2
  have h : a.toNat &&& 4294967292 = a.toNat / 4 * 4 := by
    apply Nat.eq_of_testBit_eq
    intro i
    rw [Nat.testBit_and, show a.toNat / 4 * 4 = (a.toNat >>> 2) <<< 2 by rw [Nat.shiftLeft_eq, Nat.shiftRight_eq_div_pow], Nat.testBit_shiftLeft, Nat.testBit_shiftRight]
    by_cases hi : i < 32
    · have h0 : (4294967292 : Nat).testBit i = decide (2 ≤ i) := by
        revert hi; revert i; decide
      rw [h0]
      by_cases h2 : 2 ≤ i
      · simp [h2, show 2 + (i - 2) = i by omega]
      · simp [h2]
    · have : a.toNat.testBit i = false := Nat.testBit_lt_two_pow (Nat.lt_of_lt_of_le a.isLt (Nat.pow_le_pow_right (by omega) (by omega)))
      simp [this]
      intro; rw [show 2 + (i - 2) = i by omega]; exact this
  simp only [BitVec.toNat_ofNat] 
  show a.toNat &&& 4294967292 = _
  rw [h]; omega

/-- Delivering a value to r[rd] and advancing: what is written, what is kept. -/
theorem delivered (s : State) (rd : RegNum) (v : Word) : 
   WritesReg s (s.setReg rd v).advance s.psr.cwp rd v ∧ OnlyRegs s (s.setReg rd v).advance ∧ Advances s (s.setReg rd v).advance := by
  refine ⟨(writesReg_setReg s rd v).congr rfl rfl rfl, ⟨?_, ?_⟩, ?_⟩
  · rw [State.setReg_eq]; rfl
  · apply KeepsMemory.of_eq; rw [State.setReg_eq]; rfl
  · rw [State.setReg_eq]; exact ⟨rfl, rfl⟩

/-- A read that answers a word goes on with it. -/
theorem State.reading_ok {s u : State} {asi sz a w k} (h : s.memoryRead asi false (sz == .word) a = (u, .ok w)) : s.reading asi sz a k = k w u := by
  unfold State.reading; rw [h]

/-- A read that fails takes its exception (R324). -/
theorem State.reading_error {s u : State} {asi sz a e k} (h : s.memoryRead asi false (sz == .word) a = (u, .error e)) : s.reading asi sz a k = raise (u.dataTrap e) u := by
  unfold State.reading; rw [h]

/-- Which exception a failed access is (R324). -/
theorem State.dataTrap_eq (s : State) (e : BusError) : s.dataTrap e = failTrap s.cfg e := by
  unfold State.dataTrap failTrap
  cases e <;> rfl

theorem lane_cases (a : Word) : (lane a = 0#2 ∧ a.toNat % 4 = 0) ∨ (lane a = 1#2 ∧ a.toNat % 4 = 1) ∨ (lane a = 2#2 ∧ a.toNat % 4 = 2) ∨ (lane a = 3#2 ∧ a.toNat % 4 = 3) := by
  have h : (lane a).toNat = a.toNat % 4 := by simp [lane]
  have h0 : ∀ k : Nat, a.toNat % 4 = k → lane a = BitVec.ofNat 2 k := by
    intro k hk; apply BitVec.eq_of_toNat_eq; rw [h]; simp; omega
  have : a.toNat % 4 = 0 ∨ a.toNat % 4 = 1 ∨ a.toNat % 4 = 2 ∨ a.toNat % 4 = 3 := by omega
  rcases this with e|e|e|e
  · exact .inl ⟨h0 _ e, e⟩
  · exact .inr (.inl ⟨h0 _ e, e⟩)
  · exact .inr (.inr (.inl ⟨h0 _ e, e⟩))
  · exact .inr (.inr (.inr ⟨h0 _ e, e⟩))

/-- The byte an address names, by its low bits (R327). -/
theorem byteLane_eq (w a : Word) : byteLane w a = w.extractLsb' (24 - 8 * (a.toNat % 4)) 8 := by
  unfold byteLane
  rcases lane_cases a with ⟨h, e⟩|⟨h, e⟩|⟨h, e⟩|⟨h, e⟩ <;> rw [h, e] <;> rfl

theorem getLsbD_one_eq (a : Word) : a.getLsbD 1 = decide (2 ≤ a.toNat % 4) := by
  rw [BitVec.getLsbD, Nat.testBit_eq_decide_div_mod_eq]
  rw [decide_eq_decide]; omega

/-- The halfword an even address names (R327). -/
theorem halfLane_eq (w a : Word) (h : a.toNat % 2 = 0) : halfLane w a = w.extractLsb' (16 - 8 * (a.toNat % 4)) 16 := by
  unfold halfLane
  rw [getLsbD_one_eq]
  have : a.toNat % 4 = 0 ∨ a.toNat % 4 = 2 := by omega
  rcases this with e|e <;> rw [e] <;> rfl

/-- An alternate-space instruction with i = 0 in supervisor mode goes on (R322). -/
theorem State.alternate_reg {s : State} {asi rs2 k} (h : s.psr.s = true) : s.alternate (.reg asi rs2) k = k asi rs2 := by
  unfold State.alternate; rw [h]; rfl

theorem State.not_mmuSpace {s : State} {asi} (h : ¬ s.mmuSpace asi) : (s.cfg.hasRefMmu && asi == 0x03#8) = false ∧ (s.cfg.hasRefMmu && asi == 0x04#8) = false := by
  constructor
  · rw [← Bool.not_eq_true, Bool.and_eq_true, beq_iff_eq]; intro h'; exact h ⟨h'.1, .inl h'.2⟩
  · rw [← Bool.not_eq_true, Bool.and_eq_true, beq_iff_eq]; intro h'; exact h ⟨h'.1, .inr h'.2⟩

/-- Where a write goes, the store barrier used up first (R127). -/
theorem State.reach_afterBarrier (s : State) (asi : BitVec 8) (a : Word) (sync bar : Bool) :
    { s with lastWriteSync := sync, storeBarrierPending := bar }.reach asi false true a =
      ({ (s.reach asi false true a).1 with lastWriteSync := sync, storeBarrierPending := bar }, (s.reach asi false true a).2) := by
  have hc := State.reach_congr (s := s) (v := { s with lastWriteSync := sync, storeBarrierPending := bar })
    ⟨rfl, rfl, rfl, rfl, rfl⟩ asi false true a
  have hf := State.reach_frame s asi false true a
  rw [hc]
  generalize (s.reach asi false true a).1 = t at hf ⊢
  conv => rhs; rw [hf]
  rfl

/-- The state after a write of a key: the store signals, the bytes of the mask, the word an instruction buffer may keep. -/
def State.wroteKey (s u : State) (k : Nat) (mask : BitVec 4) (data : Word) : State :=
  storeSignals s u (if s.cfg.hasIbuf then u.ibuf ++ [.store k (Memory.readWord u.mem k)] else u.ibuf)
    (Memory.writeMasked u.mem k mask data)

/-- memory_write of a key it reaches (R127). -/
theorem State.memoryWrite_key {s u : State} {asi a k} (hm : ¬ s.mmuSpace asi) (hr : s.reach asi false true a = (u, .key k)) (isWord mask data) :
    s.memoryWrite asi isWord a mask data = (s.wroteKey u k mask data, none) := by
  obtain ⟨h3, h4⟩ := State.not_mmuSpace hm
  have hf := State.reach_frame s asi false true a
  rw [hr] at hf; dsimp only at hf
  have hc : u.cfg = s.cfg := by rw [hf]; rfl
  unfold State.memoryWrite
  dsimp only
  rw [h3, h4, State.reach_afterBarrier, hr]
  simp only [Bool.false_eq_true, if_false]
  unfold State.storeKey State.wroteKey storeSignals
  dsimp only
  rw [hc]

/-- The access that a memory_write makes to a device interface whose word is at `k` (R12, R127). -/
def State.deviceWrite (s : State) (asi : BitVec 8) (k : Nat) (a : Word) (mask : BitVec 4) (data : Word) : IoAccess :=
  ⟨asi, byteKey k a, true, mask, data, s.storeBarrierPending || !s.psoMode⟩

/-- memory_write of a device interface it reaches (R127, R136). -/
theorem State.memoryWrite_device {s u : State} {asi a k} (hm : ¬ s.mmuSpace asi) (hr : s.reach asi false true a = (u, .device k))
    (isWord mask data) :
    s.memoryWrite asi isWord a mask data =
      ({ storeSignals s u u.ibuf u.mem with io := u.io ++ [s.deviceWrite asi k a mask data] }, none) := by
  obtain ⟨h3, h4⟩ := State.not_mmuSpace hm
  unfold State.memoryWrite
  dsimp only
  rw [h3, h4, State.reach_afterBarrier, hr]
  rfl

/-- A store to a device interface it reaches (R127, R136). -/
theorem State.writing_device {s u : State} {asi a k sz v kk} (hm : ¬ s.mmuSpace asi) (hr : s.reach asi false true a = (u, .device k)) :
    s.writing asi sz a v kk =
      kk { storeSignals s u u.ibuf u.mem with io := u.io ++ [s.deviceWrite asi k a (storeMask sz a) (storeData sz a v)] } := by
  unfold State.writing
  rw [State.memoryWrite_device hm hr (sz == .word) (storeMask sz a) (storeData sz a v)]

/-- A store of a key it reaches (R127). -/
theorem State.writing_key {s u : State} {asi a k sz v kk} (hm : ¬ s.mmuSpace asi) (hr : s.reach asi false true a = (u, .key k)) :
    s.writing asi sz a v kk = kk (s.wroteKey u k (storeMask sz a) (storeData sz a v)) := by
  unfold State.writing
  rw [State.memoryWrite_key hm hr (sz == .word) (storeMask sz a) (storeData sz a v)]

theorem getD_one (x y : Byte) (n : Nat) : [x].getD n y = if n = 0 then x else y := by
  cases n <;> simp

theorem getD_two (x x' y : Byte) (n : Nat) : [x, x'].getD n y = if n = 0 then x else if n = 1 then x' else y := by
  rcases n with _ | _ | n <;> simp

theorem getD_four (x0 x1 x2 x3 y : Byte) (n : Nat) : [x0, x1, x2, x3].getD n y = if n = 0 then x0 else if n = 1 then x1 else if n = 2 then x2 else if n = 3 then x3 else y := by
  rcases n with _ | _ | _ | _ | n <;> simp

theorem storedByte_one (base x : Nat) (b o : Byte) : storedByte base [b] x o = if x = base then b else o := by
  unfold storedByte; rw [getD_one]
  split
  · by_cases h : x = base
    · rw [if_pos (by omega), if_pos h]
    · rw [if_neg (by omega), if_neg h]
  · rw [if_neg (by omega)]

theorem storedByte_two (base x : Nat) (b c o : Byte) : storedByte base [b, c] x o = if x = base then b else if x = base + 1 then c else o := by
  unfold storedByte; rw [getD_two]
  split
  · by_cases h : x = base
    · rw [if_pos (by omega), if_pos h]
    · rw [if_neg (by omega), if_neg h]
      by_cases h : x = base + 1
      · rw [if_pos (by omega), if_pos h]
      · rw [if_neg (by omega), if_neg h]
  · rw [if_neg (by omega), if_neg (by omega)]

theorem storedByte_four (base x : Nat) (b c d e o : Byte) : storedByte base [b, c, d, e] x o = if x = base then b else if x = base + 1 then c else if x = base + 2 then d else if x = base + 3 then e else o := by
  unfold storedByte; rw [getD_four]
  split
  · by_cases h : x = base
    · rw [if_pos (by omega), if_pos h]
    · rw [if_neg (by omega), if_neg h]
      by_cases h : x = base + 1
      · rw [if_pos (by omega), if_pos h]
      · rw [if_neg (by omega), if_neg h]
        by_cases h : x = base + 2
        · rw [if_pos (by omega), if_pos h]
        · rw [if_neg (by omega), if_neg h]
          by_cases h : x = base + 3
          · rw [if_pos (by omega), if_pos h]
          · rw [if_neg (by omega), if_neg h]
  · rw [if_neg (by omega), if_neg (by omega), if_neg (by omega), if_neg (by omega)]

theorem Memory.read_writeMasked_bits {m : Memory} (h : Memory.wf m = true) (k : Nat) (mask : BitVec 4) (w : Word) (x : Nat) (b0 b1 b2 b3 : Bool)
   (h0 : mask.getLsbD 0 = b0) (h1 : mask.getLsbD 1 = b1) (h2 : mask.getLsbD 2 = b2) (h3 : mask.getLsbD 3 = b3) :
   Memory.read (Memory.writeMasked m k mask w) x = if x = k + 3 ∧ b0 = true then w.extractLsb' 0 8 else if x = k + 2 ∧ b1 = true then w.extractLsb' 8 8
     else if x = k + 1 ∧ b2 = true then w.extractLsb' 16 8 else if x = k ∧ b3 = true then w.extractLsb' 24 8 else Memory.read m x := by
  rw [Memory.read_writeMasked h, h0, h1, h2, h3]

/-- The memory after a byte store (R350). -/
theorem Memory.read_store_byte {m : Memory} (h : Memory.wf m = true) (k : Nat) (a v : Word) (x : Nat) :
   Memory.read (Memory.writeMasked m k (storeMask .byte a) (storeData .byte a v)) x = storedByte (k + a.toNat % 4) [v.extractLsb' 0 8] x (Memory.read m x) := by
  rw [storedByte_one]
  have e1 : (v <<< 24).extractLsb' 24 8 = v.extractLsb' 0 8 := by apply BitVec.eq_of_getLsbD_eq; intro i hi; simp [hi]; omega
  have e2 : (v <<< 16).extractLsb' 16 8 = v.extractLsb' 0 8 := by apply BitVec.eq_of_getLsbD_eq; intro i hi; simp [hi]; omega
  have e3 : (v <<< 8).extractLsb' 8 8 = v.extractLsb' 0 8 := by apply BitVec.eq_of_getLsbD_eq; intro i hi; simp [hi]; omega
  rcases lane_cases a with ⟨hl, e⟩|⟨hl, e⟩|⟨hl, e⟩|⟨hl, e⟩
  · have hm : storeMask .byte a = 8#4 := by unfold storeMask; rw [hl]; rfl
    have hd : storeData .byte a v = v <<< 24 := by unfold storeData; rw [hl]; rfl
    rw [hm, hd, e, Memory.read_writeMasked_bits h k _ _ x false false false true rfl rfl rfl rfl]
    simp only [Bool.false_eq_true, and_false, if_false, and_true, Nat.add_zero, e1, e2, e3]
  · have hm : storeMask .byte a = 4#4 := by unfold storeMask; rw [hl]; rfl
    have hd : storeData .byte a v = v <<< 16 := by unfold storeData; rw [hl]; rfl
    rw [hm, hd, e, Memory.read_writeMasked_bits h k _ _ x false false true false rfl rfl rfl rfl]
    simp only [Bool.false_eq_true, and_false, if_false, and_true, Nat.add_zero, e1, e2, e3]
  · have hm : storeMask .byte a = 2#4 := by unfold storeMask; rw [hl]; rfl
    have hd : storeData .byte a v = v <<< 8 := by unfold storeData; rw [hl]; rfl
    rw [hm, hd, e, Memory.read_writeMasked_bits h k _ _ x false true false false rfl rfl rfl rfl]
    simp only [Bool.false_eq_true, and_false, if_false, and_true, Nat.add_zero, e1, e2, e3]
  · have hm : storeMask .byte a = 1#4 := by unfold storeMask; rw [hl]; rfl
    have hd : storeData .byte a v = v := by unfold storeData; rw [hl]; rfl
    rw [hm, hd, e, Memory.read_writeMasked_bits h k _ _ x true false false false rfl rfl rfl rfl]
    simp only [Bool.false_eq_true, and_false, if_false, and_true, Nat.add_zero, e1, e2, e3]

/-- The memory after a halfword store (R351). -/
theorem Memory.read_store_half {m : Memory} (h : Memory.wf m = true) (k : Nat) (a v : Word) (ha : a.toNat % 2 = 0) (x : Nat) :
   Memory.read (Memory.writeMasked m k (storeMask .half a) (storeData .half a v)) x = storedByte (k + a.toNat % 4) [v.extractLsb' 8 8, v.extractLsb' 0 8] x (Memory.read m x) := by
  rw [storedByte_two]
  have e1 : (v <<< 16).extractLsb' 24 8 = v.extractLsb' 8 8 := by apply BitVec.eq_of_getLsbD_eq; intro i hi; simp [hi]; rw [show 24 + i - 16 = 8 + i by omega]; simp; omega
  have e2 : (v <<< 16).extractLsb' 16 8 = v.extractLsb' 0 8 := by apply BitVec.eq_of_getLsbD_eq; intro i hi; simp [hi]; omega
  have : a.toNat % 4 = 0 ∨ a.toNat % 4 = 2 := by omega
  have hb := getLsbD_one_eq a
  rcases this with e|e
  · have hm : storeMask .half a = 12#4 := by unfold storeMask; rw [hb, e]; rfl
    have hd : storeData .half a v = v <<< 16 := by unfold storeData; rw [hb, e]; rfl
    rw [hm, hd, e, Memory.read_writeMasked_bits h k _ _ x false false true true rfl rfl rfl rfl]
    simp only [Bool.false_eq_true, and_false, if_false, and_true, Nat.add_zero, e1, e2]
    split_ifs <;> first | rfl | (exfalso; omega)
  · have hm : storeMask .half a = 3#4 := by unfold storeMask; rw [hb, e]; rfl
    have hd : storeData .half a v = v := by unfold storeData; rw [hb, e]; rfl
    rw [hm, hd, e, Memory.read_writeMasked_bits h k _ _ x true true false false rfl rfl rfl rfl]
    simp only [Bool.false_eq_true, and_false, if_false, and_true, Nat.add_zero, e1, e2]
    split_ifs <;> first | rfl | (exfalso; omega)

/-- The memory after a word store (R352). -/
theorem Memory.read_store_word {m : Memory} (h : Memory.wf m = true) (k : Nat) (v : Word) (x : Nat) :
   Memory.read (Memory.writeMasked m k 0xF#4 v) x = storedByte k (bytesOfWord v) x (Memory.read m x) := by
  unfold bytesOfWord
  rw [storedByte_four, Memory.read_writeMasked_bits h k _ _ x true true true true rfl rfl rfl rfl]
  simp only [and_true]
  split_ifs <;> first | rfl | (exfalso; omega)

theorem lane_toNat (a : Word) : (lane a).toNat = a.toNat % 4 := by
  unfold lane
  simp

theorem deviceStore_of {s : State} {asi : BitVec 8} {k : Nat} {a : Word} {mask : BitVec 4} {data : Word} {bytes : List Byte} (l m : Nat) (h : a.toNat % 4 = l)
    (hl : bytes.length = m) (hm : ∀ n, n < 4 → mask.getLsbD (3 - n) = decide (l ≤ n ∧ n < l + m))
    (hd : ∀ n, n < bytes.length → data.extractLsb' (24 - 8 * (l + n)) 8 = bytes.getD n 0#8) :
    DeviceStore (s.deviceWrite asi k a mask data) s asi k a bytes := by
  subst h hl
  exact ⟨⟨rfl, rfl, rfl, rfl⟩, fun n hn => (Bool.eq_iff_iff.mp (hm n hn)).trans decide_eq_true_iff, hd⟩

theorem extract_shift (v : Word) (n p q : Nat) (h : p = q + n) (hp : p + 8 ≤ 32) :
    (v <<< n).extractLsb' p 8 = v.extractLsb' q 8 := by
  apply BitVec.eq_of_getLsbD_eq
  intro i hi
  rw [BitVec.getLsbD_extractLsb', BitVec.getLsbD_extractLsb', BitVec.getLsbD_shiftLeft]
  rw [show p + i - n = q + i by omega, decide_eq_true (by omega : p + i < 32), decide_eq_false (by omega : ¬ p + i < n)]
  simp

/-- The access of a byte store to a device interface (R136, R350). -/
theorem deviceStore_byte (s : State) (asi : BitVec 8) (k : Nat) (a v : Word) :
    DeviceStore (s.deviceWrite asi k a (storeMask .byte a) (storeData .byte a v)) s asi k a [v.extractLsb' 0 8] := by
  have one {p : Nat → Prop} (h : p 0) (n : Nat) (hn : n < [v.extractLsb' 0 8].length) : p n := by
    obtain rfl : n = 0 := by simpa using hn
    exact h
  have hl := lane_toNat a
  rcases (by decide : ∀ l : BitVec 2, l = 0#2 ∨ l = 1#2 ∨ l = 2#2 ∨ l = 3#2) (lane a) with h | h | h | h
  · rw [show storeMask .byte a = 8#4 by unfold storeMask; rw [h]; rfl, show storeData .byte a v = v <<< 24 by unfold storeData; rw [h]; rfl]
    exact deviceStore_of 0 1 (by rw [← hl, h]; rfl) rfl (by decide) (one (extract_shift v 24 24 0 rfl (by decide)))
  · rw [show storeMask .byte a = 4#4 by unfold storeMask; rw [h]; rfl, show storeData .byte a v = v <<< 16 by unfold storeData; rw [h]; rfl]
    exact deviceStore_of 1 1 (by rw [← hl, h]; rfl) rfl (by decide) (one (extract_shift v 16 16 0 rfl (by decide)))
  · rw [show storeMask .byte a = 2#4 by unfold storeMask; rw [h]; rfl, show storeData .byte a v = v <<< 8 by unfold storeData; rw [h]; rfl]
    exact deviceStore_of 2 1 (by rw [← hl, h]; rfl) rfl (by decide) (one (extract_shift v 8 8 0 rfl (by decide)))
  · rw [show storeMask .byte a = 1#4 by unfold storeMask; rw [h]; rfl, show storeData .byte a v = v by unfold storeData; rw [h]; rfl]
    exact deviceStore_of 3 1 (by rw [← hl, h]; rfl) rfl (by decide) (one rfl)

/-- The access of a halfword store to a device interface (R136, R351). -/
theorem deviceStore_half (s : State) (asi : BitVec 8) (k : Nat) (a v : Word) (ha : a.toNat % 2 = 0) :
    DeviceStore (s.deviceWrite asi k a (storeMask .half a) (storeData .half a v)) s asi k a [v.extractLsb' 8 8, v.extractLsb' 0 8] := by
  have two {p : Nat → Prop} (h0 : p 0) (h1 : p 1) (n : Nat) (hn : n < [v.extractLsb' 8 8, v.extractLsb' 0 8].length) : p n := by
    rcases (by simp at hn; omega : n = 0 ∨ n = 1) with rfl | rfl
    exacts [h0, h1]
  have h1 : a.getLsbD 1 = decide (a.toNat % 4 = 2) := by
    have : a.getLsbD 1 = a.toNat.testBit 1 := rfl
    rw [this, Nat.testBit_eq_decide_div_mod_eq, decide_eq_decide]
    omega
  rcases (by omega : a.toNat % 4 = 0 ∨ a.toNat % 4 = 2) with h | h
  · rw [h] at h1
    rw [show storeMask .half a = 0xC#4 by unfold storeMask; rw [h1]; rfl, show storeData .half a v = v <<< 16 by unfold storeData; rw [h1]; rfl]
    exact deviceStore_of 0 2 h rfl (by decide) (two (extract_shift v 16 24 8 rfl (by decide)) (extract_shift v 16 16 0 rfl (by decide)))
  · rw [h] at h1
    rw [show storeMask .half a = 3#4 by unfold storeMask; rw [h1]; rfl, show storeData .half a v = v by unfold storeData; rw [h1]; rfl]
    exact deviceStore_of 2 2 h rfl (by decide) (two rfl rfl)

/-- The access of a word store to a device interface (R136, R352). -/
theorem deviceStore_word (s : State) (asi : BitVec 8) (k : Nat) (a v : Word) (ha : a.toNat % 4 = 0) :
    DeviceStore (s.deviceWrite asi k a 0xF#4 v) s asi k a (bytesOfWord v) := by
  refine deviceStore_of 0 4 ha rfl (by decide) fun n hn => ?_
  rcases (by simp [bytesOfWord] at hn; omega : n = 0 ∨ n = 1 ∨ n = 2 ∨ n = 3) with rfl | rfl | rfl | rfl <;> rfl

/-- A store of one byte, halfword or word. -/
theorem storesAt_storeReg {i : Instr} {s : State} {asi a bytes} {sz : AccessSize} {rd}
  (hx : exec i s = .next (storeReg sz rd asi a s)) (hal : sz.aligned a = true)
  (hb : ∀ m k x, Memory.wf m = true → Memory.read (Memory.writeMasked m k (storeMask sz a) (storeData sz a (s.reg rd))) x = storedByte (k + a.toNat % 4) bytes x (Memory.read m x))
  (hd : ∀ k, DeviceStore (s.deviceWrite asi k a (storeMask sz a) (storeData sz a (s.reg rd))) s asi k a bytes) :
  StoresAt i s asi a bytes := by
  refine ⟨?_, fun u k hr hm => ⟨_, hd k, ?_⟩⟩
  swap
  · have hf := State.reach_frame s asi false true a
    rw [hr] at hf; dsimp only at hf
    have hn : u.npc = s.npc := by rw [hf]; rfl
    rw [hx]
    unfold storeReg
    rw [State.ifAligned_aligned hal, State.writing_device hm hr, ← hn]
    rfl
  intro u k hr hwf hm
  have hf := State.reach_frame s asi false true a
  have hw := State.reach_wf hwf asi false true a
  rw [hr] at hf hw; dsimp only at hf hw
  refine ⟨_, hx, ?_⟩
  unfold storeReg
  rw [State.ifAligned_aligned hal]
  rw [State.writing_key (kk := State.advance) (v := s.reg rd) (sz := sz) hm hr]
  refine ⟨?_, rfl, ?_⟩
  · unfold State.wroteKey storeSignals State.advance
    dsimp only
    have : u.npc = s.npc := by rw [hf]; rfl
    rw [this]
  · intro x; exact hb _ _ _ hw

/-- A write that succeeds goes on. -/
theorem State.writing_ok {s u : State} {asi sz a v kk} (h : s.memoryWrite asi (sz == .word) a (storeMask sz a) (storeData sz a v) = (u, none)) : s.writing asi sz a v kk = kk u := by
  unfold State.writing; rw [h]

theorem State.untranslated_congr {s v : State} (h1 : v.cfg = s.cfg) (h2 : v.mmu = s.mmu) (h : s.untranslated) : v.untranslated := by
  unfold State.untranslated at *; rw [h1, h2]; exact h

/-- Where an untranslated access goes does not depend on memory or registers. -/
theorem State.reach_untranslated_congr {s v : State} (c1 : v.cfg = s.cfg) (c2 : v.mmu = s.mmu) (hu : s.untranslated) {asi fetch store a} :
   (v.reach asi fetch store a).2 = (s.reach asi fetch store a).2 := by
  have h' : (s.cfg.hasRefMmu && s.mmu.e) = false := by
    unfold State.untranslated at hu
    rw [← Bool.not_eq_true, Bool.and_eq_true]; exact hu
  have hk : ∀ kk, v.reachKey store kk = s.reachKey store kk := fun kk => State.reachKey_congr c1 _ _
  unfold State.reach
  rw [c1, c2, h']
  simp only [hk, Bool.false_eq_true, if_false]
  by_cases A : realAsi asi = true
  · simp only [A, if_true]
  · by_cases B : (s.cfg.hasRefMmu && asi.extractLsb' 4 4 == 2#4) = true
    · have he : s.mmu.e = false := by
        cases hh : s.cfg.hasRefMmu
        · rw [hh] at B; simp at B
        · rw [hh] at h'; simpa using h'
      simp only [A, B, if_true, Bool.false_eq_true, if_false]
      unfold State.passThrough
      rw [hk, c2, he]
      generalize s.reachKey store (BitVec.extractLsb' 0 4 asi ++ wordAddress a).toNat = r
      rcases r with _ | _ | _ | e
      · rfl
      · rfl
      · rfl
      · cases e <;> rfl
    · simp only [A, B, if_false]
      cases s.cfg.altSpaces.lookup asi with
      | none => rfl
      | some kind => cases kind <;> simp [State.otherSpace, hk]

/-- What a write may change besides the store signals. -/
def State.Written (s v : State) : Prop :=
  v = { s with lastWriteSync := v.lastWriteSync, storeBarrierPending := v.storeBarrierPending, ibuf := v.ibuf, io := v.io,
               freeCtr := v.freeCtr, mem := v.mem, mmu := v.mmu }

theorem State.memoryWrite_written {s u : State} {asi isWord a mask data e}
    (h : s.memoryWrite asi isWord a mask data = (u, e)) : State.Written s u := by
  have hf := State.memoryWrite_frame s asi isWord a mask data
  rw [h] at hf
  dsimp only at hf
  unfold State.Written
  rw [hf]

theorem State.Written.trans {s u v : State} (h : State.Written s u) (h' : State.Written u v) : State.Written s v := by
  unfold State.Written at *
  rw [h', h]

/-- A store of two words. -/
theorem storesPairAt_writingDouble {i : Instr} {s : State} {asi a v0 v1} {finish k : State → State}
  (hx : exec i s = .next (s.writingDouble asi a v0 v1 k))
  (hk : ∀ v : State, State.Written s v → k v = { finish v with pc := s.npc, npc := s.npc + 4#32 })
  (hfin : ∀ (t : State) sync pc npc, ({ finish { t with lastWriteSync := sync } with pc := pc, npc := npc } : State) = { finish t with lastWriteSync := sync, pc := pc, npc := npc })
  (hst : ∀ t, (finish t).ibuf = t.ibuf) (hmem : ∀ t, (finish t).mem = t.mem) :
  StoresPairAt i s asi a v0 v1 finish := by
  have hres (u v : State) (h0 : s.memoryWrite asi false a 0xF#4 v0 = (u, none))
      (h1 : u.memoryWrite asi false (a + 4#32) 0xF#4 v1 = (v, none)) : s.writingDouble asi a v0 v1 k = k v := by
    unfold State.writingDouble
    rw [State.writing_ok (sz := .double) h0]
    exact State.writing_ok (sz := .double) h1
  constructor
  · intro k0 k1 hu h0 h1 hwf hm
    have w0 := State.memoryWrite_key hm h0 false 0xF#4 v0
    generalize hs1 : s.wroteKey s k0 0xF#4 v0 = s1 at *
    have c1 : s1.cfg = s.cfg := by rw [← hs1]; rfl
    have c2 : s1.mmu = s.mmu := by rw [← hs1]; rfl
    have hm1 : ¬ s1.mmuSpace asi := by unfold State.mmuSpace; rw [c1]; exact hm
    have hr1 : s1.reach asi false true (a + 4#32) = (s1, .key k1) := by
      have hu1 := State.reach_untranslated (State.untranslated_congr c1 c2 hu) asi false true (a + 4#32)
      have : (s1.reach asi false true (a + 4#32)).2 = .key k1 := by
        rw [State.reach_untranslated_congr c1 c2 hu, h1]
      rw [← this]; exact Prod.ext hu1 rfl
    have w1 := State.memoryWrite_key hm1 hr1 false 0xF#4 v1
    have hp : s1.psoMode = s.psoMode := by unfold State.psoMode; rw [c1, c2]
    generalize hs2 : s1.wroteKey s1 k1 0xF#4 v1 = s2 at *
    have e2 : s2 = { storeSignals s s s2.ibuf s2.mem with lastWriteSync := !s.psoMode } := by
      rw [← hs2]
      unfold State.wroteKey storeSignals
      rw [hp, ← hs1]
      simp [State.wroteKey, storeSignals]
    have hwr : State.Written s s2 := State.Written.trans (State.memoryWrite_written w0) (State.memoryWrite_written w1)
    refine ⟨_, hx, ?_⟩
    rw [hres _ _ w0 w1, hk _ hwr]
    refine ⟨?_, fun x => ?_⟩
    · have hf := hfin (storeSignals s s s2.ibuf s2.mem) (!s.psoMode) s.npc (s.npc + 4#32)
      rw [← e2] at hf
      exact hf.trans (congrArg₂ (fun ib m => ({ finish (storeSignals s s ib m) with
        lastWriteSync := !s.psoMode, pc := s.npc, npc := s.npc + 4#32 } : State)) (hst s2).symm (hmem s2).symm)
    · dsimp only
      rw [hmem s2, ← hs2]
      show Memory.read (Memory.writeMasked s1.mem k1 0xF#4 v1) x = _
      rw [← hs1]
      show Memory.read (Memory.writeMasked (Memory.writeMasked s.mem k0 0xF#4 v0) k1 0xF#4 v1) x = _
      rw [Memory.read_store_word (Memory.wf_writeMasked hwf ..), Memory.read_store_word hwf]
  · intro u v h0 h1
    rw [hx, hres u v h0 h1, hk v (State.Written.trans (State.memoryWrite_written h0) (State.memoryWrite_written h1))]

/-- A store of one word. -/
theorem storesAt_writing {i : Instr} {s : State} {asi a v}
  (hx : exec i s = .next (s.writing asi .word a v State.advance)) (ha : a.toNat % 4 = 0) : StoresAt i s asi a (bytesOfWord v) := by
  refine ⟨?_, fun u k hr hm => ⟨s.deviceWrite asi k a 0xF#4 v, deviceStore_word s asi k a v ha, ?_⟩⟩
  swap
  · have hf := State.reach_frame s asi false true a
    rw [hr] at hf; dsimp only at hf
    have hn : u.npc = s.npc := by rw [hf]; rfl
    rw [hx, State.writing_device hm hr, ← hn]
    rfl
  intro u k hr hwf hm
  have hf := State.reach_frame s asi false true a
  have hw := State.reach_wf hwf asi false true a
  rw [hr] at hf hw; dsimp only at hf hw
  refine ⟨_, hx, ?_⟩
  rw [State.writing_key (kk := State.advance) (v := v) (sz := .word) hm hr]
  refine ⟨?_, rfl, ?_⟩
  · unfold State.wroteKey storeSignals State.advance
    dsimp only
    have : u.npc = s.npc := by rw [hf]; rfl
    rw [this]
  · intro x; rw [ha]; have e1 : storeMask .word a = 0xF#4 := rfl; have e2 : storeData .word a v = v := rfl; show Memory.read (Memory.writeMasked u.mem k (storeMask .word a) (storeData .word a v)) x = _; rw [e1, e2]; exact Memory.read_store_word hw k v x

theorem State.advance_eq_finish (s : State) :
    ∀ v : State, State.Written s v → State.advance v = { id v with pc := s.npc, npc := s.npc + 4#32 } := by
  intro v hv
  have : v.npc = s.npc := by rw [hv]
  unfold State.advance
  rw [this]
  rfl

end Sys2Proof.Machine
end

