-- ==== Sys2Proof/Laws/Encoding.lean ====
section
/-! SUPPORT. The fields of an encoded word (R261 to R264), and the operands read back from it. -/

namespace Sys2Proof

theorem getLsbD_format3 (op : BitVec 2) (rd : RegNum) (op3 : BitVec 6) (rs1 : RegNum) (lo : BitVec 14) (i : Nat) :
    (format3 op rd op3 rs1 lo).getLsbD i =
      if i < 14 then lo.getLsbD i else if i < 19 then rs1.getLsbD (i - 14) else if i < 25 then op3.getLsbD (i - 19)
      else if i < 30 then rd.getLsbD (i - 25) else op.getLsbD (i - 30) := by
  unfold format3
  erw [BitVec.getLsbD_append, BitVec.getLsbD_append, BitVec.getLsbD_append, BitVec.getLsbD_append]
  simp only [Nat.sub_sub]
  (repeat' split) <;> first | rfl | omega

theorem getLsbD_formatBranch (a : Bool) (cond : BitVec 4) (op2 : BitVec 3) (disp22 : BitVec 22) (i : Nat) :
    (formatBranch a cond op2 disp22).getLsbD i =
      if i < 22 then disp22.getLsbD i else if i < 25 then op2.getLsbD (i - 22) else if i < 29 then cond.getLsbD (i - 25)
      else if i < 30 then (BitVec.ofBool a).getLsbD (i - 29) else (0#2).getLsbD (i - 30) := by
  unfold formatBranch
  erw [BitVec.getLsbD_append, BitVec.getLsbD_append, BitVec.getLsbD_append, BitVec.getLsbD_append]
  simp only [Nat.sub_sub]
  (repeat' split) <;> first | rfl | omega

theorem getLsbD_formatImm22 (rd : RegNum) (op2 : BitVec 3) (imm22 : BitVec 22) (i : Nat) :
    (formatImm22 rd op2 imm22).getLsbD i =
      if i < 22 then imm22.getLsbD i else if i < 25 then op2.getLsbD (i - 22) else if i < 30 then rd.getLsbD (i - 25)
      else (0#2).getLsbD (i - 30) := by
  unfold formatImm22
  erw [BitVec.getLsbD_append, BitVec.getLsbD_append, BitVec.getLsbD_append]
  simp only [Nat.sub_sub]
  (repeat' split) <;> first | rfl | omega

theorem getLsbD_formatCall (disp30 : BitVec 30) (i : Nat) :
    (formatCall disp30).getLsbD i = if i < 30 then disp30.getLsbD i else (1#2).getLsbD (i - 30) := by
  unfold formatCall
  erw [BitVec.getLsbD_append]

section Format3

variable (op : BitVec 2) (rd : RegNum) (op3 : BitVec 6) (rs1 : RegNum) (lo : BitVec 14)

@[simp] theorem fieldOp_format3 : fieldOp (format3 op rd op3 rs1 lo) = op := by
  refine BitVec.eq_of_getLsbD_eq fun i hi => ?_
  simp only [fieldOp, BitVec.getLsbD_extractLsb', getLsbD_format3, hi]
  simp (disch := omega) only [if_neg, decide_true, Bool.true_and, Nat.add_sub_cancel_left]

@[simp] theorem fieldRd_format3 : fieldRd (format3 op rd op3 rs1 lo) = rd := by
  refine BitVec.eq_of_getLsbD_eq fun i hi => ?_
  simp only [fieldRd, BitVec.getLsbD_extractLsb', getLsbD_format3, hi]
  simp (disch := omega) only [if_neg, if_pos, decide_true, Bool.true_and, Nat.add_sub_cancel_left]

@[simp] theorem fieldOp3_format3 : fieldOp3 (format3 op rd op3 rs1 lo) = op3 := by
  refine BitVec.eq_of_getLsbD_eq fun i hi => ?_
  simp only [fieldOp3, BitVec.getLsbD_extractLsb', getLsbD_format3, hi]
  simp (disch := omega) only [if_neg, if_pos, decide_true, Bool.true_and, Nat.add_sub_cancel_left]

@[simp] theorem fieldRs1_format3 : fieldRs1 (format3 op rd op3 rs1 lo) = rs1 := by
  refine BitVec.eq_of_getLsbD_eq fun i hi => ?_
  simp only [fieldRs1, BitVec.getLsbD_extractLsb', getLsbD_format3, hi]
  simp (disch := omega) only [if_neg, if_pos, decide_true, Bool.true_and, Nat.add_sub_cancel_left]

/-- Every field below bit 14 is read from the low part. -/
theorem extract_low_format3 {k n : Nat} (h : k + n ≤ 14) :
    (format3 op rd op3 rs1 lo).extractLsb' k n = lo.extractLsb' k n := by
  refine BitVec.eq_of_getLsbD_eq fun i hi => ?_
  simp only [BitVec.getLsbD_extractLsb', getLsbD_format3, if_pos (show k + i < 14 by omega)]

theorem fieldI_format3 : fieldI (format3 op rd op3 rs1 lo) = lo.getLsbD 13 := by
  simp only [fieldI, getLsbD_format3, show (13 : Nat) < 14 by decide, if_true]

theorem fieldRs2_format3 : fieldRs2 (format3 op rd op3 rs1 lo) = lo.extractLsb' 0 5 :=
  extract_low_format3 op rd op3 rs1 lo (by decide)

theorem fieldOpf_format3 : fieldOpf (format3 op rd op3 rs1 lo) = lo.extractLsb' 5 9 :=
  extract_low_format3 op rd op3 rs1 lo (by decide)

@[simp] theorem fieldOperand2_format3 (op2 : Operand2) :
    fieldOperand2 (format3 op rd op3 rs1 op2.encode) = op2 := by
  unfold fieldOperand2 fieldSimm13
  rw [fieldI_format3, fieldRs2_format3, extract_low_format3 op rd op3 rs1 _ (by decide)]
  cases op2 with
  | reg rs2 =>
    rw [if_neg (by unfold Operand2.encode; erw [BitVec.getLsbD_append]; simp)]
    congr 1
    unfold Operand2.encode
    refine BitVec.eq_of_getLsbD_eq fun i hi => ?_
    rw [BitVec.getLsbD_extractLsb']
    erw [BitVec.getLsbD_append]
    simp [hi]
  | imm simm13 =>
    rw [if_pos (by unfold Operand2.encode; erw [BitVec.getLsbD_append]; simp)]
    congr 1
    unfold Operand2.encode
    refine BitVec.eq_of_getLsbD_eq fun i hi => ?_
    rw [BitVec.getLsbD_extractLsb']
    erw [BitVec.getLsbD_append]
    simp [hi]

@[simp] theorem fieldAltAddr_format3 (alt : AltAddr) : fieldAltAddr (format3 op rd op3 rs1 alt.encode) = alt := by
  unfold fieldAltAddr fieldSimm13 fieldAsi
  rw [fieldI_format3, fieldRs2_format3, extract_low_format3 op rd op3 rs1 _ (by decide),
    extract_low_format3 op rd op3 rs1 _ (by decide)]
  cases alt with
  | reg asi rs2 =>
    rw [if_neg (by unfold AltAddr.encode; erw [BitVec.getLsbD_append, BitVec.getLsbD_append]; simp)]
    unfold AltAddr.encode
    congr 1
    · refine BitVec.eq_of_getLsbD_eq fun i hi => ?_
      rw [BitVec.getLsbD_extractLsb']
      erw [BitVec.getLsbD_append, BitVec.getLsbD_append]
      simp only [hi, if_neg (show ¬ 5 + i < 5 by omega), Nat.add_sub_cancel_left, if_true, decide_true, Bool.true_and]
    · refine BitVec.eq_of_getLsbD_eq fun i hi => ?_
      rw [BitVec.getLsbD_extractLsb']
      erw [BitVec.getLsbD_append]
      simp [hi]
  | imm simm13 =>
    rw [if_pos (by unfold AltAddr.encode; erw [BitVec.getLsbD_append]; simp)]
    congr 1
    unfold AltAddr.encode
    refine BitVec.eq_of_getLsbD_eq fun i hi => ?_
    rw [BitVec.getLsbD_extractLsb']
    erw [BitVec.getLsbD_append]
    simp [hi]

@[simp] theorem fieldShiftCount_format3 (cnt : ShiftCount) :
    fieldShiftCount (format3 op rd op3 rs1 cnt.encode) = cnt := by
  unfold fieldShiftCount
  rw [fieldI_format3, fieldRs2_format3]
  cases cnt with
  | reg rs2 =>
    rw [if_neg (by unfold ShiftCount.encode; erw [BitVec.getLsbD_append]; simp)]
    congr 1
    unfold ShiftCount.encode
    refine BitVec.eq_of_getLsbD_eq fun i hi => ?_
    rw [BitVec.getLsbD_extractLsb']
    erw [BitVec.getLsbD_append]
    simp [hi]
  | imm shcnt =>
    rw [if_pos (by unfold ShiftCount.encode; erw [BitVec.getLsbD_append, BitVec.getLsbD_append]; simp)]
    congr 1
    unfold ShiftCount.encode
    refine BitVec.eq_of_getLsbD_eq fun i hi => ?_
    rw [BitVec.getLsbD_extractLsb']
    erw [BitVec.getLsbD_append]
    simp [hi]

@[simp] theorem fieldTrapOperand_format3 (opn : TrapOperand) :
    fieldTrapOperand (format3 op rd op3 rs1 opn.encode) = opn := by
  unfold fieldTrapOperand fieldImm7
  rw [fieldI_format3, fieldRs2_format3, extract_low_format3 op rd op3 rs1 _ (by decide)]
  cases opn with
  | reg rs2 =>
    rw [if_neg (by unfold TrapOperand.encode; erw [BitVec.getLsbD_append]; simp)]
    congr 1
    unfold TrapOperand.encode
    refine BitVec.eq_of_getLsbD_eq fun i hi => ?_
    rw [BitVec.getLsbD_extractLsb']
    erw [BitVec.getLsbD_append]
    simp [hi]
  | imm imm7 =>
    rw [if_pos (by unfold TrapOperand.encode; erw [BitVec.getLsbD_append, BitVec.getLsbD_append]; simp)]
    congr 1
    unfold TrapOperand.encode
    refine BitVec.eq_of_getLsbD_eq fun i hi => ?_
    rw [BitVec.getLsbD_extractLsb']
    erw [BitVec.getLsbD_append]
    simp [hi]

@[simp] theorem fieldOpf_opfLow (opf : BitVec 9) (rs2 : RegNum) :
    fieldOpf (format3 op rd op3 rs1 (opfLow opf rs2)) = opf := by
  rw [fieldOpf_format3]
  refine BitVec.eq_of_getLsbD_eq fun i hi => ?_
  unfold opfLow
  rw [BitVec.getLsbD_extractLsb']
  erw [BitVec.getLsbD_append]
  simp only [hi, if_neg (show ¬ 5 + i < 5 by omega), Nat.add_sub_cancel_left, decide_true, Bool.true_and]

@[simp] theorem fieldRs2_opfLow (opf : BitVec 9) (rs2 : RegNum) :
    fieldRs2 (format3 op rd op3 rs1 (opfLow opf rs2)) = rs2 := by
  rw [fieldRs2_format3]
  refine BitVec.eq_of_getLsbD_eq fun i hi => ?_
  unfold opfLow
  rw [BitVec.getLsbD_extractLsb']
  erw [BitVec.getLsbD_append]
  simp [hi]

end Format3

section Format2

variable (a : Bool) (cond : BitVec 4) (op2 : BitVec 3) (disp22 : BitVec 22) (rd : RegNum)

@[simp] theorem fieldOp_formatBranch : fieldOp (formatBranch a cond op2 disp22) = 0#2 := by
  refine BitVec.eq_of_getLsbD_eq fun i hi => ?_
  simp only [fieldOp, BitVec.getLsbD_extractLsb', getLsbD_formatBranch, hi]
  simp (disch := omega) only [if_neg, decide_true, Bool.true_and, Nat.add_sub_cancel_left]

@[simp] theorem fieldAnnul_formatBranch : fieldAnnul (formatBranch a cond op2 disp22) = a := by
  simp only [fieldAnnul, getLsbD_formatBranch]
  cases a <;> rfl

@[simp] theorem fieldCond_formatBranch : fieldCond (formatBranch a cond op2 disp22) = cond := by
  refine BitVec.eq_of_getLsbD_eq fun i hi => ?_
  simp only [fieldCond, BitVec.getLsbD_extractLsb', getLsbD_formatBranch, hi]
  simp (disch := omega) only [if_neg, if_pos, decide_true, Bool.true_and, Nat.add_sub_cancel_left]

@[simp] theorem fieldOp2_formatBranch : fieldOp2 (formatBranch a cond op2 disp22) = op2 := by
  refine BitVec.eq_of_getLsbD_eq fun i hi => ?_
  simp only [fieldOp2, BitVec.getLsbD_extractLsb', getLsbD_formatBranch, hi]
  simp (disch := omega) only [if_neg, if_pos, decide_true, Bool.true_and, Nat.add_sub_cancel_left]

@[simp] theorem fieldImm22_formatBranch : fieldImm22 (formatBranch a cond op2 disp22) = disp22 := by
  refine BitVec.eq_of_getLsbD_eq fun i hi => ?_
  simp only [fieldImm22, BitVec.getLsbD_extractLsb', getLsbD_formatBranch, hi]
  simp (disch := omega) only [if_pos, Nat.zero_add, decide_true, Bool.true_and]

@[simp] theorem fieldOp_formatImm22 : fieldOp (formatImm22 rd op2 disp22) = 0#2 := by
  refine BitVec.eq_of_getLsbD_eq fun i hi => ?_
  simp only [fieldOp, BitVec.getLsbD_extractLsb', getLsbD_formatImm22, hi]
  simp (disch := omega) only [if_neg, decide_true, Bool.true_and, Nat.add_sub_cancel_left]

@[simp] theorem fieldRd_formatImm22 : fieldRd (formatImm22 rd op2 disp22) = rd := by
  refine BitVec.eq_of_getLsbD_eq fun i hi => ?_
  simp only [fieldRd, BitVec.getLsbD_extractLsb', getLsbD_formatImm22, hi]
  simp (disch := omega) only [if_neg, if_pos, decide_true, Bool.true_and, Nat.add_sub_cancel_left]

@[simp] theorem fieldOp2_formatImm22 : fieldOp2 (formatImm22 rd op2 disp22) = op2 := by
  refine BitVec.eq_of_getLsbD_eq fun i hi => ?_
  simp only [fieldOp2, BitVec.getLsbD_extractLsb', getLsbD_formatImm22, hi]
  simp (disch := omega) only [if_neg, if_pos, decide_true, Bool.true_and, Nat.add_sub_cancel_left]

@[simp] theorem fieldImm22_formatImm22 : fieldImm22 (formatImm22 rd op2 disp22) = disp22 := by
  refine BitVec.eq_of_getLsbD_eq fun i hi => ?_
  simp only [fieldImm22, BitVec.getLsbD_extractLsb', getLsbD_formatImm22, hi]
  simp (disch := omega) only [if_pos, Nat.zero_add, decide_true, Bool.true_and]

end Format2

@[simp] theorem fieldOp_formatCall (disp30 : BitVec 30) : fieldOp (formatCall disp30) = 1#2 := by
  refine BitVec.eq_of_getLsbD_eq fun i hi => ?_
  simp only [fieldOp, BitVec.getLsbD_extractLsb', getLsbD_formatCall, hi]
  simp (disch := omega) only [if_neg, decide_true, Bool.true_and, Nat.add_sub_cancel_left]

@[simp] theorem fieldDisp30_formatCall (disp30 : BitVec 30) : fieldDisp30 (formatCall disp30) = disp30 := by
  refine BitVec.eq_of_getLsbD_eq fun i hi => ?_
  simp only [fieldDisp30, BitVec.getLsbD_extractLsb', getLsbD_formatCall, hi]
  simp (disch := omega) only [if_pos, Nat.zero_add, decide_true, Bool.true_and]

/-- The cond of a Ticc word. -/
@[simp] theorem fieldCond_formatTicc (cond : BitVec 4) (rs1 : RegNum) (lo : BitVec 14) :
    fieldCond (formatTicc cond rs1 lo) = cond := by
  refine BitVec.eq_of_getLsbD_eq fun i hi => ?_
  simp only [fieldCond, formatTicc, BitVec.getLsbD_extractLsb', getLsbD_format3, hi]
  simp (disch := omega) only [if_neg, if_pos, decide_true, Bool.true_and, Nat.add_sub_cancel_left]
  erw [BitVec.getLsbD_append]
  simp [hi]

/-- The Ticc word's cond where formatTicc is unfolded. -/
@[simp] theorem fieldCond_format3_ticc (cond : BitVec 4) (rs1 : RegNum) (lo : BitVec 14) :
    fieldCond (format3 2#2 (0#1 ++ cond) 0x3A#6 rs1 lo) = cond := fieldCond_formatTicc cond rs1 lo

/-- Every opf that FPop1 does not assign is the row of its own (R281). -/
theorem decodeFPop1_unassigned {w : Word} (h : assignedOpf1.contains (fieldOpf w) = false) :
    decodeFPop1 w = .fpop1Unassigned (fieldRd w) (fieldRs1 w) (fieldOpf w) (fieldRs2 w) := by
  unfold decodeFPop1
  split <;> first | rfl | (rename_i e; rw [e] at h; exact absurd h (by decide))

/-- Every opf that FPop2 does not assign is the row of its own (R281). -/
theorem decodeFPop2_unassigned {w : Word} (h : assignedOpf2.contains (fieldOpf w) = false) :
    decodeFPop2 w = .fpop2Unassigned (fieldRd w) (fieldRs1 w) (fieldOpf w) (fieldRs2 w) := by
  unfold decodeFPop2
  split <;> first | rfl | (rename_i e; rw [e] at h; exact absurd h (by decide))

/-- A word is its fields. -/
theorem format3_fields (w : Word) :
    w = format3 (fieldOp w) (fieldRd w) (fieldOp3 w) (fieldRs1 w) (w.extractLsb' 0 14) := by
  refine BitVec.eq_of_getLsbD_eq fun i hi => ?_
  simp only [getLsbD_format3, fieldOp, fieldRd, fieldOp3, fieldRs1, BitVec.getLsbD_extractLsb']
  (repeat' split) <;> (simp (disch := omega) only [decide_true, Bool.true_and, decide_eq_true, Nat.zero_add, *]; try (rw [show _ + (i - _) = i by omega]))

end Sys2Proof
end

