-- ==== Sys2Proof/Laws/Float.lean ====
section
/-! SUPPORT. Floating-point formats as sequences of magnitudes, and what rounding does (R554, R610). -/

namespace Sys2Proof.Machine

/-- The value of a magnitude's bits, in units of the least subnormal number. -/
def Fmt.units (t : Fmt) (m : Nat) : Nat :=
  if m < 2 ^ t.fracBits then m else (2 ^ t.fracBits + m % 2 ^ t.fracBits) * 2 ^ (m / 2 ^ t.fracBits - 1)

theorem Fmt.units_normal (t : Fmt) (q n : Nat) (h1 : 2 ^ t.fracBits ≤ n) (h2 : n < 2 ^ (t.fracBits + 1)) :
    t.units (q * 2 ^ t.fracBits + n) = n * 2 ^ q := by
  have hp := Nat.two_pow_pos t.fracBits
  generalize hP : 2 ^ t.fracBits = P at *
  rw [pow_succ, hP] at h2
  obtain ⟨k, rfl⟩ : ∃ k, n = P + k := ⟨n - P, by omega⟩
  have hk : k < P := by omega
  have e : q * P + (P + k) = k + P * (q + 1) := by ring
  unfold Fmt.units
  rw [hP, if_neg (by nlinarith), e, Nat.add_mul_mod_self_left, Nat.add_mul_div_left _ _ hp, Nat.mod_eq_of_lt hk,
    Nat.div_eq_of_lt hk]
  simp

/-- A magnitude with biased exponent field `q` or `q + 1` and significand `n`. -/
theorem Fmt.units_eq (t : Fmt) (q n : Nat) (h : q = 0 ∨ 2 ^ t.fracBits ≤ n) (h2 : n ≤ 2 ^ (t.fracBits + 1)) :
    t.units (q * 2 ^ t.fracBits + n) = n * 2 ^ q := by
  rcases Nat.lt_or_ge n (2 ^ t.fracBits) with hn | hn
  · have hq : q = 0 := by omega
    subst hq
    unfold Fmt.units
    simp [hn]
  · rcases Nat.lt_or_ge n (2 ^ (t.fracBits + 1)) with hn2 | hn2
    · exact Fmt.units_normal t q n hn hn2
    · have e : n = 2 ^ t.fracBits + 2 ^ t.fracBits := by rw [pow_succ] at *; omega
      have e2 : q * 2 ^ t.fracBits + n = (q + 1) * 2 ^ t.fracBits + 2 ^ t.fracBits := by rw [e]; ring
      rw [e2, Fmt.units_normal t (q + 1) _ le_rfl (Nat.pow_lt_pow_right (by decide) (by omega)), e]
      ring

/-- Every magnitude has such a form. -/
theorem Fmt.units_form (t : Fmt) (m : Nat) :
    ∃ q n, m = q * 2 ^ t.fracBits + n ∧ (q = 0 ∨ 2 ^ t.fracBits ≤ n) ∧ n < 2 ^ (t.fracBits + 1) := by
  have hp := Nat.two_pow_pos t.fracBits
  have hm := Nat.mod_lt m hp
  have hd := Nat.div_add_mod' m (2 ^ t.fracBits)
  rcases Nat.lt_or_ge m (2 ^ t.fracBits) with h | h
  · exact ⟨0, m, by simp, .inl rfl, h.trans (Nat.pow_lt_pow_right (by decide) (by omega))⟩
  · refine ⟨m / 2 ^ t.fracBits - 1, 2 ^ t.fracBits + m % 2 ^ t.fracBits, ?_, .inr (by omega), by rw [pow_succ]; omega⟩
    have h1 : 1 ≤ m / 2 ^ t.fracBits := Nat.div_pos h hp
    obtain ⟨k, hk⟩ : ∃ k, m / 2 ^ t.fracBits = k + 1 := ⟨m / 2 ^ t.fracBits - 1, by omega⟩
    rw [hk] at hd ⊢
    rw [Nat.add_sub_cancel]
    rw [Nat.add_mul] at hd
    omega

theorem Fmt.units_lt_succ (t : Fmt) (m : Nat) : t.units m < t.units (m + 1) := by
  obtain ⟨q, n, rfl, h1, h2⟩ := t.units_form m
  rw [Nat.add_assoc, t.units_eq q n h1 h2.le, t.units_eq q (n + 1) (h1.imp_right (by omega)) h2]
  exact Nat.mul_lt_mul_of_pos_right (by omega) (Nat.two_pow_pos q)

/-- Larger magnitudes have larger values. -/
theorem Fmt.units_strictMono (t : Fmt) : StrictMono t.units := strictMono_nat_of_lt_succ t.units_lt_succ

theorem Fmt.width_eq (t : Fmt) : t.width = t.expBits + t.fracBits + 1 := rfl

/-- The value of the bits of a magnitude and a sign. -/
theorem scaledValue_packBits (t : Fmt) (sign : Bool) (m : Nat) (h : m < 2 ^ (t.expBits + t.fracBits)) :
    scaledValue t (packBits t sign m) = if sign then -(t.units m : Int) else t.units m := by
  have hp := Nat.two_pow_pos t.fracBits
  have hq : packBits t sign m / 2 ^ (t.expBits + t.fracBits) % 2 = if sign then 1 else 0 := by
    unfold packBits Fmt.signBit
    cases sign
    · simp [Nat.div_eq_of_lt h]
    · rw [if_pos rfl, Nat.add_comm, Nat.add_div_right _ (Nat.two_pow_pos _), Nat.div_eq_of_lt h]; rfl
  have hf : packBits t sign m % 2 ^ t.fracBits = m % 2 ^ t.fracBits := by
    unfold packBits Fmt.signBit
    cases sign
    · simp
    · rw [if_pos rfl, pow_add, Nat.mul_comm, Nat.mul_add_mod]
  have he : packBits t sign m / 2 ^ t.fracBits % 2 ^ t.expBits = m / 2 ^ t.fracBits := by
    have hd : m / 2 ^ t.fracBits < 2 ^ t.expBits := by
      rw [Nat.div_lt_iff_lt_mul hp, ← pow_add]; exact h
    unfold packBits Fmt.signBit
    cases sign
    · simp [Nat.mod_eq_of_lt hd]
    · rw [if_pos rfl, pow_add, Nat.mul_comm, Nat.mul_add_div hp, Nat.add_mod, Nat.mod_self, Nat.zero_add, Nat.mod_mod, Nat.mod_eq_of_lt hd]
  unfold scaledValue
  rw [hq, hf, he]
  have hm : (if m / 2 ^ t.fracBits = 0 then m % 2 ^ t.fracBits
      else (2 ^ t.fracBits + m % 2 ^ t.fracBits) * 2 ^ (m / 2 ^ t.fracBits - 1)) = t.units m := by
    unfold Fmt.units
    rcases Nat.lt_or_ge m (2 ^ t.fracBits) with h | h
    · rw [if_pos h, if_pos (Nat.div_eq_of_lt h), Nat.mod_eq_of_lt h]
    · rw [if_neg (Nat.not_lt.mpr h), if_neg (Nat.div_pos h hp).ne']
  simp only [hm]
  cases sign <;> rfl

/-- Every bit pattern of the format is a magnitude and a sign. -/
theorem exists_packBits (t : Fmt) (bits : Nat) (h : bits < 2 ^ t.width) :
    ∃ m, m < 2 ^ (t.expBits + t.fracBits) ∧ bits = packBits t (bits.testBit (t.width - 1)) m := by
  have hw : 2 ^ t.width = 2 * 2 ^ (t.expBits + t.fracBits) := by rw [Fmt.width_eq, pow_succ]; ring
  refine ⟨bits % 2 ^ (t.expBits + t.fracBits), Nat.mod_lt _ (Nat.two_pow_pos _), ?_⟩
  unfold packBits Fmt.signBit
  rw [Fmt.width_eq, Nat.add_sub_cancel, Nat.testBit_eq_decide_div_mod_eq]
  have hd := Nat.div_add_mod bits (2 ^ (t.expBits + t.fracBits))
  have h2 : bits / 2 ^ (t.expBits + t.fracBits) < 2 := by
    rw [Nat.div_lt_iff_lt_mul (Nat.two_pow_pos _), ← hw]; exact h
  generalize bits / 2 ^ (t.expBits + t.fracBits) = d at *
  rcases (show d = 0 ∨ d = 1 by omega) with h | h
  · rw [h] at hd ⊢; simp at hd ⊢; omega
  · rw [h] at hd ⊢; simp at hd ⊢; omega

theorem packBits_testBit (t : Fmt) (sign : Bool) (m : Nat) (h : m < 2 ^ (t.expBits + t.fracBits)) :
    (packBits t sign m).testBit (t.width - 1) = sign := by
  unfold packBits Fmt.signBit
  rw [Fmt.width_eq, Nat.add_sub_cancel]
  cases sign
  · simp [Nat.testBit_lt_two_pow h]
  · rw [if_pos rfl, Nat.testBit_two_pow_add_eq, Nat.testBit_lt_two_pow h]; rfl

theorem packBits_mod (t : Fmt) (sign : Bool) (m : Nat) (h : m < 2 ^ (t.expBits + t.fracBits)) :
    packBits t sign m % 2 ^ (t.width - 1) = m := by
  unfold packBits Fmt.signBit
  rw [Fmt.width_eq, Nat.add_sub_cancel]
  cases sign
  · simp [Nat.mod_eq_of_lt h]
  · rw [if_pos rfl, Nat.add_mod_left, Nat.mod_eq_of_lt h]

theorem packBits_lt (t : Fmt) (sign : Bool) (m : Nat) (h : m < 2 ^ (t.expBits + t.fracBits)) : packBits t sign m < 2 ^ t.width := by
  unfold packBits Fmt.signBit
  rw [Fmt.width_eq, pow_succ]
  generalize 2 ^ (t.expBits + t.fracBits) = P at *
  split <;> omega

theorem Fmt.infinity_lt (t : Fmt) : t.infinity < 2 ^ (t.expBits + t.fracBits) := by
  unfold Fmt.infinity
  rw [pow_add]
  exact Nat.mul_lt_mul_of_pos_right (by have := Nat.two_pow_pos t.expBits; omega) (Nat.two_pow_pos _)

/-- A magnitude is finite exactly when it is below infinity's. -/
theorem finite_packBits (t : Fmt) (sign : Bool) (m : Nat) (h : m < 2 ^ (t.expBits + t.fracBits)) :
    t.finite (packBits t sign m) ↔ m < t.infinity := by
  have hp := Nat.two_pow_pos t.fracBits
  have hd : m / 2 ^ t.fracBits < 2 ^ t.expBits := by
    rw [Nat.div_lt_iff_lt_mul hp, ← pow_add]; exact h
  have he : packBits t sign m / 2 ^ t.fracBits % 2 ^ t.expBits = m / 2 ^ t.fracBits := by
    unfold packBits Fmt.signBit
    cases sign
    · simp [Nat.mod_eq_of_lt hd]
    · rw [if_pos rfl, pow_add, Nat.mul_comm, Nat.mul_add_div hp, Nat.add_mod, Nat.mod_self, Nat.zero_add, Nat.mod_mod, Nat.mod_eq_of_lt hd]
  unfold Fmt.finite Fmt.infinity
  rw [he, ← Nat.div_lt_iff_lt_mul hp]
  constructor
  · rintro ⟨-, h⟩; omega
  · intro h; exact ⟨packBits_lt t sign m ‹_›, by omega⟩

/-- What rounding keeps of a magnitude, whether it is tiny, and how what is discarded compares with one half: `X` is the magnitude in
units of the least subnormal number. -/
structure Split (t : Fmt) (X : ℝ) (q n : Nat) (inexact : Bool) (half : Ordering) (tiny : Bool) : Prop where
  small : n < 2 ^ (t.fracBits + 1)
  normal : q = 0 ∨ 2 ^ t.fracBits ≤ n
  lower : (n : ℝ) * 2 ^ q ≤ X
  upper : X < ((n : ℝ) + 1) * 2 ^ q
  inexact : inexact = true ↔ X ≠ (n : ℝ) * 2 ^ q
  above : half = .gt ↔ (2 * n + 1 : ℝ) * 2 ^ q < 2 * X
  middle : half = .eq ↔ (2 * n + 1 : ℝ) * 2 ^ q = 2 * X
  tiny : tiny = true ↔ X < 2 ^ t.fracBits

theorem Fmt.leastExponent_eq (t : Fmt) : (t.leastExponent : Int) = t.bias - 1 + t.fracBits := by cases t <;> rfl

theorem half_split (r k : Nat) (sticky : Bool) (A w X : ℝ) (hw : 0 < w) (h1 : sticky = false → X = A + r * w)
    (h2 : sticky = true → A + r * w < X ∧ X < A + r * w + w) :
    ((if 2 * r = 2 ^ (k + 1) then (if sticky then .gt else .eq) else compare (2 * r) (2 ^ (k + 1)) : Ordering) = .gt ↔
      2 * A + 2 ^ (k + 1) * w < 2 * X) ∧
    ((if 2 * r = 2 ^ (k + 1) then (if sticky then .gt else .eq) else compare (2 * r) (2 ^ (k + 1)) : Ordering) = .eq ↔
      2 * A + 2 ^ (k + 1) * w = 2 * X) := by
  have X1 : A + r * w ≤ X := by cases sticky <;> [exact (h1 rfl).ge; exact (h2 rfl).1.le]
  have X2 : X < A + r * w + w := by
    cases sticky
    · rw [h1 rfl]; linarith
    · exact (h2 rfl).2
  rcases Nat.lt_trichotomy (2 * r) (2 ^ (k + 1)) with h | h | h
  · have h' : 2 * r + 2 ≤ 2 ^ (k + 1) := by rw [pow_succ] at h ⊢; omega
    have h'' : 2 * (r : ℝ) + 2 ≤ 2 ^ (k + 1) := by exact_mod_cast h'
    have h3 : (2 * (r : ℝ) + 2) * w ≤ 2 ^ (k + 1) * w := mul_le_mul_of_nonneg_right h'' hw.le
    have hc : compare (2 * r) (2 ^ (k + 1)) = .lt := Nat.compare_eq_lt.mpr h
    rw [if_neg (Nat.ne_of_lt h), hc]
    exact ⟨⟨nofun, fun h => by linarith⟩, nofun, fun h => by linarith⟩
  · have h'' : 2 * (r : ℝ) = 2 ^ (k + 1) := by exact_mod_cast h
    rw [if_pos h, ← h'']
    cases sticky
    · have hx := h1 rfl
      exact ⟨⟨nofun, fun h => by linarith⟩, fun _ => by linarith, fun _ => rfl⟩
    · have hx := (h2 rfl).1
      exact ⟨⟨fun _ => by linarith, fun _ => rfl⟩, nofun, fun h => by linarith⟩
  · have h'' : (2 : ℝ) ^ (k + 1) + 1 ≤ 2 * r := by exact_mod_cast h
    have h3 : ((2 : ℝ) ^ (k + 1) + 1) * w ≤ 2 * r * w := mul_le_mul_of_nonneg_right h'' hw.le
    have hc : compare (2 * r) (2 ^ (k + 1)) = .gt := Nat.compare_eq_gt.mpr h
    rw [if_neg (Nat.ne_of_gt h), hc]
    exact ⟨⟨fun _ => by linarith, fun _ => rfl⟩, nofun, fun h => by linarith⟩

/-- fp_round, its exact value split (R554, R610). -/
theorem fpRound_split (t : Fmt) (env : FpEnv) (sign : Bool) (m : Nat) (e : Int) (sticky : Bool) (X : ℝ) (hm : 0 < m)
    (hn : env.ns = false)
    (h1 : sticky = false → X = m * (2 : ℝ) ^ (e + t.leastExponent))
    (h2 : sticky = true → t.fracBits + 1 ≤ Nat.log2 m ∧ m * (2 : ℝ) ^ (e + t.leastExponent) < X ∧
      X < (m + 1) * (2 : ℝ) ^ (e + t.leastExponent)) :
    ∃ q n inexact half tiny, Split t X q n inexact half tiny ∧
      fpRound t env sign m e sticky =
        let rounded := if roundsUp env.rd sign (n % 2 == 1) inexact half then n + 1 else n
        let magnitude := q * 2 ^ t.fracBits + rounded
        if t.infinity ≤ magnitude then ⟨overflowBits t env.rd sign, { ov := true, nx := true }⟩
        else ⟨packBits t sign magnitude, { uf := tiny && (inexact || env.ufm), nx := inexact }⟩ := by
  have hL := t.leastExponent_eq
  obtain ⟨lo, hi⟩ : 2 ^ m.log2 ≤ m ∧ m < 2 ^ (m.log2 + 1) := ⟨Nat.log2_self_le hm.ne', Nat.lt_log2_self⟩
  unfold fpRound
  dsimp only
  rw [hn]
  simp only [Bool.false_and, Bool.or_false, Bool.false_eq_true, if_false]
  generalize hg : m.log2 = g at *
  generalize hw : (2 : ℝ) ^ (e + t.leastExponent) = w at *
  have hw0 : 0 < w := by rw [← hw]; positivity
  generalize hq : max ((g : Int) + e - t.fracBits) (1 - (t.bias : Int) - t.fracBits) = quantum
  have hq1 : (g : Int) + e - t.fracBits ≤ quantum := by rw [← hq]; exact le_max_left ..
  have hq2 : 1 - (t.bias : Int) - t.fracBits ≤ quantum := by rw [← hq]; exact le_max_right ..
  have hq3 : quantum = (g : Int) + e - t.fracBits ∨ quantum = 1 - (t.bias : Int) - t.fracBits := by
    rw [← hq]; exact max_choice _ _
  obtain ⟨q, hqq⟩ : ∃ q : Nat, quantum + t.fracBits + t.bias - 1 = q := ⟨(quantum + t.fracBits + t.bias - 1).toNat, by omega⟩
  have hqL : quantum + t.leastExponent = q := by omega
  -- the magnitude is at least m and less than m + 1 units
  have hX1 : m * w ≤ X := by cases sticky <;> [exact (h1 rfl).ge; exact (h2 rfl).2.1.le]
  have hX2 : X < (m + 1) * w := by
    cases sticky
    · rw [h1 rfl]; nlinarith
    · exact (h2 rfl).2.2
  -- tininess
  have htiny : decide ((g : Int) + e < 1 - (t.bias : Int)) = true ↔ X < 2 ^ t.fracBits := by
    rw [decide_eq_true_iff]
    have hz : ∀ k : Nat, (2 : ℝ) ^ k * w = 2 ^ ((k : Int) + (e + t.leastExponent)) := by
      intro k; rw [← hw, zpow_add₀ (by norm_num : (2 : ℝ) ≠ 0) (k : Int), zpow_natCast]
    have hf : (2 : ℝ) ^ t.fracBits = 2 ^ ((t.fracBits : Nat) : Int) := (zpow_natCast _ _).symm
    constructor
    · intro h
      have : (m + 1 : ℝ) * w ≤ 2 ^ (g + 1) * w := by
        apply mul_le_mul_of_nonneg_right _ hw0.le
        exact_mod_cast hi
      calc X < (m + 1) * w := hX2
        _ ≤ 2 ^ (g + 1) * w := this
        _ = 2 ^ (((g + 1 : Nat) : Int) + (e + t.leastExponent)) := hz _
        _ ≤ 2 ^ ((t.fracBits : Nat) : Int) := zpow_le_zpow_right₀ (by norm_num) (by push_cast; omega)
        _ = 2 ^ t.fracBits := hf.symm
    · intro h
      by_contra hc
      have : (2 : ℝ) ^ g * w ≤ m * w := by
        apply mul_le_mul_of_nonneg_right _ hw0.le
        exact_mod_cast lo
      have h3 : (2 : ℝ) ^ t.fracBits ≤ 2 ^ g * w := by
        rw [hf, hz]
        exact zpow_le_zpow_right₀ (by norm_num) (by omega)
      linarith
  refine ⟨q, if quantum ≤ e then m * 2 ^ (e - quantum).toNat else m / 2 ^ (quantum - e).toNat,
    (if quantum ≤ e then 0 else m % 2 ^ (quantum - e).toNat) != 0 || sticky,
    if quantum ≤ e then .lt
      else if 2 * (if quantum ≤ e then 0 else m % 2 ^ (quantum - e).toNat) = 2 ^ (quantum - e).toNat then (if sticky then .gt else .eq)
      else compare (2 * (if quantum ≤ e then 0 else m % 2 ^ (quantum - e).toNat)) (2 ^ (quantum - e).toNat),
    decide ((g : Int) + e < 1 - (t.bias : Int)), ?_, ?_⟩
  swap
  · rw [hqq, Int.toNat_natCast]; rfl
  by_cases hc : quantum ≤ e
  · simp only [hc, if_true]
    have hs : sticky = false := by
      cases sticky
      · rfl
      · have := (h2 rfl).1; omega
    subst hs
    obtain ⟨k, hk⟩ : ∃ k : Nat, e - quantum = k := ⟨(e - quantum).toNat, by omega⟩
    rw [hk, Int.toNat_natCast]
    have hX : X = ((m * 2 ^ k : Nat) : ℝ) * 2 ^ q := by
      rw [h1 rfl, ← hw, show e + (t.leastExponent : Int) = (k : Int) + q by omega, zpow_add₀ (by norm_num), zpow_natCast, zpow_natCast]
      push_cast; ring
    have hp : (0 : ℝ) < 2 ^ q := by positivity
    refine ⟨?_, ?_, hX.ge, ?_, ?_, ?_, ?_, htiny⟩
    · calc m * 2 ^ k < 2 ^ (g + 1) * 2 ^ k := Nat.mul_lt_mul_of_pos_right hi (Nat.two_pow_pos _)
        _ = 2 ^ (g + 1 + k) := (pow_add ..).symm
        _ ≤ 2 ^ (t.fracBits + 1) := Nat.pow_le_pow_right (by decide) (by omega)
    · rcases hq3 with h | h
      · right
        calc 2 ^ t.fracBits = 2 ^ (g + k) := by congr 1; omega
          _ = 2 ^ g * 2 ^ k := pow_add ..
          _ ≤ m * 2 ^ k := Nat.mul_le_mul_right _ lo
      · left; omega
    · rw [hX]; nlinarith
    · simp [hX]
    · simp only [reduceCtorEq, false_iff, hX]; push_cast; nlinarith
    · simp only [reduceCtorEq, false_iff, hX]; push_cast; nlinarith
  · simp only [hc, if_false]
    obtain ⟨k, hk⟩ : ∃ k : Nat, quantum - e = k + 1 := ⟨(quantum - e - 1).toNat, by omega⟩
    have hk' : (quantum - e).toNat = k + 1 := by omega
    rw [hk']
    generalize hN : m / 2 ^ (k + 1) = n
    generalize hR : m % 2 ^ (k + 1) = r
    have hmn : m = n * 2 ^ (k + 1) + r := by rw [← hN, ← hR, Nat.div_add_mod']
    have hr : r < 2 ^ (k + 1) := by rw [← hR]; exact Nat.mod_lt _ (Nat.two_pow_pos _)
    have hw2 : (2 : ℝ) ^ q = 2 ^ (k + 1) * w := by
      rw [← hw, ← zpow_natCast, ← zpow_natCast, ← zpow_add₀ (by norm_num)]
      congr 1
      push_cast
      omega
    have hp2 : (2 : ℝ) ^ (k + 1) = 2 * 2 ^ k := by rw [pow_succ]; ring
    have hrR : (r : ℝ) + 1 ≤ 2 ^ (k + 1) := by exact_mod_cast hr
    have hmR : (m : ℝ) = n * 2 ^ (k + 1) + r := by rw [hmn]; push_cast; ring
    rw [hmR] at hX1 hX2
    have hr0 : (0 : ℝ) ≤ r := Nat.cast_nonneg r
    have e1 : (n : ℝ) * 2 ^ q = n * 2 ^ (k + 1) * w := by rw [hw2]; ring
    have e2 : ((n : ℝ) + 1) * 2 ^ q = n * 2 ^ (k + 1) * w + 2 ^ (k + 1) * w := by rw [hw2]; ring
    have e3 : (2 * (n : ℝ) + 1) * 2 ^ q = 2 * (n * 2 ^ (k + 1) * w) + 2 ^ (k + 1) * w := by rw [hw2]; ring
    have b1 : (r : ℝ) * w + w ≤ 2 ^ (k + 1) * w := by nlinarith
    have b0 : 0 ≤ (r : ℝ) * w := by positivity
    have X1 : n * 2 ^ (k + 1) * w + r * w ≤ X := by nlinarith
    have X2 : X < n * 2 ^ (k + 1) * w + r * w + w := by nlinarith
    refine ⟨?_, ?_, by rw [e1]; linarith, by rw [e2]; linarith, ?_, ?_, ?_, htiny⟩
    · rw [← hN, Nat.div_lt_iff_lt_mul (Nat.two_pow_pos _), ← pow_add]
      exact hi.trans_le (Nat.pow_le_pow_right (by decide) (by omega))
    · rcases hq3 with h | h
      · right
        rw [← hN, Nat.le_div_iff_mul_le (Nat.two_pow_pos _), ← pow_add]
        exact le_trans (Nat.pow_le_pow_right (by decide) (by omega)) lo
      · left; omega
    · rw [e1]
      cases sticky
      · have := h1 rfl
        rw [hmR] at this
        simp only [Bool.or_false, bne_iff_ne, ne_eq]
        rw [this]
        constructor
        · intro h hx
          have : (0 : ℝ) < r := by exact_mod_cast Nat.pos_of_ne_zero h
          nlinarith
        · intro h hr; apply h; rw [hr]; push_cast; ring
      · have := (h2 rfl).2.1
        rw [hmR] at this
        simp only [Bool.or_true, true_iff, ne_eq]
        intro hx; nlinarith
    all_goals
      rw [e3]
    · exact (half_split r k sticky (n * 2 ^ (k + 1) * w) w X hw0 (fun h => by rw [h1 h, hmR]; ring)
        (fun h => by have := (h2 h).2; rw [hmR] at this; constructor <;> nlinarith)).1
    · exact (half_split r k sticky (n * 2 ^ (k + 1) * w) w X hw0 (fun h => by rw [h1 h, hmR]; ring)
        (fun h => by have := (h2 h).2; rw [hmR] at this; constructor <;> nlinarith)).2

/-- One of two neighbours `lo ≤ X < hi` chosen by `roundsUp`, `odd` saying that `lo`'s last bit is 1, against any other magnitude `w`. -/
theorem roundsUp_best (rd : BitVec 2) (sign s' odd inexact up : Bool) (half : Ordering) (lo hi X w : ℝ) (h0 : 0 ≤ lo) (hX : 0 < X)
    (h1 : lo ≤ X) (h2 : X < hi) (hi1 : inexact = true ↔ X ≠ lo) (hg : half = .gt ↔ lo + hi < 2 * X)
    (he : half = .eq ↔ lo + hi = 2 * X) (hw0 : 0 ≤ w) (hw : w ≤ lo ∨ hi ≤ w) (hup : up = roundsUp rd sign odd inexact half) :
    let sg (s : Bool) (y : ℝ) : ℝ := if s then -y else y
    let v := sg sign (if up then hi else lo)
    let x := sg sign X
    let z := sg s' w
    (rd = 0#2 → |v - x| ≤ |z - x| ∧ (|v - x| = |z - x| → z = v ∨ odd = up)) ∧
    (rd = 1#2 → |v| ≤ |x| ∧ 0 ≤ v * x ∧ (|z| ≤ |x| → |z| ≤ |v|)) ∧
    (rd = 2#2 → x ≤ v ∧ (x ≤ z → v ≤ z)) ∧ (rd = 3#2 → v ≤ x ∧ (z ≤ x → z ≤ v)) := by
  have neg_sub_neg (a b : ℝ) : |-a - -b| = |a - b| := by rw [show -a - -b = -(a - b) by ring, abs_neg]
  have opp (a b : ℝ) (ha : 0 ≤ a) (hb : 0 ≤ b) : |-a - b| = a + b ∧ |a - -b| = a + b := by
    constructor
    · rw [show -a - b = -(a + b) by ring, abs_neg, abs_of_nonneg (by linarith)]
    · rw [show a - -b = a + b by ring, abs_of_nonneg (by linarith)]
  have hhi : 0 ≤ hi := by linarith
  refine ⟨?_, ?_, ?_, ?_⟩ <;> intro hrd <;> subst hrd
  · -- to nearest: either the lower neighbour is at least as near, or the upper one
    have hu : (up = true ∧ (lo + hi < 2 * X ∨ lo + hi = 2 * X ∧ odd = true)) ∨
        (up = false ∧ (2 * X < lo + hi ∨ lo + hi = 2 * X ∧ odd = false)) := by
      have : roundsUp 0#2 sign odd inexact half = (half == .gt || (half == .eq && odd)) := rfl
      rw [hup, this]
      cases half
      · right
        have a1 : ¬ lo + hi < 2 * X := fun h => nomatch hg.mpr h
        have a2 : lo + hi ≠ 2 * X := fun h => nomatch he.mpr h
        exact ⟨rfl, .inl (lt_of_le_of_ne (not_lt.mp a1) (Ne.symm a2))⟩
      · have a1 := he.mp rfl
        cases odd
        · exact .inr ⟨rfl, .inr ⟨a1, rfl⟩⟩
        · exact .inl ⟨rfl, .inr ⟨a1, rfl⟩⟩
      · exact .inl ⟨rfl, .inl (hg.mp rfl)⟩
    have hV : ∀ y : ℝ, 0 ≤ y → |(if sign then -y else y) - (if sign then -X else X)| = |y - X| := by
      intro y _; cases sign
      · rfl
      · exact neg_sub_neg y X
    have hZ : |(if s' then -w else w) - (if sign then -X else X)| = if s' = sign then |w - X| else w + X := by
      cases sign <;> cases s'
      · rfl
      · exact (opp w X hw0 hX.le).1
      · exact (opp w X hw0 hX.le).2
      · exact neg_sub_neg w X
    have hwX : |w - X| = if w ≤ lo then X - w else w - X := by
      split
      · rw [abs_sub_comm, abs_of_nonneg (by linarith)]
      · rw [abs_of_nonneg (by rcases hw with h | h <;> linarith)]
    dsimp only
    rw [hV _ (by split <;> assumption), hZ, hwX]
    rcases hu with ⟨rfl, hc⟩ | ⟨rfl, hc⟩
    · rw [if_pos rfl, abs_of_nonneg (by linarith : 0 ≤ hi - X)]
      have hc' : lo + hi ≤ 2 * X := by rcases hc with h | h <;> [exact h.le; exact h.1.le]
      split
      · rename_i hs
        split
        · refine ⟨by linarith, fun h => ?_⟩
          rcases hc with hc | hc
          · linarith
          · exact .inr hc.2
        · have hhw : hi ≤ w := hw.resolve_left ‹_›
          refine ⟨by linarith, fun h => .inl ?_⟩
          rw [hs, show w = hi by linarith]
      · refine ⟨by linarith, fun h => ?_⟩
        rcases hc with hc | hc
        · linarith
        · exact .inr hc.2
    · rw [if_neg (by decide), abs_sub_comm, abs_of_nonneg (by linarith : 0 ≤ X - lo)]
      have hc' : 2 * X ≤ lo + hi := by rcases hc with h | h <;> [exact h.le; exact h.1.ge]
      split
      · rename_i hs
        split
        · refine ⟨by linarith, fun h => .inl ?_⟩
          rw [hs, show w = lo by linarith]
        · have hhw : hi ≤ w := hw.resolve_left ‹_›
          refine ⟨by linarith, fun h => ?_⟩
          rcases hc with hc | hc
          · linarith
          · exact .inr hc.2
      · refine ⟨by linarith, fun h => ?_⟩
        have h3 : w = 0 := by linarith
        have h4 : lo = 0 := by linarith
        left; rw [h3, h4]; cases sign <;> cases s' <;> simp
  · have : up = false := by rw [hup]; rfl
    subst this
    simp only [Bool.false_eq_true, if_false]
    have hab : ∀ (s : Bool) (y : ℝ), 0 ≤ y → |if s then -y else y| = y := by
      intro s y hy; cases s
      · exact abs_of_nonneg hy
      · exact (abs_neg y).trans (abs_of_nonneg hy)
    rw [hab _ _ h0, hab _ _ hX.le, hab _ _ hw0]
    refine ⟨h1, ?_, fun h => ?_⟩
    · cases sign
      · exact mul_nonneg h0 hX.le
      · show 0 ≤ -lo * -X
        rw [neg_mul_neg]; exact mul_nonneg h0 hX.le
    · rcases hw with hw | hw
      · exact hw
      · linarith
  · have hu : up = (inexact && !sign) := by rw [hup]; rfl
    subst hu
    cases sign <;> cases s' <;> cases inexact <;>
      simp only [ne_eq, Bool.false_eq_true, false_iff, true_iff, not_not, Bool.not_true, Bool.not_false, Bool.and_true, Bool.and_false,
        if_true, if_false] at hi1 ⊢
    all_goals
      refine ⟨by linarith, fun h => ?_⟩
      rcases hw with hw | hw
      all_goals first
        | linarith
        | (exfalso; exact hi1 (by linarith))
  · have hu : up = (inexact && sign) := by rw [hup]; rfl
    subst hu
    cases sign <;> cases s' <;> cases inexact <;>
      simp only [ne_eq, Bool.false_eq_true, false_iff, true_iff, not_not, Bool.and_true, Bool.and_false,
        if_true, if_false] at hi1 ⊢
    all_goals
      refine ⟨by linarith, fun h => ?_⟩
      rcases hw with hw | hw
      all_goals first
        | linarith
        | (exfalso; exact hi1 (by linarith))

theorem value_packBits (t : Fmt) (sign : Bool) (m : Nat) (h : m < 2 ^ (t.expBits + t.fracBits)) :
    (t.value (packBits t sign m) : ℝ) = if sign then -((t.units m : ℝ) / 2 ^ t.leastExponent) else (t.units m : ℝ) / 2 ^ t.leastExponent := by
  unfold Fmt.value
  rw [scaledValue_packBits t sign m h]
  cases sign <;> simp [neg_div]

theorem value_magnitude (t : Fmt) (m : Nat) (h : m < 2 ^ (t.expBits + t.fracBits)) :
    (t.value m : ℝ) = (t.units m : ℝ) / 2 ^ t.leastExponent := by
  have := value_packBits t false m h
  simpa [packBits] using this

theorem Fmt.fracBits_pos (t : Fmt) : 0 < t.fracBits := by cases t <;> decide

theorem Fmt.infinity_pos (t : Fmt) : 0 < t.infinity := by cases t <;> decide

theorem Fmt.infinity_odd (t : Fmt) : (t.infinity - 1) % 2 = 1 := by cases t <;> decide

theorem packBits_parity (t : Fmt) (sign : Bool) (m : Nat) : packBits t sign m % 2 = m % 2 := by
  have : 2 ∣ 2 ^ t.signBit := dvd_pow_self 2 (by unfold Fmt.signBit; have := t.fracBits_pos; omega)
  unfold packBits
  split
  · rw [Nat.add_mod, Nat.mod_eq_zero_of_dvd this, Nat.zero_add, Nat.mod_mod]
  · rw [Nat.zero_add]

/-- A magnitude `lo` and the next one, `X` between them, and how rounding compares `X` with them: `X` is in units of the least subnormal
number. -/
structure Neighbours (t : Fmt) (X : ℝ) (lo : Nat) (inexact : Bool) (half : Ordering) (tiny : Bool) : Prop where
  pos : 0 < X
  lower : (t.units lo : ℝ) ≤ X
  upper : X < t.units (lo + 1)
  inexact : inexact = true ↔ X ≠ t.units lo
  above : half = .gt ↔ (t.units lo : ℝ) + t.units (lo + 1) < 2 * X
  middle : half = .eq ↔ (t.units lo : ℝ) + t.units (lo + 1) = 2 * X
  tiny : tiny = true ↔ X < 2 ^ t.fracBits

theorem Split.neighbours {t : Fmt} {X : ℝ} {q n : Nat} {inexact : Bool} {half : Ordering} {tiny : Bool} (h : Split t X q n inexact half tiny)
    (hX : 0 < X) : Neighbours t X (q * 2 ^ t.fracBits + n) inexact half tiny ∧ (q * 2 ^ t.fracBits + n) % 2 = n % 2 := by
  have rlo : (t.units (q * 2 ^ t.fracBits + n) : ℝ) = (n : ℝ) * 2 ^ q := by
    rw [t.units_eq q n h.normal h.small.le]; push_cast; rfl
  have rhi : (t.units (q * 2 ^ t.fracBits + n + 1) : ℝ) = ((n : ℝ) + 1) * 2 ^ q := by
    rw [Nat.add_assoc, t.units_eq q (n + 1) (h.normal.imp_right (by omega)) h.small]; push_cast; rfl
  refine ⟨⟨hX, ?_, ?_, ?_, ?_, ?_, h.tiny⟩, ?_⟩
  · rw [rlo]; exact h.lower
  · rw [rhi]; exact h.upper
  · rw [rlo]; exact h.inexact
  · rw [h.above, rlo, rhi]; ring_nf
  · rw [h.middle, rlo, rhi]; ring_nf
  · have : 2 ∣ q * 2 ^ t.fracBits := Dvd.dvd.mul_left (dvd_pow_self 2 t.fracBits_pos.ne') q
    omega

/-- The result of rounding between two neighbours (R554, R610). -/
def roundedBetween (t : Fmt) (env : FpEnv) (sign : Bool) (lo : Nat) (inexact : Bool) (half : Ordering) (tiny : Bool) : FpResult :=
  let magnitude := if roundsUp env.rd sign (lo % 2 == 1) inexact half then lo + 1 else lo
  if t.infinity ≤ magnitude then ⟨overflowBits t env.rd sign, { ov := true, nx := true }⟩
  else ⟨packBits t sign magnitude, { uf := tiny && (inexact || env.ufm), nx := inexact }⟩

/-- fp_round rounds between two neighbours. -/
theorem fpRound_neighbours (t : Fmt) (env : FpEnv) (sign : Bool) (m : Nat) (e : Int) (sticky : Bool) (X : ℝ) (hm : 0 < m)
    (hn : env.ns = false)
    (h1 : sticky = false → X = m * (2 : ℝ) ^ (e + t.leastExponent))
    (h2 : sticky = true → t.fracBits + 1 ≤ Nat.log2 m ∧ m * (2 : ℝ) ^ (e + t.leastExponent) < X ∧
      X < (m + 1) * (2 : ℝ) ^ (e + t.leastExponent)) :
    ∃ lo inexact half tiny, Neighbours t X lo inexact half tiny ∧
      fpRound t env sign m e sticky = roundedBetween t env sign lo inexact half tiny := by
  obtain ⟨q, n, inexact, half, tiny, hs, hr⟩ := fpRound_split t env sign m e sticky X hm hn h1 h2
  have hX : 0 < X := by
    have : (0 : ℝ) < m * (2 : ℝ) ^ (e + t.leastExponent) := mul_pos (by exact_mod_cast hm) (by positivity)
    cases sticky
    · rw [h1 rfl]; exact this
    · exact this.trans (h2 rfl).2.1
  obtain ⟨hN, hp⟩ := hs.neighbours hX
  refine ⟨_, inexact, half, tiny, hN, ?_⟩
  rw [hr]
  unfold roundedBetween
  rw [hp]
  dsimp only
  have hmag : ∀ b : Bool, q * 2 ^ t.fracBits + (if b = true then n + 1 else n) =
      if b then q * 2 ^ t.fracBits + n + 1 else q * 2 ^ t.fracBits + n := by
    intro b; cases b <;> rfl
  rw [hmag]

/-- The sign of a value. -/
theorem signed_facts {sign : Bool} {X S x : ℝ} (hX : 0 < X) (hS : 0 < S) (hx : x = (if sign then -X else X) / S) :
    (x < 0 ↔ sign = true) ∧ (0 < x ↔ sign = false) ∧ x ≠ 0 ∧ |x| = X / S := by
  have hp := div_pos hX hS
  cases sign
  · simp only [Bool.false_eq_true, if_false] at hx
    subst hx
    exact ⟨⟨fun h => absurd hp h.not_gt, nofun⟩, ⟨fun _ => rfl, fun _ => hp⟩, hp.ne', abs_of_pos hp⟩
  · simp only [if_true, neg_div] at hx
    subst hx
    refine ⟨⟨fun _ => rfl, fun _ => by linarith⟩, ⟨fun h => by linarith, nofun⟩, by linarith [hp] |> fun h : -(X / S) < 0 => h.ne, ?_⟩
    rw [abs_neg, abs_of_pos hp]

theorem two_bits (r : BitVec 2) : r = 0#2 ∨ r = 1#2 ∨ r = 2#2 ∨ r = 3#2 := by revert r; decide

theorem roundsUp_eq (rd : BitVec 2) (sign odd inexact : Bool) (half : Ordering) :
    roundsUp rd sign odd inexact half = true ↔
      rd = 0#2 ∧ (half = .gt ∨ half = .eq ∧ odd = true) ∨
      (rd = 2#2 ∧ sign = false ∨ rd = 3#2 ∧ sign = true) ∧ inexact = true := by
  rcases two_bits rd with h | h | h | h <;> subst h <;> cases sign <;> cases odd <;> cases inexact <;> cases half <;> decide

/-- When rounding reaches infinity (R554). -/
theorem Neighbours.overflows {t : Fmt} {X : ℝ} {lo : Nat} {inexact : Bool} {half : Ordering} {tiny : Bool}
    (h : Neighbours t X lo inexact half tiny) {env : FpEnv} {sign : Bool} {x : ℝ} (hx : x = (if sign then -X else X) / 2 ^ t.leastExponent) :
    t.infinity ≤ (if roundsUp env.rd sign (lo % 2 == 1) inexact half then lo + 1 else lo) ↔ t.Overflows env.rd x := by
  have hS : (0 : ℝ) < 2 ^ t.leastExponent := by positivity
  obtain ⟨hxs, hxp, -, hax⟩ := signed_facts h.pos hS hx
  have mono := t.units_strictMono
  have h0 := t.infinity_pos
  have h1 := h.lower
  have h2 := h.upper
  unfold Fmt.Overflows outwards
  dsimp only
  rw [value_magnitude t t.infinity t.infinity_lt, value_magnitude t (t.infinity - 1) (by have := t.infinity_lt; omega), hax, ← add_div,
    ← mul_div_assoc, div_le_div_iff_of_pos_right hS, div_lt_div_iff_of_pos_right hS, div_le_div_iff_of_pos_right hS, hxs, hxp]
  generalize hO : (env.rd = 2#2 ∧ sign = false ∨ env.rd = 3#2 ∧ sign = true) = O
  have hIM : (t.units (t.infinity - 1) : ℝ) < t.units t.infinity := by exact_mod_cast mono (by omega)
  have hO0 : O → env.rd ≠ 0#2 := by
    rw [← hO]
    rintro (⟨h, -⟩ | ⟨h, -⟩) <;> rw [h] <;> decide
  rcases Nat.lt_trichotomy (lo + 1) t.infinity with hc | hc | hc
  · have hb : (t.units (lo + 1) : ℝ) ≤ t.units (t.infinity - 1) := by exact_mod_cast mono.le_iff_le.mpr (by omega)
    constructor
    · intro h; exfalso; split at h <;> omega
    · rintro (⟨-, h⟩ | ⟨-, h⟩ | ⟨-, -, h⟩) <;> linarith
  · have hl : t.infinity - 1 = lo := by omega
    have hpar : (lo % 2 == 1) = true := by rw [← hl, t.infinity_odd]; rfl
    rw [hpar, hl, ← hc]
    have : ((lo + 1) ≤ (if roundsUp env.rd sign true inexact half then lo + 1 else lo)) ↔ roundsUp env.rd sign true inexact half = true := by
      constructor
      · intro h; by_contra hn; rw [if_neg hn] at h; omega
      · intro h; rw [if_pos h]
    rw [this, roundsUp_eq, hO, h.above, h.middle, h.inexact]
    have e1 : X ≠ t.units lo ↔ (t.units lo : ℝ) < X := ⟨fun h => lt_of_le_of_ne h1 (Ne.symm h), fun h => h.ne'⟩
    have e2 : ¬ (t.units (lo + 1) : ℝ) ≤ X := not_le.mpr h2
    rw [e1, le_iff_lt_or_eq]
    simp only [and_true, e2, and_false, or_false]
  · have hb : (t.units t.infinity : ℝ) ≤ t.units lo := by exact_mod_cast mono.le_iff_le.mpr (by omega)
    constructor
    · intro _
      by_cases hr : env.rd = 0#2
      · exact .inl ⟨hr, by linarith⟩
      · by_cases ho : O
        · exact .inr (.inl ⟨ho, by linarith⟩)
        · exact .inr (.inr ⟨hr, ho, by linarith⟩)
    · intro _; split <;> omega

/-- An overflow's result (R554). -/
theorem overflowBits_eq (t : Fmt) (rd : BitVec 2) (sign : Bool) :
    overflowBits t rd sign =
      packBits t sign (if rd = 0#2 ∨ (rd = 2#2 ∧ sign = false ∨ rd = 3#2 ∧ sign = true) then t.infinity else t.infinity - 1) := by
  unfold overflowBits
  rcases two_bits rd with hr | hr | hr | hr <;> subst hr <;> cases sign <;> rfl

/-- The result between two neighbours that is no overflow is the value rounded (R91, R554). -/
theorem Neighbours.rounds {t : Fmt} {X : ℝ} {lo : Nat} {inexact : Bool} {half : Ordering} {tiny : Bool}
    (h : Neighbours t X lo inexact half tiny) {rd : BitVec 2} {sign : Bool} {x : ℝ} (hx : x = (if sign then -X else X) / 2 ^ t.leastExponent)
    {up : Bool} (hup : roundsUp rd sign (lo % 2 == 1) inexact half = up) (hlt : (if up then lo + 1 else lo) < t.infinity) :
    t.Rounds rd x (packBits t sign (if up then lo + 1 else lo)) := by
  have hS : (0 : ℝ) < 2 ^ t.leastExponent := by positivity
  obtain ⟨hxs, -, -, -⟩ := signed_facts h.pos hS hx
  have hlt' := hlt.trans t.infinity_lt
  have hval := value_packBits t sign _ hlt'
  have hpar := packBits_parity t sign (if up = true then lo + 1 else lo)
  refine ⟨(finite_packBits t sign _ hlt').mpr hlt, fun _ => by rw [packBits_testBit t sign _ hlt', hxs], fun y hy => ?_⟩
  obtain ⟨m, hm, he⟩ := exists_packBits t y hy.1
  have hvy := value_packBits t (y.testBit (t.width - 1)) m hm
  rw [← he] at hvy
  have hb := roundsUp_best rd sign (y.testBit (t.width - 1)) (lo % 2 == 1) inexact up half (t.units lo / 2 ^ t.leastExponent)
    (t.units (lo + 1) / 2 ^ t.leastExponent) (X / 2 ^ t.leastExponent) (t.units m / 2 ^ t.leastExponent) (by positivity) (div_pos h.pos hS)
    (by rw [div_le_div_iff_of_pos_right hS]; exact h.lower) (by rw [div_lt_div_iff_of_pos_right hS]; exact h.upper)
    (by rw [h.inexact, ne_eq, ne_eq, div_left_inj' hS.ne'])
    (by rw [h.above, ← add_div, ← mul_div_assoc, div_lt_div_iff_of_pos_right hS])
    (by rw [h.middle, ← add_div, ← mul_div_assoc, div_left_inj' hS.ne']) (by positivity)
    (by
      rw [div_le_div_iff_of_pos_right hS, div_le_div_iff_of_pos_right hS]
      rcases Nat.lt_or_ge lo m with h | h
      · right; exact_mod_cast t.units_strictMono.le_iff_le.mpr (Nat.succ_le_of_lt h)
      · left; exact_mod_cast t.units_strictMono.le_iff_le.mpr h) hup.symm
  have e1 : (if sign then -(if up then (t.units (lo + 1) : ℝ) / 2 ^ t.leastExponent else t.units lo / 2 ^ t.leastExponent)
      else (if up then (t.units (lo + 1) : ℝ) / 2 ^ t.leastExponent else t.units lo / 2 ^ t.leastExponent)) =
      t.value (packBits t sign (if up then lo + 1 else lo)) := by
    rw [hval]; cases up <;> rfl
  have e2 : (if sign then -(X / 2 ^ t.leastExponent) else X / 2 ^ t.leastExponent) = x := by
    rw [hx]; cases sign
    · rfl
    · exact (neg_div _ _).symm
  dsimp only at hb ⊢
  rw [e1, e2, ← hvy] at hb
  refine ⟨fun h => ⟨(hb.1 h).1, fun h' => ((hb.1 h).2 h').imp_right fun ho => ?_⟩, hb.2.1, hb.2.2.1, hb.2.2.2⟩
  rw [hpar]
  cases up
  · simp at ho ⊢; omega
  · simp at ho ⊢; omega

/-- Rounding up happens only where something is discarded. -/
theorem Neighbours.inexact_of_up {t : Fmt} {X : ℝ} {lo : Nat} {inexact : Bool} {half : Ordering} {tiny : Bool}
    (h : Neighbours t X lo inexact half tiny) {rd : BitVec 2} {sign odd : Bool} (hu : roundsUp rd sign odd inexact half = true) :
    inexact = true := by
  rcases (roundsUp_eq ..).mp hu with ⟨-, hh | ⟨hh, -⟩⟩ | ⟨-, hi⟩
  · rw [h.inexact]
    have := h.above.mp hh
    have h2 := h.upper
    intro he; linarith
  · rw [h.inexact]
    have := h.middle.mp hh
    have h2 := h.upper
    intro he; linarith
  · exact hi

/-- What is rounded between two neighbours is what `RoundedFrom` says (R554, R609, R610). -/
theorem Neighbours.roundedFrom {t : Fmt} {X : ℝ} {lo : Nat} {inexact : Bool} {half : Ordering} {tiny : Bool}
    (h : Neighbours t X lo inexact half tiny) {env : FpEnv} {sign : Bool} {x : ℝ} (hx : x = (if sign then -X else X) / 2 ^ t.leastExponent) :
    RoundedFrom t env x (roundedBetween t env sign lo inexact half tiny) := by
  have hS : (0 : ℝ) < 2 ^ t.leastExponent := by positivity
  obtain ⟨hxs, hxp, hx0, hax⟩ := signed_facts h.pos hS hx
  have hov := h.overflows (env := env) hx
  have hout : outwards env.rd x ↔ (env.rd = 2#2 ∧ sign = false ∨ env.rd = 3#2 ∧ sign = true) := by
    unfold outwards; rw [hxp, hxs]
  unfold roundedBetween
  dsimp only
  by_cases ho : t.Overflows env.rd x
  · rw [if_pos (hov.mpr ho), overflowBits_eq]
    have hlt : (if env.rd = 0#2 ∨ (env.rd = 2#2 ∧ sign = false ∨ env.rd = 3#2 ∧ sign = true) then t.infinity else t.infinity - 1) <
        2 ^ (t.expBits + t.fracBits) := by have := t.infinity_lt; split <;> omega
    refine ⟨⟨rfl, rfl⟩, ⟨fun _ => ho, fun _ => rfl⟩,
      fun _ => ⟨rfl, rfl, packBits_lt _ _ _ hlt, (by rw [packBits_testBit _ _ _ hlt, hxs]), fun h => ?_, fun h h' => ?_⟩, fun h => absurd ho h⟩
    · rw [hout] at h
      rw [packBits_mod _ _ _ hlt, if_pos h]
    · rw [hout] at h'
      rw [packBits_mod _ _ _ hlt, if_neg (by tauto)]
  · rw [if_neg (mt hov.mp ho)]
    have hlt := not_le.mp (mt hov.mp ho)
    have hlt' := hlt.trans t.infinity_lt
    refine ⟨⟨rfl, rfl⟩, ⟨nofun, fun h => absurd h ho⟩, fun h => absurd h ho, fun _ => ⟨h.rounds hx rfl hlt, ?_, ?_⟩⟩
    · show inexact = true ↔ _
      rw [value_packBits t sign _ hlt', hx]
      have hne : ∀ a b : ℝ, (if sign then -(a / 2 ^ t.leastExponent) else a / 2 ^ t.leastExponent) ≠
          (if sign then -b else b) / 2 ^ t.leastExponent ↔ b ≠ a := by
        intro a b
        cases sign
        · simp only [Bool.false_eq_true, if_false, ne_eq, div_left_inj' hS.ne']; exact not_congr eq_comm
        · simp only [if_true, ne_eq, neg_div, neg_inj, div_left_inj' hS.ne']; exact not_congr eq_comm
      rw [hne]
      by_cases hu : roundsUp env.rd sign (lo % 2 == 1) inexact half = true
      · rw [if_pos hu]; exact ⟨fun _ => h.upper.ne, fun _ => h.inexact_of_up hu⟩
      · rw [if_neg hu]; exact h.inexact
    · show (tiny && (inexact || env.ufm)) = true ↔ _ ∧ _ ∧ (inexact = true ∨ _)
      have hle : (t.value (2 ^ t.fracBits) : ℝ) = 2 ^ t.fracBits / 2 ^ t.leastExponent := by
        rw [value_magnitude t _ (Nat.pow_lt_pow_right (by decide) (by cases t <;> decide))]
        have := t.units_normal 0 (2 ^ t.fracBits) le_rfl (Nat.pow_lt_pow_right (by decide) (by omega))
        simp at this
        rw [this]; push_cast; rfl
      rw [hle, hax, div_lt_div_iff_of_pos_right hS, Bool.and_eq_true, h.tiny, Bool.or_eq_true]
      exact ⟨fun h => ⟨hx0, h⟩, fun h => h.2⟩

/-- fp_round of the exact value `x`, m * 2^e in magnitude, or, with `sticky`, between that and (m + 1) * 2^e, delivers what `RoundedFrom`
says of `x` (R554, R609, R610). -/
theorem fpRound_roundedFrom (t : Fmt) (env : FpEnv) (sign : Bool) (m : Nat) (e : Int) (sticky : Bool) (x : ℝ) (hm : 0 < m)
    (hn : env.ns = false)
    (h1 : sticky = false → x = (if sign then -1 else 1) * (m * (2 : ℝ) ^ e))
    (h2 : sticky = true → t.fracBits + 1 ≤ Nat.log2 m ∧ ∃ y, m * (2 : ℝ) ^ e < y ∧ y < (m + 1) * (2 : ℝ) ^ e ∧
      x = (if sign then -1 else 1) * y) :
    RoundedFrom t env x (fpRound t env sign m e sticky) ∧
    (∃ lo inexact half tiny, fpRound t env sign m e sticky = roundedBetween t env sign lo inexact half tiny) := by
  have hS : (0 : ℝ) < 2 ^ t.leastExponent := by positivity
  have hz : (2 : ℝ) ^ (e + t.leastExponent) = 2 ^ e * 2 ^ t.leastExponent := by rw [zpow_add₀ (by norm_num), zpow_natCast]
  obtain ⟨X, hX, hx, hX2⟩ : ∃ X : ℝ, (sticky = false → X = m * (2 : ℝ) ^ (e + t.leastExponent)) ∧
      x = (if sign then -X else X) / 2 ^ t.leastExponent ∧
      (sticky = true → t.fracBits + 1 ≤ Nat.log2 m ∧ m * (2 : ℝ) ^ (e + t.leastExponent) < X ∧
        X < (m + 1) * (2 : ℝ) ^ (e + t.leastExponent)) := by
    rw [hz]
    cases hs : sticky
    · refine ⟨m * (2 ^ e * 2 ^ t.leastExponent), fun _ => rfl, ?_, nofun⟩
      rw [h1 hs]
      cases sign
      · simp only [Bool.false_eq_true, if_false]; field_simp
      · simp only [if_true]; field_simp
    · obtain ⟨a, y, b, c, d⟩ := h2 hs
      refine ⟨y * 2 ^ t.leastExponent, nofun, ?_, fun _ => ⟨a, by nlinarith, by nlinarith⟩⟩
      rw [d]
      cases sign
      · simp only [Bool.false_eq_true, if_false]; field_simp
      · simp only [if_true]; field_simp
  obtain ⟨lo, i, hh, ti, hN, hr⟩ := fpRound_neighbours t env sign m e sticky X hm hn hX hX2
  exact ⟨hr ▸ hN.roundedFrom hx, lo, i, hh, ti, hr⟩

/-- The sign bit of what is rounded is the value's. -/
theorem RoundedFrom.sign {t : Fmt} {env : FpEnv} {x : ℝ} {r : FpResult} (h : RoundedFrom t env x r) (hx : x ≠ 0) :
    r.bits.testBit (t.width - 1) = true ↔ x < 0 := by
  by_cases ho : t.Overflows env.rd x
  · exact (h.bounded ho).2.2.2.1
  · exact (h.rounded ho).1.2.1 hx

/-- A finite operand taken apart (R86 to R88). -/
theorem unpack_finite {t : Fmt} {a : Nat} (h : t.finite a) :
    (unpack t a = .zero (a.testBit (t.width - 1)) ∧ t.value a = 0 ∧ a = packBits t (a.testBit (t.width - 1)) 0) ∨
    ∃ m e, unpack t a = .num (a.testBit (t.width - 1)) m e ∧ 0 < m ∧ m < 2 ^ (t.fracBits + 1) ∧ -(t.leastExponent : Int) ≤ e ∧
      e + t.fracBits ≤ t.bias ∧ t.value a = (if a.testBit (t.width - 1) then -1 else 1) * (m * (2 : ℚ) ^ e) := by
  have hL := t.leastExponent_eq
  have hsb : t.signBit = t.width - 1 := rfl
  have hmod := Nat.mod_lt a (Nat.two_pow_pos t.fracBits)
  have he : (a >>> t.fracBits) % 2 ^ t.expBits ≠ t.expMax := by rw [Nat.shiftRight_eq_div_pow]; exact h.2
  have hu : unpack t a = if (a >>> t.fracBits) % 2 ^ t.expBits = 0 then
      (if a % 2 ^ t.fracBits = 0 then .zero (a.testBit (t.width - 1)) else .num (a.testBit (t.width - 1)) (a % 2 ^ t.fracBits) (1 - (t.bias : Int) - t.fracBits))
      else .num (a.testBit (t.width - 1)) (2 ^ t.fracBits + a % 2 ^ t.fracBits) (((a >>> t.fracBits) % 2 ^ t.expBits : Nat) - (t.bias : Int) - t.fracBits) := by
    unfold unpack
    dsimp only
    rw [if_neg he, hsb]
  have hb2 : (t.expMax : Int) = 2 * t.bias + 1 := by cases t <;> rfl
  have hlt : (a >>> t.fracBits) % 2 ^ t.expBits < t.expMax := by
    have := Nat.mod_lt (a >>> t.fracBits) (Nat.two_pow_pos t.expBits)
    unfold Fmt.expMax at he ⊢
    omega
  have hs : (a / 2 ^ (t.expBits + t.fracBits) % 2 = 1) ↔ a.testBit (t.width - 1) = true := by
    rw [Fmt.width_eq, Nat.add_sub_cancel, Nat.testBit_eq_decide_div_mod_eq, decide_eq_true_iff]
  have hv : t.value a = (if a.testBit (t.width - 1) then -1 else 1) *
      (((if (a >>> t.fracBits) % 2 ^ t.expBits = 0 then a % 2 ^ t.fracBits
        else (2 ^ t.fracBits + a % 2 ^ t.fracBits) * 2 ^ ((a >>> t.fracBits) % 2 ^ t.expBits - 1) : Nat) : ℚ) / 2 ^ t.leastExponent) := by
    unfold Fmt.value scaledValue
    dsimp only
    rw [← Nat.shiftRight_eq_div_pow a t.fracBits]
    by_cases h' : a.testBit (t.width - 1) = true
    · rw [if_pos (hs.mpr h'), if_pos h', Int.cast_neg, Int.cast_natCast]; ring
    · rw [if_neg (mt hs.mp h'), if_neg h', Int.cast_natCast]; ring
  generalize hE : (a >>> t.fracBits) % 2 ^ t.expBits = E at *
  by_cases hE0 : E = 0
  · rw [if_pos hE0] at hu hv
    by_cases hf0 : a % 2 ^ t.fracBits = 0
    · rw [if_pos hf0] at hu
      rw [hf0] at hv
      refine .inl ⟨hu, by rw [hv]; simp, ?_⟩
      obtain ⟨m, hm, he'⟩ := exists_packBits t a h.1
      have h1 := scaledValue_packBits t (a.testBit (t.width - 1)) m hm
      have h0 := scaledValue_packBits t (a.testBit (t.width - 1)) 0 (by positivity)
      rw [← he'] at h1
      have : scaledValue t a = 0 := by
        have : t.value a = 0 := by rw [hv]; simp
        unfold Fmt.value at this
        have hp : (2 : ℚ) ^ t.leastExponent ≠ 0 := by positivity
        rcases div_eq_zero_iff.mp this with h | h
        · exact_mod_cast h
        · exact absurd h hp
      rw [this] at h1
      have hm0 : t.units m = 0 := by split at h1 <;> omega
      have : m = 0 := by
        rcases Nat.eq_zero_or_pos m with h | h
        · exact h
        · have := t.units_strictMono h; omega
      rw [this] at he'; exact he'
    · rw [if_neg hf0] at hu
      refine .inr ⟨_, _, hu, Nat.pos_of_ne_zero hf0, hmod.trans (Nat.pow_lt_pow_right (by decide) (by omega)), by omega, ?_, ?_⟩
      · cases t <;> decide
      · rw [hv, show 1 - (t.bias : Int) - t.fracBits = -(t.leastExponent : Int) by omega, zpow_neg, zpow_natCast]; rfl
  · rw [if_neg hE0] at hu hv
    refine .inr ⟨_, _, hu, by have := Nat.two_pow_pos t.fracBits; omega, by rw [pow_succ]; omega, by omega, by omega, ?_⟩
    rw [hv, show (E : Int) - t.bias - t.fracBits = ((E - 1 : Nat) : Int) - t.leastExponent by omega, zpow_sub₀ (by norm_num), zpow_natCast, zpow_natCast]
    push_cast
    ring

theorem Fmt.units_infinity (t : Fmt) : t.units t.infinity = 2 ^ (t.bias + 1 + t.leastExponent) := by
  have h : t.infinity = (t.expMax - 1) * 2 ^ t.fracBits + 2 ^ t.fracBits := by cases t <;> decide
  rw [h, t.units_normal _ _ le_rfl (Nat.pow_lt_pow_right (by decide) (by omega)), ← pow_add]
  congr 1
  cases t <;> decide

/-- Numbers with few enough bits and a fitting exponent are numbers of the format. -/
theorem exists_value {t : Fmt} (sign : Bool) {m : Nat} {e : Int} (hm : 0 < m) (hm2 : m < 2 ^ (t.fracBits + 1)) (he : -(t.leastExponent : Int) ≤ e)
    (he2 : e + t.fracBits ≤ t.bias) : ∃ y, t.finite y ∧ t.value y = (if sign then -1 else 1) * (m * (2 : ℚ) ^ e) := by
  obtain ⟨lo, hi⟩ : 2 ^ m.log2 ≤ m ∧ m < 2 ^ (m.log2 + 1) := ⟨Nat.log2_self_le hm.ne', Nat.lt_log2_self⟩
  have hg : m.log2 ≤ t.fracBits := by
    have := (Nat.pow_lt_pow_iff_right (a := 2) (by decide)).mp (lo.trans_lt hm2); omega
  obtain ⟨k, hk⟩ : ∃ k : Nat, e + t.leastExponent = k := ⟨(e + t.leastExponent).toNat, by omega⟩
  obtain ⟨s, hs⟩ : ∃ s, s = min (t.fracBits - m.log2) k := ⟨_, rfl⟩
  have hn : m * 2 ^ s < 2 ^ (t.fracBits + 1) := by
    calc m * 2 ^ s < 2 ^ (m.log2 + 1) * 2 ^ s := Nat.mul_lt_mul_of_pos_right hi (Nat.two_pow_pos _)
      _ = 2 ^ (m.log2 + 1 + s) := (pow_add ..).symm
      _ ≤ _ := Nat.pow_le_pow_right (by decide) (by omega)
  have hq : k - s = 0 ∨ 2 ^ t.fracBits ≤ m * 2 ^ s := by
    by_cases h : k - s = 0
    · exact .inl h
    · right
      calc 2 ^ t.fracBits = 2 ^ m.log2 * 2 ^ s := by rw [← pow_add]; congr 1; omega
        _ ≤ _ := Nat.mul_le_mul_right _ lo
  have hu := t.units_eq (k - s) (m * 2 ^ s) hq hn.le
  rw [Nat.mul_assoc, ← pow_add, show s + (k - s) = k by omega] at hu
  have hfin : (k - s) * 2 ^ t.fracBits + m * 2 ^ s < t.infinity := by
    rw [← t.units_strictMono.lt_iff_lt, hu, t.units_infinity]
    calc m * 2 ^ k < 2 ^ (t.fracBits + 1) * 2 ^ k := Nat.mul_lt_mul_of_pos_right hm2 (Nat.two_pow_pos _)
      _ = 2 ^ (t.fracBits + 1 + k) := (pow_add ..).symm
      _ ≤ _ := Nat.pow_le_pow_right (by decide) (by omega)
  have hlt := hfin.trans t.infinity_lt
  refine ⟨packBits t sign _, (finite_packBits t sign _ hlt).mpr hfin, ?_⟩
  unfold Fmt.value
  rw [scaledValue_packBits t sign _ hlt, hu, show e = (k : Int) - t.leastExponent by omega, zpow_sub₀ (by norm_num), zpow_natCast, zpow_natCast]
  cases sign
  · simp only [Bool.false_eq_true, if_false]; push_cast; ring
  · simp only [if_true]; push_cast; ring

/-- A value that is a number of the format, and not tiny, is delivered exactly. -/
theorem RoundedFrom.exact {t : Fmt} {env : FpEnv} {x : ℚ} {r : FpResult} (h : RoundedFrom t env x r) {y : Nat} (hy : t.finite y)
    (hv : t.value y = x) (hx : (t.value (2 ^ t.fracBits) : ℝ) ≤ |(x : ℝ)|) : ExactResult t x r := by
  have hlt : (2 : Nat) ^ t.fracBits < 2 ^ (t.expBits + t.fracBits) := Nat.pow_lt_pow_right (by decide) (by cases t <;> decide)
  have hno : ¬ t.Overflows env.rd x := by
    obtain ⟨m, hm, he⟩ := exists_packBits t y hy.1
    have hmi : m < t.infinity := by rw [he] at hy; exact (finite_packBits t _ m hm).mp hy
    have hS : (0 : ℝ) < 2 ^ t.leastExponent := by positivity
    have hax : |(x : ℝ)| = t.units m / 2 ^ t.leastExponent := by
      rw [← hv, he, value_packBits t _ m hm]
      split
      · rw [abs_neg, abs_of_nonneg (by positivity)]
      · rw [abs_of_nonneg (by positivity)]
    have h1 : (t.units m : ℝ) ≤ t.units (t.infinity - 1) := by exact_mod_cast t.units_strictMono.le_iff_le.mpr (by omega)
    have h2 : (t.units (t.infinity - 1) : ℝ) < t.units t.infinity := by
      exact_mod_cast t.units_strictMono (by have := t.infinity_pos; omega)
    unfold Fmt.Overflows
    dsimp only
    rw [value_magnitude t t.infinity t.infinity_lt, value_magnitude t (t.infinity - 1) (by have := t.infinity_lt; omega), hax, ← add_div,
      ← mul_div_assoc, div_le_div_iff_of_pos_right hS, div_lt_div_iff_of_pos_right hS, div_le_div_iff_of_pos_right hS]
    rintro (⟨-, h⟩ | ⟨-, h⟩ | ⟨-, -, h⟩) <;> linarith
  obtain ⟨hr, hnx, huf⟩ := h.rounded hno
  have hvx : (t.value r.bits : ℝ) = x := by
    obtain ⟨b0, b1, b2, b3⟩ := hr.2.2 y hy
    rw [hv] at b0 b1 b2 b3
    rcases two_bits env.rd with e | e | e | e
    · have := (b0 e).1
      rw [sub_self, abs_zero] at this
      have := abs_nonpos_iff.mp this
      linarith
    · obtain ⟨c1, c2, c3⟩ := b1 e
      have c4 := le_antisymm c1 (c3 le_rfl)
      rcases abs_eq_abs.mp c4 with h | h
      · exact h
      · rw [h] at c2 ⊢
        have : (x : ℝ) = 0 := by nlinarith [sq_nonneg (x : ℝ)]
        rw [this]; simp
    · obtain ⟨c1, c2⟩ := b2 e
      exact le_antisymm (c2 le_rfl) c1
    · obtain ⟨c1, c2⟩ := b3 e
      exact le_antisymm c1 (c2 le_rfl)
  have hnx' : r.texc.nx = false := by rw [← Bool.not_eq_true, hnx]; exact not_not.mpr hvx
  have huf' : r.texc.uf = false := by
    rw [← Bool.not_eq_true, huf]; rintro ⟨-, h, -⟩; linarith
  have hov : r.texc.ov = false := by rw [← Bool.not_eq_true, h.overflow]; exact hno
  refine ⟨?_, hr.1, by exact_mod_cast hvx⟩
  obtain ⟨h1, h2⟩ := h.valid
  cases hr' : r.texc
  rw [hr'] at hnx' huf' hov h1 h2
  simp only at hnx' huf' hov h1 h2
  subst hnx' huf' hov h1 h2
  rfl

/-- Outside nonstandard mode no operand is flushed (R612). -/
theorem flushOperand_standard {t env v} (h : env.ns = false) : flushOperand t env v = v := by
  unfold flushOperand; cases v <;> simp [h]

/-- Nothing flushed raises nothing. -/
theorem Texc.withFlush_false (x : Texc) : x.withFlush false = x := by unfold Texc.withFlush; simp

/-- A finite operand is no NaN. -/
theorem unpack_isNan_finite {t : Fmt} {a} (h : t.finite a) : (unpack t a).isNan = false := by
  rcases unpack_finite h with ⟨h, -, -⟩ | ⟨m, e, h, -⟩ <;> rw [h] <;> rfl

/-- A two-operand instruction on finite operands outside nonstandard mode. -/
theorem binaryOp_finite {op src dst env a b} (hn : env.ns = false) (ha : src.finite a) (hb : src.finite b) :
    binaryOp op src dst env a b = op dst env (unpack src a) (unpack src b) := by
  unfold binaryOp
  dsimp only
  rw [unpack_isNan_finite ha, unpack_isNan_finite hb, flushOperand_standard hn, flushOperand_standard hn, hn]
  simp [Texc.withFlush_false]

/-- A zero of either sign is what an exact zero delivers. -/
theorem RoundedFrom.zero {t : Fmt} {env : FpEnv} {x : ℝ} (hx : x = 0) (s : Bool) : RoundedFrom t env x (exactly (packBits t s 0)) := by
  subst hx
  have hp : (0 : Nat) < 2 ^ (t.expBits + t.fracBits) := by positivity
  have hv : (t.value (packBits t s 0) : ℝ) = 0 := by
    rw [value_packBits t s 0 hp]
    have : t.units 0 = 0 := by unfold Fmt.units; simp
    rw [this]; simp
  have hpos : ∀ m, m < 2 ^ (t.expBits + t.fracBits) → (0 : ℝ) ≤ t.value m := fun m hm => by rw [value_magnitude t m hm]; positivity
  have hno : ¬ t.Overflows env.rd 0 := by
    have h1 := hpos _ t.infinity_lt
    have h2 := hpos (t.infinity - 1) (by have := t.infinity_lt; omega)
    have h3 : (0 : ℝ) < t.value t.infinity := by
      rw [value_magnitude t _ t.infinity_lt]
      have : 0 < t.units t.infinity := by rw [t.units_infinity]; positivity
      positivity
    unfold Fmt.Overflows outwards
    simp only [abs_zero, mul_zero, lt_irrefl, and_false, or_false, false_and, false_or, not_false_eq_true, true_and]
    rintro (⟨-, h⟩ | ⟨-, h⟩) <;> linarith
  refine ⟨⟨rfl, rfl⟩, ⟨nofun, fun h => absurd h hno⟩, fun h => absurd h hno, fun _ => ⟨⟨(finite_packBits t s 0 hp).mpr t.infinity_pos, fun h => absurd rfl h, fun y _ => ?_⟩, ?_, ?_⟩⟩
  · dsimp only [exactly]
    rw [hv]
    refine ⟨fun _ => ⟨by simp, fun h => .inl ?_⟩, fun _ => ⟨by simp, by simp, fun h => h⟩, fun _ => ⟨le_rfl, fun h => h⟩, fun _ => ⟨le_rfl, fun h => h⟩⟩
    simpa using h.symm
  · dsimp only [exactly]; rw [hv]; simp
  · dsimp only [exactly]; simp

/-- The sign of a zero. -/
theorem packBits_zero_testBit (t : Fmt) (s : Bool) : (packBits t s 0).testBit (t.width - 1) = s := packBits_testBit t s 0 (by positivity)

/-- The sign of a magnitude with a sign. -/
theorem signed_neg_iff {s : Bool} {y : ℝ} (hy : 0 < y) : ((if s then -1 else 1) * y < 0 ↔ s = true) ∧ (if s then -1 else 1) * y ≠ 0 := by
  cases s
  · simp; exact ⟨hy.le, hy.ne'⟩
  · simp; exact ⟨hy, hy.ne'⟩

/-- fp_round of a number: what it delivers, and its sign. -/
theorem fpRound_number (t : Fmt) (env : FpEnv) (s : Bool) (m : Nat) (e : Int) (hm : 0 < m) (hn : env.ns = false) {x : ℚ}
    (hx : x = (if s then -1 else 1) * (m * (2 : ℚ) ^ e)) :
    RoundedFrom t env x (fpRound t env s m e false) ∧ (fpRound t env s m e false).bits.testBit (t.width - 1) = s := by
  have hx' : (x : ℝ) = (if s then -1 else 1) * (m * (2 : ℝ) ^ e) := by rw [hx]; cases s <;> simp
  have h := (fpRound_roundedFrom t env s m e false x hm hn (fun _ => hx') nofun).1
  refine ⟨h, ?_⟩
  have hp : (0 : ℝ) < m * (2 : ℝ) ^ e := by positivity
  have h2 := h.sign (by rw [hx']; exact (signed_neg_iff hp).2)
  rw [hx', (signed_neg_iff hp).1] at h2
  cases s
  · simpa using h2
  · simpa using h2

/-- An integer multiple rounded; a zero takes the sign of the direction. -/
theorem roundInt_spec (t : Fmt) (env : FpEnv) (n e : Int) (hn : env.ns = false) {x : ℚ} (hx : x = n * (2 : ℚ) ^ e) :
    RoundedFrom t env x (roundInt t env n e) ∧ (n = 0 → (roundInt t env n e).bits = packBits t (zeroSumSign env.rd) 0) := by
  unfold roundInt
  by_cases h0 : n = 0
  · rw [if_pos h0]
    subst h0
    exact ⟨RoundedFrom.zero (by rw [hx]; simp) _, fun _ => rfl⟩
  · rw [if_neg h0]
    refine ⟨(fpRound_number t env _ _ e (Int.natAbs_pos.mpr h0) hn ?_).1, fun h => absurd h h0⟩
    rw [hx]
    rcases lt_or_ge n 0 with h | h
    · rw [decide_eq_true h, if_pos rfl, ← Int.cast_natCast, Int.ofNat_natAbs_of_nonpos h.le]; push_cast; ring
    · rw [decide_eq_false (not_lt.mpr h), if_neg (by decide), ← Int.cast_natCast, Int.natAbs_of_nonneg h]; ring

/-- A signed magnitude as a number. -/
theorem signedMagnitude_cast (s : Bool) (m : Nat) : (signedMagnitude s m : ℚ) = (if s then -1 else 1) * m := by
  unfold signedMagnitude; cases s <;> simp

/-- A significand moved to a smaller exponent. -/
theorem shifted_value (m : Nat) (e f : Int) (h : f ≤ e) : ((m * 2 ^ (e - f).toNat : Nat) : ℚ) * 2 ^ f = m * 2 ^ e := by
  obtain ⟨k, hk⟩ : ∃ k : Nat, e - f = k := ⟨(e - f).toNat, by omega⟩
  rw [hk, Int.toNat_natCast, show e = (k : Int) + f by omega, zpow_add₀ (by norm_num), zpow_natCast]
  push_cast; ring

/-- A number with a large enough exponent is not tiny. -/
theorem leastNormal_le {dst : Fmt} {m : Nat} {e : Int} {x : ℚ} {s : Bool} (hm : 0 < m) (hlo : -(dst.leastExponent : Int) + dst.fracBits ≤ e)
    (hx : x = (if s then -1 else 1) * (m * (2 : ℚ) ^ e)) : (dst.value (2 ^ dst.fracBits) : ℝ) ≤ |(x : ℝ)| := by
  have hab : |(x : ℝ)| = (m : ℝ) * 2 ^ e := by
    rw [hx]
    have hp : (0 : ℝ) ≤ (m : ℝ) * 2 ^ e := by positivity
    split
    · push_cast at hp ⊢; rw [neg_one_mul, abs_neg, abs_of_nonneg hp]
    · push_cast at hp ⊢; rw [one_mul, abs_of_nonneg hp]
  rw [hab, value_magnitude dst _ (Nat.pow_lt_pow_right (by decide) (by cases dst <;> decide))]
  have hu : dst.units (2 ^ dst.fracBits) = 2 ^ dst.fracBits := by
    have := dst.units_normal 0 (2 ^ dst.fracBits) le_rfl (Nat.pow_lt_pow_right (by decide) (by omega)); simpa using this
  rw [hu, div_le_iff₀ (by positivity), mul_assoc]
  have h5 : (2 : ℝ) ^ e * 2 ^ dst.leastExponent = 2 ^ (e + dst.leastExponent) := by
    rw [zpow_add₀ (by norm_num) e, zpow_natCast]
  rw [h5]
  have h6 : ((2 ^ dst.fracBits : Nat) : ℝ) ≤ 2 ^ (e + dst.leastExponent) := by
    push_cast
    rw [← zpow_natCast]; exact zpow_le_zpow_right₀ (by norm_num) (by omega)
  have h7 : (1 : ℝ) ≤ (m : ℝ) := by exact_mod_cast hm
  calc _ ≤ _ := h6
    _ ≤ _ := le_mul_of_one_le_left (by positivity) h7

/-- The bits of the root, found from the bits above. -/
theorem sqrtBits_spec : ∀ (i x r : Nat), r * r ≤ x → x < (r + 2 ^ (i + 1)) * (r + 2 ^ (i + 1)) →
    sqrtBits i x r * sqrtBits i x r ≤ x ∧ x < (sqrtBits i x r + 1) * (sqrtBits i x r + 1)
  | 0, x, r, h1, h2 => by
    unfold sqrtBits
    split
    · exact ⟨‹_›, h2⟩
    · exact ⟨h1, by omega⟩
  | i + 1, x, r, h1, h2 => by
    unfold sqrtBits
    dsimp only
    split
    · refine sqrtBits_spec i x _ ‹_› ?_
      have e : r + 2 ^ (i + 1) + 2 ^ (i + 1) = r + 2 ^ (i + 1 + 1) := by rw [pow_succ 2 (i + 1)]; omega
      rw [e]; exact h2
    · exact sqrtBits_spec i x _ h1 (by omega)

/-- The integer square root. -/
theorem natSqrt_spec (x : Nat) : natSqrt x * natSqrt x ≤ x ∧ x < (natSqrt x + 1) * (natSqrt x + 1) := by
  refine sqrtBits_spec _ _ _ (by simp) ?_
  rw [zero_add, ← pow_add]
  rcases Nat.eq_zero_or_pos x with h | h
  · subst h; positivity
  · exact Nat.lt_log2_self.trans_le (Nat.pow_le_pow_right (by decide) (by omega))

/-- The NaN transformation makes the NaN quiet (R605). -/
theorem nanBits_quieted (src dst : Fmt) (x : Nat) : Quieted src dst x (nanBits src dst (x.testBit (src.width - 1)) (x % 2 ^ src.fracBits)) := by
  have hd : 0 < dst.fracBits := by cases dst <;> decide
  have hf : (if src.fracBits ≤ dst.fracBits then x % 2 ^ src.fracBits * 2 ^ (dst.fracBits - src.fracBits)
    else x % 2 ^ src.fracBits / 2 ^ (src.fracBits - dst.fracBits)) < 2 ^ dst.fracBits := by
    have hm := Nat.mod_lt x (Nat.two_pow_pos src.fracBits)
    split
    · calc _ < 2 ^ src.fracBits * 2 ^ (dst.fracBits - src.fracBits) := Nat.mul_lt_mul_of_pos_right hm (Nat.two_pow_pos _)
        _ = _ := by rw [← pow_add]; congr 1; omega
    · rw [Nat.div_lt_iff_lt_mul (Nat.two_pow_pos _), ← pow_add]
      convert hm using 2; omega
  have hfb : ∀ n, n < dst.fracBits → (if src.fracBits ≤ dst.fracBits then x % 2 ^ src.fracBits * 2 ^ (dst.fracBits - src.fracBits)
    else x % 2 ^ src.fracBits / 2 ^ (src.fracBits - dst.fracBits)).testBit (dst.fracBits - 1 - n) =
      (decide (n < src.fracBits) && x.testBit (src.fracBits - 1 - n)) := by
    intro n hn
    split
    · rw [Nat.mul_comm, Nat.testBit_two_pow_mul, Nat.testBit_mod_two_pow]
      by_cases h : n < src.fracBits
      · rw [show dst.fracBits - 1 - n - (dst.fracBits - src.fracBits) = src.fracBits - 1 - n by omega]
        have h1 : dst.fracBits - src.fracBits ≤ dst.fracBits - 1 - n := by omega
        have h2 : src.fracBits - 1 - n < src.fracBits := by omega
        simp [h, h1, h2]
      · have h1 : ¬ dst.fracBits - src.fracBits ≤ dst.fracBits - 1 - n := by omega
        simp [h, h1]
    · rw [Nat.testBit_div_two_pow, Nat.testBit_mod_two_pow, show dst.fracBits - 1 - n + (src.fracBits - dst.fracBits) = src.fracBits - 1 - n by omega]
      have h1 : n < src.fracBits := by omega
      have h2 : src.fracBits - 1 - n < src.fracBits := by omega
      simp [h1, h2]
  unfold nanBits
  dsimp only
  generalize hF : (if src.fracBits ≤ dst.fracBits then x % 2 ^ src.fracBits * 2 ^ (dst.fracBits - src.fracBits)
    else x % 2 ^ src.fracBits / 2 ^ (src.fracBits - dst.fracBits)) = F at *
  have hq : 2 ^ (dst.fracBits - 1) < 2 ^ dst.fracBits := Nat.pow_lt_pow_right (by decide) (by omega)
  have hG := Nat.or_lt_two_pow hf hq
  have hGb : ∀ n, (F ||| 2 ^ (dst.fracBits - 1)).testBit n = (F.testBit n || decide (dst.fracBits - 1 = n)) := by
    intro n; rw [Nat.testBit_or, Nat.testBit_two_pow]
  generalize F ||| 2 ^ (dst.fracBits - 1) = G at *
  have hm : dst.expMax * 2 ^ dst.fracBits + G < 2 ^ (dst.expBits + dst.fracBits) := by
    rw [pow_add]
    have : dst.expMax + 1 = 2 ^ dst.expBits := by cases dst <;> rfl
    rw [← this, Nat.add_mul]; omega
  have hb : ∀ n, n < dst.expBits + dst.fracBits → (packBits dst (x.testBit (src.width - 1)) (dst.expMax * 2 ^ dst.fracBits + G)).testBit n =
      if n < dst.fracBits then G.testBit n else dst.expMax.testBit (n - dst.fracBits) := by
    intro n hn
    have h1 := packBits_mod dst (x.testBit (src.width - 1)) _ hm
    have h2 : (packBits dst (x.testBit (src.width - 1)) (dst.expMax * 2 ^ dst.fracBits + G) % 2 ^ (dst.width - 1)).testBit n =
        (packBits dst (x.testBit (src.width - 1)) (dst.expMax * 2 ^ dst.fracBits + G)).testBit n := by
      rw [Nat.testBit_mod_two_pow, decide_eq_true (by rw [Fmt.width_eq]; exact hn), Bool.true_and]
    rw [← h2, h1, Nat.mul_comm, Nat.testBit_two_pow_mul_add _ hG]
  refine ⟨packBits_lt _ _ _ hm, packBits_testBit _ _ _ hm, fun n hn => ?_, ?_, fun n h1 h2 => ?_⟩
  · rw [hb _ (by omega), if_neg (by omega), Nat.add_sub_cancel_left]
    unfold Fmt.expMax
    rw [Nat.testBit_two_pow_sub_one, decide_eq_true hn]
  · rw [hb _ (by omega), if_pos (by omega), hGb]; simp
  · rw [hb _ (by omega), if_pos (by omega), hGb, hfb n h2, decide_eq_false (show ¬ dst.fracBits - 1 = dst.fracBits - 1 - n by omega), Bool.or_false]

/-- A NaN taken apart (R86 to R88). -/
theorem unpack_nan {t : Fmt} {a} (h1 : a / 2 ^ t.fracBits % 2 ^ t.expBits = 2 ^ t.expBits - 1)
    (h2 : a % 2 ^ t.fracBits ≠ 0) : unpack t a = .nan (a.testBit (t.width - 1)) (a % 2 ^ t.fracBits) := by
  unfold unpack
  dsimp only
  rw [Nat.shiftRight_eq_div_pow, if_pos (show _ = t.expMax from h1), if_neg h2]; rfl

/-- The value compared with an integer, and equal to one, in units of the least subnormal number. -/
theorem Fmt.lt_value {t : Fmt} {a : Nat} {n : Int} : (n : ℚ) < t.value a ↔ n * 2 ^ t.leastExponent < scaledValue t a := by
  unfold Fmt.value
  rw [lt_div_iff₀ (by positivity)]
  exact_mod_cast Iff.rfl

theorem Fmt.value_lt {t : Fmt} {a : Nat} {n : Int} : t.value a < n ↔ scaledValue t a < n * 2 ^ t.leastExponent := by
  unfold Fmt.value
  rw [div_lt_iff₀ (by positivity)]
  exact_mod_cast Iff.rfl

theorem Fmt.value_eq {t : Fmt} {a : Nat} {n : Int} : t.value a = n ↔ scaledValue t a = n * 2 ^ t.leastExponent := by
  unfold Fmt.value
  rw [div_eq_iff (by positivity)]
  exact_mod_cast Iff.rfl

end Sys2Proof.Machine
end

