-- ==== Sys2Proof/Laws/Invariant.lean ====
section
/-! SUPPORT. The invariant of Safety.lean under each shared operation. -/

namespace Sys2Proof.Machine

theorem wordAligned_add_four {a : Word} (h : wordAligned a) : wordAligned (a + 4#32) := by
  unfold wordAligned at *
  have h0 := congrArg BitVec.toNat h
  apply BitVec.eq_of_toNat_eq
  simp only [BitVec.extractLsb'_toNat, BitVec.toNat_add, BitVec.toNat_ofNat, Nat.shiftRight_zero] at *
  omega

/-- Registers of any kind that the invariant does not speak of may change. -/
theorem State.Inv.setRegs {s : State} (h : s.Inv) (g : Vector Word 8) (w : Vector Word 512) (f : Vector Word 32) :
    { s with globals := g, windows := w, f := f }.Inv :=
  ⟨h.memory, h.pc, h.npc, h.cwp, h.wim, h.ec, h.ef, h.pending, h.raised, h.pbError, h.blockByte, h.blockWord, h.ns, h.fqAbsent, h.fqDepth,
   h.fpuMode, h.cp, h.ctx, h.fav⟩

theorem State.Inv.setReg {s : State} (h : s.Inv) (n : RegNum) (v : Word) : (s.setReg n v).Inv := by
  rw [State.setReg_eq]
  exact h.setRegs _ _ s.f

theorem State.Inv.setFreg {s : State} (h : s.Inv) (n : RegNum) (v : Word) : (s.setFreg n v).Inv :=
  h.setRegs s.globals s.windows _

theorem State.Inv.advance {s : State} (h : s.Inv) : s.advance.Inv :=
  ⟨h.memory, h.npc, wordAligned_add_four h.npc, h.cwp, h.wim, h.ec, h.ef, h.pending, h.raised, h.pbError, h.blockByte, h.blockWord, h.ns,
   h.fqAbsent, h.fqDepth, h.fpuMode, h.cp, h.ctx, h.fav⟩

theorem State.Inv.jump {s : State} (h : s.Inv) {a : Word} (ha : wordAligned a) : (s.jump a).Inv :=
  ⟨h.memory, h.npc, ha, h.cwp, h.wim, h.ec, h.ef, h.pending, h.raised, h.pbError, h.blockByte, h.blockWord, h.ns,
   h.fqAbsent, h.fqDepth, h.fpuMode, h.cp, h.ctx, h.fav⟩

/-- What a memory access may change keeps the invariant. -/
theorem State.Inv.access {s : State} (h : s.Inv) {m : Memory} {mm : Mmu} (hm : Memory.wf m = true)
    (hf : mm.fav = mm.cls.isSome) (hc : mm.ctx &&& contextMask s.cfg = mm.ctx) (sync bar : Bool) (ib : List IBufEvent) (io : List IoAccess)
    (n : Nat) :
    { s with mem := m, mmu := mm, lastWriteSync := sync, storeBarrierPending := bar, ibuf := ib, io := io, freeCtr := n }.Inv :=
  ⟨hm, h.pc, h.npc, h.cwp, h.wim, h.ec, h.ef, h.pending, h.raised, h.pbError, h.blockByte, h.blockWord, h.ns, h.fqAbsent, h.fqDepth,
   h.fpuMode, h.cp, hc, hf⟩

theorem State.Inv.memoryRead {s : State} (h : s.Inv) (asi : BitVec 8) (fetch isWord : Bool) (a : Word) :
    (s.memoryRead asi fetch isWord a).1.Inv := by
  have hk := State.memoryRead_keeps s asi fetch isWord a
  rw [State.memoryRead_frame]
  exact h.access (State.memoryRead_wf h.memory ..) (hk.fav h.fav) (by rw [hk.ctx]; exact h.ctx) _ _ _ _ _

theorem State.Inv.memoryWrite {s : State} (h : s.Inv) (asi : BitVec 8) (isWord : Bool) (a : Word) (mask : BitVec 4) (data : Word) :
    (s.memoryWrite asi isWord a mask data).1.Inv := by
  have hk := State.memoryWrite_keeps s asi isWord a mask data h.ctx
  rw [State.memoryWrite_frame]
  exact h.access (State.memoryWrite_wf h.memory ..) (hk.1 h.fav) hk.2 _ _ _ _ _

/-- A legal delayed write keeps the invariant. -/
theorem State.Inv.applyWrite {s : State} (h : s.Inv) {w : StateWrite} (hw : w.legal s.cfg) : (s.applyWrite w).Inv := by
  cases w with
  | psr w =>
    exact ⟨h.memory, h.pc, h.npc, hw.1, h.wim, hw.2.1, hw.2.2, h.pending, h.raised, h.pbError, h.blockByte, h.blockWord, h.ns, h.fqAbsent,
      h.fqDepth, h.fpuMode, h.cp, h.ctx, h.fav⟩
  | wim v =>
    exact ⟨h.memory, h.pc, h.npc, h.cwp, hw, h.ec, h.ef, h.pending, h.raised, h.pbError, h.blockByte, h.blockWord, h.ns, h.fqAbsent,
      h.fqDepth, h.fpuMode, h.cp, h.ctx, h.fav⟩
  | tba _ | y _ | asr _ _ =>
    exact ⟨h.memory, h.pc, h.npc, h.cwp, h.wim, h.ec, h.ef, h.pending, h.raised, h.pbError, h.blockByte, h.blockWord, h.ns, h.fqAbsent,
      h.fqDepth, h.fpuMode, h.cp, h.ctx, h.fav⟩

theorem State.applyWrite_cfg (s : State) (w : StateWrite) : (s.applyWrite w).cfg = s.cfg := by cases w <;> rfl

theorem State.Inv.applyWrites {s : State} (h : s.Inv) {ws : List PendingWrite} (hw : ∀ p ∈ ws, p.write.legal s.cfg) :
    (s.applyWrites ws).Inv := by
  induction ws generalizing s with
  | nil => exact h
  | cons w rest ih =>
    refine ih (h.applyWrite (hw w (List.mem_cons_self ..))) fun p hp => ?_
    rw [State.applyWrite_cfg]
    exact hw p (List.mem_cons_of_mem _ hp)

/-- The pending list may be replaced by one of legal writes. -/
theorem State.Inv.setPending {s : State} (h : s.Inv) {ws : List PendingWrite} (hw : ∀ p ∈ ws, p.write.legal s.cfg) :
    { s with pending := ws }.Inv :=
  ⟨h.memory, h.pc, h.npc, h.cwp, h.wim, h.ec, h.ef, hw, h.raised, h.pbError, h.blockByte, h.blockWord, h.ns, h.fqAbsent, h.fqDepth,
   h.fpuMode, h.cp, h.ctx, h.fav⟩

theorem State.Inv.drainPending {s : State} (h : s.Inv) : s.drainPending.Inv :=
  (h.applyWrites h.pending).setPending fun _ hp => absurd hp List.not_mem_nil

theorem State.Inv.enqueue {s : State} (h : s.Inv) {w : StateWrite} (hw : w.legal s.cfg) : (s.enqueue w).Inv := by
  refine h.setPending fun p hp => ?_
  rcases List.mem_append.mp hp with hp | hp
  · exact h.pending p hp
  · rw [List.mem_singleton.mp hp]
    exact hw

theorem State.Inv.tickPending {s : State} (h : s.Inv) : s.tickPending.Inv := by
  refine (h.applyWrites fun p hp => h.pending p (List.mem_filter.mp hp).1).setPending fun p hp => ?_
  obtain ⟨q, hq, rfl⟩ := List.mem_map.mp hp
  have hc : (s.applyWrites (s.pending.filter (fun p => p.countdown == 0))).cfg = s.cfg := by rw [State.applyWrites_frame]
  rw [hc]
  exact h.pending q (List.mem_filter.mp hq).1

/-- Stopping in error_mode keeps the invariant (R707). -/
theorem State.Inv.enterErrorMode {s : State} (h : s.Inv) : s.enterErrorMode.Inv :=
  ⟨h.memory, h.pc, h.npc, h.cwp, h.wim, h.ec, h.ef, h.pending, h.raised, ⟨fun _ => rfl, fun _ => rfl⟩, h.blockByte, h.blockWord, h.ns,
   h.fqAbsent, h.fqDepth, h.fpuMode, h.cp, h.ctx, h.fav⟩

/-- So does RETT's error_stop (R487). -/
theorem State.Inv.errorStop {s : State} (h : s.Inv) (t : Trap) : (s.errorStop t).Inv :=
  ⟨h.memory, h.pc, h.npc, h.cwp, h.wim, h.ec, h.ef, h.pending, h.raised, ⟨fun _ => rfl, fun _ => rfl⟩, h.blockByte, h.blockWord, h.ns,
   h.fqAbsent, h.fqDepth, h.fpuMode, h.cp, h.ctx, h.fav⟩

theorem State.Inv.enterTrapWindow {s : State} (h : s.Inv) : s.enterTrapWindow.Inv := by
  have d := h.drainPending
  refine State.Inv.setReg (State.Inv.setReg ?_ _ _) _ _
  exact ⟨d.memory, d.pc, d.npc, prevWindow_lt _ _, d.wim, d.ec, d.ef, d.pending, d.raised, d.pbError, d.blockByte, d.blockWord, d.ns,
    d.fqAbsent, d.fqDepth, d.fpuMode, d.cp, d.ctx, d.fav⟩

theorem State.tbrWord_aligned (s : State) : wordAligned s.tbrWord := by
  have h (x : BitVec 28) : (x ++ 0#4).extractLsb' 0 2 = 0#2 := by
    apply BitVec.eq_of_getLsbD_eq
    intro i hi
    rw [BitVec.getLsbD_extractLsb', BitVec.getLsbD_append, if_pos (by omega)]
    simp
  exact h _

/-- Taking a trap keeps the invariant (R705, R707). -/
theorem State.Inv.takeTrap {s : State} (h : s.Inv) (t : Trap) : (takeTrap t s).Inv := by
  unfold Machine.takeTrap
  split
  · have ht : { s with tt := t.tt }.Inv :=
      ⟨h.memory, h.pc, h.npc, h.cwp, h.wim, h.ec, h.ef, h.pending, h.raised, h.pbError, h.blockByte, h.blockWord, h.ns, h.fqAbsent,
       h.fqDepth, h.fpuMode, h.cp, h.ctx, h.fav⟩
    have e := ht.enterTrapWindow
    exact ⟨e.memory, State.tbrWord_aligned _, wordAligned_add_four (State.tbrWord_aligned _), e.cwp, e.wim, e.ec, e.ef, e.pending, e.raised,
      e.pbError, e.blockByte, e.blockWord, e.ns, e.fqAbsent, e.fqDepth, e.fpuMode, e.cp, e.ctx, e.fav⟩
  · exact h.enterErrorMode

/-- What a trap's entry overwrites is legal where the invariant holds. -/
theorem State.Inv.beforeTrap {s : State} (h : s.Inv) (t : Trap) : (s.beforeTrap t).Legal s.cfg :=
  ⟨h.pc, h.npc, h.cwp, h.wim, h.ec, h.ef, h.pending⟩

theorem drainPending_cfg (s : State) : s.drainPending.cfg = s.cfg := by rw [State.drainPending_frame]

theorem takeTrap_cfg (t : Trap) (s : State) : (takeTrap t s).cfg = s.cfg := by
  unfold takeTrap
  split
  · show (({ s with tt := t.tt }).enterTrapWindow).cfg = s.cfg
    unfold State.enterTrapWindow
    dsimp only
    rw [State.setReg_cfg, State.setReg_cfg]
    exact drainPending_cfg _
  · rfl

/-- What stands in `raised` may be forgotten, or replaced by what is legal. -/
theorem State.Inv.setRaised {s : State} (h : s.Inv) {o : Option Raised} (ho : ∀ r, o = some r → r.Legal s.cfg) :
    { s with raised := o }.Inv :=
  ⟨h.memory, h.pc, h.npc, h.cwp, h.wim, h.ec, h.ef, h.pending, ho, h.pbError, h.blockByte, h.blockWord, h.ns,
   h.fqAbsent, h.fqDepth, h.fpuMode, h.cp, h.ctx, h.fav⟩

/-- Raising a trap keeps the invariant (R14, R671). -/
theorem State.Inv.raise {s : State} (h : s.Inv) (t : Trap) : (raise t s).Inv := by
  refine (h.takeTrap t).setRaised fun r hr => ?_
  rw [takeTrap_cfg, ← Option.some.inj hr]
  exact h.beforeTrap t

/-- So does taking its entry back (R700). -/
theorem State.Inv.undoTrap {s : State} (h : s.Inv) {r : Raised} (hr : s.raised = some r) : (s.undoTrap r).Inv :=
  have l := h.raised r hr
  ⟨h.memory, l.pc, l.npc, l.cwp, l.wim, l.ec, l.ef, l.pending, fun _ h => absurd h nofun,
   ⟨fun h => absurd h nofun, fun h => absurd h nofun⟩, h.blockByte, h.blockWord, h.ns, h.fqAbsent, h.fqDepth, h.fpuMode, h.cp,
   h.ctx, h.fav⟩

/-- A read that goes on, or takes its exception (R324). -/
theorem State.Inv.reading {s : State} (h : s.Inv) (asi : BitVec 8) (size : AccessSize) (a : Word) {k : Word → State → State}
    (hk : ∀ w t, t.Inv → t = { s with mem := t.mem, mmu := t.mmu, ibuf := t.ibuf, io := t.io, freeCtr := t.freeCtr } → (k w t).Inv) :
    (s.reading asi size a k).Inv := by
  have hr := h.memoryRead asi false (size == .word) a
  have hf := State.memoryRead_frame s asi false (size == .word) a
  unfold State.reading
  split
  · rename_i t w e
    rw [e] at hr hf
    exact hk w t hr hf
  · rename_i t e' e
    rw [e] at hr
    exact hr.raise _

theorem State.Inv.writing {s : State} (h : s.Inv) (asi : BitVec 8) (size : AccessSize) (a v : Word) {k : State → State}
    (hk : ∀ t, t.Inv → State.Written s t → (k t).Inv) :
    (s.writing asi size a v k).Inv := by
  have hr := h.memoryWrite asi (size == .word) a (storeMask size a) (storeData size a v)
  unfold State.writing
  split
  · rename_i t e
    rw [e] at hr
    exact hk t hr (State.memoryWrite_written e)
  · rename_i t e' e
    rw [e] at hr
    exact hr.raise _

theorem State.Inv.ifAligned {s : State} (h : s.Inv) (size : AccessSize) (a : Word) {k : State → State}
    (hk : size.aligned a = true → (k s).Inv) : (s.ifAligned size a k).Inv := by
  unfold State.ifAligned
  split
  · exact hk ‹_›
  · exact h.raise _

end Sys2Proof.Machine
end

