-- ==== Sys2Proof/Laws/PerInstr.lean ====
section
/-! SUPPORT. The per-instruction family EncodeTable: every instruction's word has the bits its row of spec/opcode_table.json
fixes (R284). -/

namespace Sys2Proof.Laws.EncodeTable

open Sys2Proof

/-- The mask and the match of an instruction's row of the opcode table. -/
def tableRow : Instr → Word × Word
  | .ldsb _ _ _ => (0xC1F80000#32, 0xC0480000#32)
  | .ldsh _ _ _ => (0xC1F80000#32, 0xC0500000#32)
  | .ldub _ _ _ => (0xC1F80000#32, 0xC0080000#32)
  | .lduh _ _ _ => (0xC1F80000#32, 0xC0100000#32)
  | .ld _ _ _ => (0xC1F80000#32, 0xC0000000#32)
  | .ldd _ _ _ => (0xC1F80000#32, 0xC0180000#32)
  | .ldsba _ _ _ => (0xC1F80000#32, 0xC0C80000#32)
  | .ldsha _ _ _ => (0xC1F80000#32, 0xC0D00000#32)
  | .lduba _ _ _ => (0xC1F80000#32, 0xC0880000#32)
  | .lduha _ _ _ => (0xC1F80000#32, 0xC0900000#32)
  | .lda _ _ _ => (0xC1F80000#32, 0xC0800000#32)
  | .ldda _ _ _ => (0xC1F80000#32, 0xC0980000#32)
  | .ldf _ _ _ => (0xC1F80000#32, 0xC1000000#32)
  | .lddf _ _ _ => (0xC1F80000#32, 0xC1180000#32)
  | .ldfsr _ _ => (0xC1F80000#32, 0xC1080000#32)
  | .ldc _ _ _ => (0xC1F80000#32, 0xC1800000#32)
  | .lddc _ _ _ => (0xC1F80000#32, 0xC1980000#32)
  | .ldcsr _ _ => (0xC1F80000#32, 0xC1880000#32)
  | .stb _ _ _ => (0xC1F80000#32, 0xC0280000#32)
  | .sth _ _ _ => (0xC1F80000#32, 0xC0300000#32)
  | .st _ _ _ => (0xC1F80000#32, 0xC0200000#32)
  | .std _ _ _ => (0xC1F80000#32, 0xC0380000#32)
  | .stba _ _ _ => (0xC1F80000#32, 0xC0A80000#32)
  | .stha _ _ _ => (0xC1F80000#32, 0xC0B00000#32)
  | .sta _ _ _ => (0xC1F80000#32, 0xC0A00000#32)
  | .stda _ _ _ => (0xC1F80000#32, 0xC0B80000#32)
  | .stf _ _ _ => (0xC1F80000#32, 0xC1200000#32)
  | .stdf _ _ _ => (0xC1F80000#32, 0xC1380000#32)
  | .stfsr _ _ => (0xC1F80000#32, 0xC1280000#32)
  | .stdfq _ _ => (0xC1F80000#32, 0xC1300000#32)
  | .stc _ _ _ => (0xC1F80000#32, 0xC1A00000#32)
  | .stdc _ _ _ => (0xC1F80000#32, 0xC1B80000#32)
  | .stcsr _ _ => (0xC1F80000#32, 0xC1A80000#32)
  | .stdcq _ _ => (0xC1F80000#32, 0xC1B00000#32)
  | .ldstub _ _ _ => (0xC1F80000#32, 0xC0680000#32)
  | .ldstuba _ _ _ => (0xC1F80000#32, 0xC0E80000#32)
  | .swap _ _ _ => (0xC1F80000#32, 0xC0780000#32)
  | .swapa _ _ _ => (0xC1F80000#32, 0xC0F80000#32)
  | .sethi _ _ => (0xC1C00000#32, 0x01000000#32)
  | .nop => (0xFFFFFFFF#32, 0x01000000#32)
  | .unimp _ => (0xC1C00000#32, 0x00000000#32)
  | .and _ _ _ => (0xC1F80000#32, 0x80080000#32)
  | .andcc _ _ _ => (0xC1F80000#32, 0x80880000#32)
  | .andn _ _ _ => (0xC1F80000#32, 0x80280000#32)
  | .andncc _ _ _ => (0xC1F80000#32, 0x80A80000#32)
  | .or _ _ _ => (0xC1F80000#32, 0x80100000#32)
  | .orcc _ _ _ => (0xC1F80000#32, 0x80900000#32)
  | .orn _ _ _ => (0xC1F80000#32, 0x80300000#32)
  | .orncc _ _ _ => (0xC1F80000#32, 0x80B00000#32)
  | .xor _ _ _ => (0xC1F80000#32, 0x80180000#32)
  | .xorcc _ _ _ => (0xC1F80000#32, 0x80980000#32)
  | .xnor _ _ _ => (0xC1F80000#32, 0x80380000#32)
  | .xnorcc _ _ _ => (0xC1F80000#32, 0x80B80000#32)
  | .sll _ _ _ => (0xC1F80000#32, 0x81280000#32)
  | .srl _ _ _ => (0xC1F80000#32, 0x81300000#32)
  | .sra _ _ _ => (0xC1F80000#32, 0x81380000#32)
  | .add _ _ _ => (0xC1F80000#32, 0x80000000#32)
  | .addcc _ _ _ => (0xC1F80000#32, 0x80800000#32)
  | .addx _ _ _ => (0xC1F80000#32, 0x80400000#32)
  | .addxcc _ _ _ => (0xC1F80000#32, 0x80C00000#32)
  | .taddcc _ _ _ => (0xC1F80000#32, 0x81000000#32)
  | .taddcctv _ _ _ => (0xC1F80000#32, 0x81100000#32)
  | .sub _ _ _ => (0xC1F80000#32, 0x80200000#32)
  | .subcc _ _ _ => (0xC1F80000#32, 0x80A00000#32)
  | .subx _ _ _ => (0xC1F80000#32, 0x80600000#32)
  | .subxcc _ _ _ => (0xC1F80000#32, 0x80E00000#32)
  | .tsubcc _ _ _ => (0xC1F80000#32, 0x81080000#32)
  | .tsubcctv _ _ _ => (0xC1F80000#32, 0x81180000#32)
  | .mulscc _ _ _ => (0xC1F80000#32, 0x81200000#32)
  | .umul _ _ _ => (0xC1F80000#32, 0x80500000#32)
  | .smul _ _ _ => (0xC1F80000#32, 0x80580000#32)
  | .umulcc _ _ _ => (0xC1F80000#32, 0x80D00000#32)
  | .smulcc _ _ _ => (0xC1F80000#32, 0x80D80000#32)
  | .udiv _ _ _ => (0xC1F80000#32, 0x80700000#32)
  | .sdiv _ _ _ => (0xC1F80000#32, 0x80780000#32)
  | .udivcc _ _ _ => (0xC1F80000#32, 0x80F00000#32)
  | .sdivcc _ _ _ => (0xC1F80000#32, 0x80F80000#32)
  | .save _ _ _ => (0xC1F80000#32, 0x81E00000#32)
  | .restore _ _ _ => (0xC1F80000#32, 0x81E80000#32)
  | .bn _ _ => (0xDFC00000#32, 0x00800000#32)
  | .be _ _ => (0xDFC00000#32, 0x02800000#32)
  | .ble _ _ => (0xDFC00000#32, 0x04800000#32)
  | .bl _ _ => (0xDFC00000#32, 0x06800000#32)
  | .bleu _ _ => (0xDFC00000#32, 0x08800000#32)
  | .bcs _ _ => (0xDFC00000#32, 0x0A800000#32)
  | .bneg _ _ => (0xDFC00000#32, 0x0C800000#32)
  | .bvs _ _ => (0xDFC00000#32, 0x0E800000#32)
  | .ba _ _ => (0xDFC00000#32, 0x10800000#32)
  | .bne _ _ => (0xDFC00000#32, 0x12800000#32)
  | .bg _ _ => (0xDFC00000#32, 0x14800000#32)
  | .bge _ _ => (0xDFC00000#32, 0x16800000#32)
  | .bgu _ _ => (0xDFC00000#32, 0x18800000#32)
  | .bcc _ _ => (0xDFC00000#32, 0x1A800000#32)
  | .bpos _ _ => (0xDFC00000#32, 0x1C800000#32)
  | .bvc _ _ => (0xDFC00000#32, 0x1E800000#32)
  | .fbn _ _ => (0xDFC00000#32, 0x01800000#32)
  | .fbne _ _ => (0xDFC00000#32, 0x03800000#32)
  | .fblg _ _ => (0xDFC00000#32, 0x05800000#32)
  | .fbul _ _ => (0xDFC00000#32, 0x07800000#32)
  | .fbl _ _ => (0xDFC00000#32, 0x09800000#32)
  | .fbug _ _ => (0xDFC00000#32, 0x0B800000#32)
  | .fbg _ _ => (0xDFC00000#32, 0x0D800000#32)
  | .fbu _ _ => (0xDFC00000#32, 0x0F800000#32)
  | .fba _ _ => (0xDFC00000#32, 0x11800000#32)
  | .fbe _ _ => (0xDFC00000#32, 0x13800000#32)
  | .fbue _ _ => (0xDFC00000#32, 0x15800000#32)
  | .fbge _ _ => (0xDFC00000#32, 0x17800000#32)
  | .fbuge _ _ => (0xDFC00000#32, 0x19800000#32)
  | .fble _ _ => (0xDFC00000#32, 0x1B800000#32)
  | .fbule _ _ => (0xDFC00000#32, 0x1D800000#32)
  | .fbo _ _ => (0xDFC00000#32, 0x1F800000#32)
  | .cbn _ _ => (0xDFC00000#32, 0x01C00000#32)
  | .cb123 _ _ => (0xDFC00000#32, 0x03C00000#32)
  | .cb12 _ _ => (0xDFC00000#32, 0x05C00000#32)
  | .cb13 _ _ => (0xDFC00000#32, 0x07C00000#32)
  | .cb1 _ _ => (0xDFC00000#32, 0x09C00000#32)
  | .cb23 _ _ => (0xDFC00000#32, 0x0BC00000#32)
  | .cb2 _ _ => (0xDFC00000#32, 0x0DC00000#32)
  | .cb3 _ _ => (0xDFC00000#32, 0x0FC00000#32)
  | .cba _ _ => (0xDFC00000#32, 0x11C00000#32)
  | .cb0 _ _ => (0xDFC00000#32, 0x13C00000#32)
  | .cb03 _ _ => (0xDFC00000#32, 0x15C00000#32)
  | .cb02 _ _ => (0xDFC00000#32, 0x17C00000#32)
  | .cb023 _ _ => (0xDFC00000#32, 0x19C00000#32)
  | .cb01 _ _ => (0xDFC00000#32, 0x1BC00000#32)
  | .cb013 _ _ => (0xDFC00000#32, 0x1DC00000#32)
  | .cb012 _ _ => (0xDFC00000#32, 0x1FC00000#32)
  | .call _ => (0xC0000000#32, 0x40000000#32)
  | .jmpl _ _ _ => (0xC1F80000#32, 0x81C00000#32)
  | .rett _ _ => (0xC1F80000#32, 0x81C80000#32)
  | .tn _ _ => (0xDFF80000#32, 0x81D00000#32)
  | .te _ _ => (0xDFF80000#32, 0x83D00000#32)
  | .tle _ _ => (0xDFF80000#32, 0x85D00000#32)
  | .tl _ _ => (0xDFF80000#32, 0x87D00000#32)
  | .tleu _ _ => (0xDFF80000#32, 0x89D00000#32)
  | .tcs _ _ => (0xDFF80000#32, 0x8BD00000#32)
  | .tneg _ _ => (0xDFF80000#32, 0x8DD00000#32)
  | .tvs _ _ => (0xDFF80000#32, 0x8FD00000#32)
  | .ta _ _ => (0xDFF80000#32, 0x91D00000#32)
  | .tne _ _ => (0xDFF80000#32, 0x93D00000#32)
  | .tg _ _ => (0xDFF80000#32, 0x95D00000#32)
  | .tge _ _ => (0xDFF80000#32, 0x97D00000#32)
  | .tgu _ _ => (0xDFF80000#32, 0x99D00000#32)
  | .tcc _ _ => (0xDFF80000#32, 0x9BD00000#32)
  | .tpos _ _ => (0xDFF80000#32, 0x9DD00000#32)
  | .tvc _ _ => (0xDFF80000#32, 0x9FD00000#32)
  | .stbar => (0xFFFFC000#32, 0x8143C000#32)
  | .rdy _ => (0xC1FFC000#32, 0x81400000#32)
  | .rdasr _ _ => (0xC1F80000#32, 0x81400000#32)
  | .rdpsr _ => (0xC1F80000#32, 0x81480000#32)
  | .rdwim _ => (0xC1F80000#32, 0x81500000#32)
  | .rdtbr _ => (0xC1F80000#32, 0x81580000#32)
  | .wry _ _ => (0xFFF80000#32, 0x81800000#32)
  | .wrasr _ _ _ => (0xC1F80000#32, 0x81800000#32)
  | .wrpsr _ _ => (0xC1F80000#32, 0x81880000#32)
  | .wrwim _ _ => (0xC1F80000#32, 0x81900000#32)
  | .wrtbr _ _ => (0xC1F80000#32, 0x81980000#32)
  | .flush _ _ => (0xC1F80000#32, 0x81D80000#32)
  | .fitos _ _ => (0xC1F83FE0#32, 0x81A01880#32)
  | .fitod _ _ => (0xC1F83FE0#32, 0x81A01900#32)
  | .fitoq _ _ => (0xC1F83FE0#32, 0x81A01980#32)
  | .fstoi _ _ => (0xC1F83FE0#32, 0x81A01A20#32)
  | .fdtoi _ _ => (0xC1F83FE0#32, 0x81A01A40#32)
  | .fqtoi _ _ => (0xC1F83FE0#32, 0x81A01A60#32)
  | .fstod _ _ => (0xC1F83FE0#32, 0x81A01920#32)
  | .fstoq _ _ => (0xC1F83FE0#32, 0x81A019A0#32)
  | .fdtos _ _ => (0xC1F83FE0#32, 0x81A018C0#32)
  | .fdtoq _ _ => (0xC1F83FE0#32, 0x81A019C0#32)
  | .fqtos _ _ => (0xC1F83FE0#32, 0x81A018E0#32)
  | .fqtod _ _ => (0xC1F83FE0#32, 0x81A01960#32)
  | .fmovs _ _ => (0xC1F83FE0#32, 0x81A00020#32)
  | .fnegs _ _ => (0xC1F83FE0#32, 0x81A000A0#32)
  | .fabss _ _ => (0xC1F83FE0#32, 0x81A00120#32)
  | .fsqrts _ _ => (0xC1F83FE0#32, 0x81A00520#32)
  | .fsqrtd _ _ => (0xC1F83FE0#32, 0x81A00540#32)
  | .fsqrtq _ _ => (0xC1F83FE0#32, 0x81A00560#32)
  | .fadds _ _ _ => (0xC1F83FE0#32, 0x81A00820#32)
  | .faddd _ _ _ => (0xC1F83FE0#32, 0x81A00840#32)
  | .faddq _ _ _ => (0xC1F83FE0#32, 0x81A00860#32)
  | .fsubs _ _ _ => (0xC1F83FE0#32, 0x81A008A0#32)
  | .fsubd _ _ _ => (0xC1F83FE0#32, 0x81A008C0#32)
  | .fsubq _ _ _ => (0xC1F83FE0#32, 0x81A008E0#32)
  | .fmuls _ _ _ => (0xC1F83FE0#32, 0x81A00920#32)
  | .fmuld _ _ _ => (0xC1F83FE0#32, 0x81A00940#32)
  | .fmulq _ _ _ => (0xC1F83FE0#32, 0x81A00960#32)
  | .fsmuld _ _ _ => (0xC1F83FE0#32, 0x81A00D20#32)
  | .fdmulq _ _ _ => (0xC1F83FE0#32, 0x81A00DC0#32)
  | .fdivs _ _ _ => (0xC1F83FE0#32, 0x81A009A0#32)
  | .fdivd _ _ _ => (0xC1F83FE0#32, 0x81A009C0#32)
  | .fdivq _ _ _ => (0xC1F83FE0#32, 0x81A009E0#32)
  | .fcmps _ _ => (0xC1F83FE0#32, 0x81A80A20#32)
  | .fcmpd _ _ => (0xC1F83FE0#32, 0x81A80A40#32)
  | .fcmpq _ _ => (0xC1F83FE0#32, 0x81A80A60#32)
  | .fcmpes _ _ => (0xC1F83FE0#32, 0x81A80AA0#32)
  | .fcmped _ _ => (0xC1F83FE0#32, 0x81A80AC0#32)
  | .fcmpeq _ _ => (0xC1F83FE0#32, 0x81A80AE0#32)
  | .fpop1Unassigned _ _ _ _ => (0xC1F80000#32, 0x81A00000#32)
  | .fpop2Unassigned _ _ _ _ => (0xC1F80000#32, 0x81A80000#32)
  | .cpop1 _ _ _ _ => (0xC1F80000#32, 0x81B00000#32)
  | .cpop2 _ _ _ _ => (0xC1F80000#32, 0x81B80000#32)

/-- The word of `i` has the bits its row fixes. -/
def Statement (i : Instr) : Prop := i.encode &&& (tableRow i).1 = (tableRow i).2

/-- The bits of a word kept by a mask are those of its fields. -/
theorem format3_and (op : BitVec 2) (rd : RegNum) (op3 : BitVec 6) (rs1 : RegNum) (lo : BitVec 14)
    (op' : BitVec 2) (rd' : RegNum) (op3' : BitVec 6) (rs1' : RegNum) (lo' : BitVec 14) :
    format3 op rd op3 rs1 lo &&& format3 op' rd' op3' rs1' lo' =
      format3 (op &&& op') (rd &&& rd') (op3 &&& op3') (rs1 &&& rs1') (lo &&& lo') := by
  refine BitVec.eq_of_getLsbD_eq fun i hi => ?_
  simp only [BitVec.getLsbD_and, getLsbD_format3]
  (repeat' split) <;> rfl

theorem format3_row (op : BitVec 2) (rd : RegNum) (op3 : BitVec 6) (rs1 : RegNum) (lo : BitVec 14) :
    format3 op rd op3 rs1 lo &&& 0xC1F80000#32 = format3 op 0#5 op3 0#5 0#14 := by
  rw [show 0xC1F80000#32 = format3 3#2 0#5 0x3F#6 0#5 0#14 by decide, format3_and]
  simp only [BitVec.and_zero, show (3#2 : BitVec 2) = BitVec.allOnes 2 by decide,
    show (0x3F#6 : BitVec 6) = BitVec.allOnes 6 by decide, BitVec.and_allOnes]

theorem opfLow_and (opf : BitVec 9) (rs2 : RegNum) : opfLow opf rs2 &&& 0x3FE0#14 = opfLow opf 0#5 := by
  refine BitVec.eq_of_getLsbD_eq fun i hi => ?_
  rw [show 0x3FE0#14 = opfLow 0x1FF#9 0#5 by decide, BitVec.getLsbD_and]
  unfold opfLow
  erw [BitVec.getLsbD_append, BitVec.getLsbD_append, BitVec.getLsbD_append]
  split
  · simp
  · have : i - 5 < 9 := by omega
    rw [show (0x1FF#9 : BitVec 9) = BitVec.allOnes 9 by decide, BitVec.getLsbD_allOnes, decide_eq_true this, Bool.and_true]

theorem fpop_row (op : BitVec 2) (rd : RegNum) (op3 : BitVec 6) (rs1 : RegNum) (opf : BitVec 9) (rs2 : RegNum) :
    format3 op rd op3 rs1 (opfLow opf rs2) &&& 0xC1F83FE0#32 = format3 op 0#5 op3 0#5 (opfLow opf 0#5) := by
  rw [show 0xC1F83FE0#32 = format3 3#2 0#5 0x3F#6 0#5 0x3FE0#14 by decide, format3_and, opfLow_and]
  simp only [BitVec.and_zero, show (3#2 : BitVec 2) = BitVec.allOnes 2 by decide,
    show (0x3F#6 : BitVec 6) = BitVec.allOnes 6 by decide, BitVec.and_allOnes]

theorem ticc_row (cond : BitVec 4) (rs1 : RegNum) (lo : BitVec 14) :
    formatTicc cond rs1 lo &&& 0xDFF80000#32 = formatTicc cond 0#5 0#14 := by
  unfold formatTicc
  rw [show 0xDFF80000#32 = format3 3#2 0xF#5 0x3F#6 0#5 0#14 by decide, format3_and]
  have h : (0#1 ++ cond : BitVec 5) &&& 0xF#5 = 0#1 ++ cond := by
    revert cond
    decide
  simp only [BitVec.and_zero, show (3#2 : BitVec 2) = BitVec.allOnes 2 by decide,
    show (0x3F#6 : BitVec 6) = BitVec.allOnes 6 by decide, BitVec.and_allOnes]
  erw [h]

theorem rdy_row (rd : RegNum) :
    format3 2#2 rd 0x28#6 0#5 0#14 &&& 0xC1FFC000#32 = 0x81400000#32 := by
  rw [show 0xC1FFC000#32 = format3 3#2 0#5 0x3F#6 0x1F#5 0#14 by decide, format3_and, BitVec.and_zero]
  decide

theorem wry_row (rs1 : RegNum) (lo : BitVec 14) :
    format3 2#2 0#5 0x30#6 rs1 lo &&& 0xFFF80000#32 = 0x81800000#32 := by
  rw [show 0xFFF80000#32 = format3 3#2 0x1F#5 0x3F#6 0#5 0#14 by decide, format3_and, BitVec.and_zero, BitVec.and_zero]
  decide

theorem branch_row (a : Bool) (cond : BitVec 4) (op2 : BitVec 3) (disp22 : BitVec 22) :
    formatBranch a cond op2 disp22 &&& 0xDFC00000#32 = formatBranch false cond op2 0#22 := by
  refine BitVec.eq_of_getLsbD_eq fun i hi => ?_
  rw [show 0xDFC00000#32 = format3 3#2 0xF#5 0x38#6 0#5 0#14 by decide]
  simp only [BitVec.getLsbD_and, getLsbD_formatBranch, getLsbD_format3]
  interval_cases i <;> simp

theorem imm22_row (rd : RegNum) (op2 : BitVec 3) (imm22 : BitVec 22) :
    formatImm22 rd op2 imm22 &&& 0xC1C00000#32 = formatImm22 0#5 op2 0#22 := by
  refine BitVec.eq_of_getLsbD_eq fun i hi => ?_
  rw [show 0xC1C00000#32 = format3 3#2 0#5 0x38#6 0#5 0#14 by decide]
  simp only [BitVec.getLsbD_and, getLsbD_formatImm22, getLsbD_format3]
  interval_cases i <;> simp

theorem call_row (disp30 : BitVec 30) : formatCall disp30 &&& 0xC0000000#32 = 0x40000000#32 := by
  refine BitVec.eq_of_getLsbD_eq fun i hi => ?_
  rw [show 0xC0000000#32 = formatCall 0#30 ||| 0x80000000#32 by decide]
  simp only [BitVec.getLsbD_and, BitVec.getLsbD_or, getLsbD_formatCall]
  interval_cases i <;> simp

theorem ldsb (rd rs1 : RegNum) (op2 : Operand2) : Statement (.ldsb rd rs1 op2) := (format3_row _ _ _ _ _).trans rfl

theorem ldsh (rd rs1 : RegNum) (op2 : Operand2) : Statement (.ldsh rd rs1 op2) := (format3_row _ _ _ _ _).trans rfl

theorem ldub (rd rs1 : RegNum) (op2 : Operand2) : Statement (.ldub rd rs1 op2) := (format3_row _ _ _ _ _).trans rfl

theorem lduh (rd rs1 : RegNum) (op2 : Operand2) : Statement (.lduh rd rs1 op2) := (format3_row _ _ _ _ _).trans rfl

theorem ld (rd rs1 : RegNum) (op2 : Operand2) : Statement (.ld rd rs1 op2) := (format3_row _ _ _ _ _).trans rfl

theorem ldd (rd rs1 : RegNum) (op2 : Operand2) : Statement (.ldd rd rs1 op2) := (format3_row _ _ _ _ _).trans rfl

theorem ldsba (rd rs1 : RegNum) (alt : AltAddr) : Statement (.ldsba rd rs1 alt) := (format3_row _ _ _ _ _).trans rfl

theorem ldsha (rd rs1 : RegNum) (alt : AltAddr) : Statement (.ldsha rd rs1 alt) := (format3_row _ _ _ _ _).trans rfl

theorem lduba (rd rs1 : RegNum) (alt : AltAddr) : Statement (.lduba rd rs1 alt) := (format3_row _ _ _ _ _).trans rfl

theorem lduha (rd rs1 : RegNum) (alt : AltAddr) : Statement (.lduha rd rs1 alt) := (format3_row _ _ _ _ _).trans rfl

theorem lda (rd rs1 : RegNum) (alt : AltAddr) : Statement (.lda rd rs1 alt) := (format3_row _ _ _ _ _).trans rfl

theorem ldda (rd rs1 : RegNum) (alt : AltAddr) : Statement (.ldda rd rs1 alt) := (format3_row _ _ _ _ _).trans rfl

theorem ldf (rd rs1 : RegNum) (op2 : Operand2) : Statement (.ldf rd rs1 op2) := (format3_row _ _ _ _ _).trans rfl

theorem lddf (rd rs1 : RegNum) (op2 : Operand2) : Statement (.lddf rd rs1 op2) := (format3_row _ _ _ _ _).trans rfl

theorem ldfsr (rs1 : RegNum) (op2 : Operand2) : Statement (.ldfsr rs1 op2) := (format3_row _ _ _ _ _).trans rfl

theorem ldc (rd rs1 : RegNum) (op2 : Operand2) : Statement (.ldc rd rs1 op2) := (format3_row _ _ _ _ _).trans rfl

theorem lddc (rd rs1 : RegNum) (op2 : Operand2) : Statement (.lddc rd rs1 op2) := (format3_row _ _ _ _ _).trans rfl

theorem ldcsr (rs1 : RegNum) (op2 : Operand2) : Statement (.ldcsr rs1 op2) := (format3_row _ _ _ _ _).trans rfl

theorem stb (rd rs1 : RegNum) (op2 : Operand2) : Statement (.stb rd rs1 op2) := (format3_row _ _ _ _ _).trans rfl

theorem sth (rd rs1 : RegNum) (op2 : Operand2) : Statement (.sth rd rs1 op2) := (format3_row _ _ _ _ _).trans rfl

theorem st (rd rs1 : RegNum) (op2 : Operand2) : Statement (.st rd rs1 op2) := (format3_row _ _ _ _ _).trans rfl

theorem std (rd rs1 : RegNum) (op2 : Operand2) : Statement (.std rd rs1 op2) := (format3_row _ _ _ _ _).trans rfl

theorem stba (rd rs1 : RegNum) (alt : AltAddr) : Statement (.stba rd rs1 alt) := (format3_row _ _ _ _ _).trans rfl

theorem stha (rd rs1 : RegNum) (alt : AltAddr) : Statement (.stha rd rs1 alt) := (format3_row _ _ _ _ _).trans rfl

theorem sta (rd rs1 : RegNum) (alt : AltAddr) : Statement (.sta rd rs1 alt) := (format3_row _ _ _ _ _).trans rfl

theorem stda (rd rs1 : RegNum) (alt : AltAddr) : Statement (.stda rd rs1 alt) := (format3_row _ _ _ _ _).trans rfl

theorem stf (rd rs1 : RegNum) (op2 : Operand2) : Statement (.stf rd rs1 op2) := (format3_row _ _ _ _ _).trans rfl

theorem stdf (rd rs1 : RegNum) (op2 : Operand2) : Statement (.stdf rd rs1 op2) := (format3_row _ _ _ _ _).trans rfl

theorem stfsr (rs1 : RegNum) (op2 : Operand2) : Statement (.stfsr rs1 op2) := (format3_row _ _ _ _ _).trans rfl

theorem stdfq (rs1 : RegNum) (op2 : Operand2) : Statement (.stdfq rs1 op2) := (format3_row _ _ _ _ _).trans rfl

theorem stc (rd rs1 : RegNum) (op2 : Operand2) : Statement (.stc rd rs1 op2) := (format3_row _ _ _ _ _).trans rfl

theorem stdc (rd rs1 : RegNum) (op2 : Operand2) : Statement (.stdc rd rs1 op2) := (format3_row _ _ _ _ _).trans rfl

theorem stcsr (rs1 : RegNum) (op2 : Operand2) : Statement (.stcsr rs1 op2) := (format3_row _ _ _ _ _).trans rfl

theorem stdcq (rs1 : RegNum) (op2 : Operand2) : Statement (.stdcq rs1 op2) := (format3_row _ _ _ _ _).trans rfl

theorem ldstub (rd rs1 : RegNum) (op2 : Operand2) : Statement (.ldstub rd rs1 op2) := (format3_row _ _ _ _ _).trans rfl

theorem ldstuba (rd rs1 : RegNum) (alt : AltAddr) : Statement (.ldstuba rd rs1 alt) := (format3_row _ _ _ _ _).trans rfl

theorem swap (rd rs1 : RegNum) (op2 : Operand2) : Statement (.swap rd rs1 op2) := (format3_row _ _ _ _ _).trans rfl

theorem swapa (rd rs1 : RegNum) (alt : AltAddr) : Statement (.swapa rd rs1 alt) := (format3_row _ _ _ _ _).trans rfl

theorem sethi (rd : RegNum) (imm22 : BitVec 22) : Statement (.sethi rd imm22) := (imm22_row _ _ _).trans rfl

theorem nop : Statement (.nop) := by unfold Statement; decide

theorem unimp (const22 : BitVec 22) : Statement (.unimp const22) := (imm22_row _ _ _).trans rfl

theorem and (rd rs1 : RegNum) (op2 : Operand2) : Statement (.and rd rs1 op2) := (format3_row _ _ _ _ _).trans rfl

theorem andcc (rd rs1 : RegNum) (op2 : Operand2) : Statement (.andcc rd rs1 op2) := (format3_row _ _ _ _ _).trans rfl

theorem andn (rd rs1 : RegNum) (op2 : Operand2) : Statement (.andn rd rs1 op2) := (format3_row _ _ _ _ _).trans rfl

theorem andncc (rd rs1 : RegNum) (op2 : Operand2) : Statement (.andncc rd rs1 op2) := (format3_row _ _ _ _ _).trans rfl

theorem or (rd rs1 : RegNum) (op2 : Operand2) : Statement (.or rd rs1 op2) := (format3_row _ _ _ _ _).trans rfl

theorem orcc (rd rs1 : RegNum) (op2 : Operand2) : Statement (.orcc rd rs1 op2) := (format3_row _ _ _ _ _).trans rfl

theorem orn (rd rs1 : RegNum) (op2 : Operand2) : Statement (.orn rd rs1 op2) := (format3_row _ _ _ _ _).trans rfl

theorem orncc (rd rs1 : RegNum) (op2 : Operand2) : Statement (.orncc rd rs1 op2) := (format3_row _ _ _ _ _).trans rfl

theorem xor (rd rs1 : RegNum) (op2 : Operand2) : Statement (.xor rd rs1 op2) := (format3_row _ _ _ _ _).trans rfl

theorem xorcc (rd rs1 : RegNum) (op2 : Operand2) : Statement (.xorcc rd rs1 op2) := (format3_row _ _ _ _ _).trans rfl

theorem xnor (rd rs1 : RegNum) (op2 : Operand2) : Statement (.xnor rd rs1 op2) := (format3_row _ _ _ _ _).trans rfl

theorem xnorcc (rd rs1 : RegNum) (op2 : Operand2) : Statement (.xnorcc rd rs1 op2) := (format3_row _ _ _ _ _).trans rfl

theorem sll (rd rs1 : RegNum) (cnt : ShiftCount) : Statement (.sll rd rs1 cnt) := (format3_row _ _ _ _ _).trans rfl

theorem srl (rd rs1 : RegNum) (cnt : ShiftCount) : Statement (.srl rd rs1 cnt) := (format3_row _ _ _ _ _).trans rfl

theorem sra (rd rs1 : RegNum) (cnt : ShiftCount) : Statement (.sra rd rs1 cnt) := (format3_row _ _ _ _ _).trans rfl

theorem add (rd rs1 : RegNum) (op2 : Operand2) : Statement (.add rd rs1 op2) := (format3_row _ _ _ _ _).trans rfl

theorem addcc (rd rs1 : RegNum) (op2 : Operand2) : Statement (.addcc rd rs1 op2) := (format3_row _ _ _ _ _).trans rfl

theorem addx (rd rs1 : RegNum) (op2 : Operand2) : Statement (.addx rd rs1 op2) := (format3_row _ _ _ _ _).trans rfl

theorem addxcc (rd rs1 : RegNum) (op2 : Operand2) : Statement (.addxcc rd rs1 op2) := (format3_row _ _ _ _ _).trans rfl

theorem taddcc (rd rs1 : RegNum) (op2 : Operand2) : Statement (.taddcc rd rs1 op2) := (format3_row _ _ _ _ _).trans rfl

theorem taddcctv (rd rs1 : RegNum) (op2 : Operand2) : Statement (.taddcctv rd rs1 op2) := (format3_row _ _ _ _ _).trans rfl

theorem sub (rd rs1 : RegNum) (op2 : Operand2) : Statement (.sub rd rs1 op2) := (format3_row _ _ _ _ _).trans rfl

theorem subcc (rd rs1 : RegNum) (op2 : Operand2) : Statement (.subcc rd rs1 op2) := (format3_row _ _ _ _ _).trans rfl

theorem subx (rd rs1 : RegNum) (op2 : Operand2) : Statement (.subx rd rs1 op2) := (format3_row _ _ _ _ _).trans rfl

theorem subxcc (rd rs1 : RegNum) (op2 : Operand2) : Statement (.subxcc rd rs1 op2) := (format3_row _ _ _ _ _).trans rfl

theorem tsubcc (rd rs1 : RegNum) (op2 : Operand2) : Statement (.tsubcc rd rs1 op2) := (format3_row _ _ _ _ _).trans rfl

theorem tsubcctv (rd rs1 : RegNum) (op2 : Operand2) : Statement (.tsubcctv rd rs1 op2) := (format3_row _ _ _ _ _).trans rfl

theorem mulscc (rd rs1 : RegNum) (op2 : Operand2) : Statement (.mulscc rd rs1 op2) := (format3_row _ _ _ _ _).trans rfl

theorem umul (rd rs1 : RegNum) (op2 : Operand2) : Statement (.umul rd rs1 op2) := (format3_row _ _ _ _ _).trans rfl

theorem smul (rd rs1 : RegNum) (op2 : Operand2) : Statement (.smul rd rs1 op2) := (format3_row _ _ _ _ _).trans rfl

theorem umulcc (rd rs1 : RegNum) (op2 : Operand2) : Statement (.umulcc rd rs1 op2) := (format3_row _ _ _ _ _).trans rfl

theorem smulcc (rd rs1 : RegNum) (op2 : Operand2) : Statement (.smulcc rd rs1 op2) := (format3_row _ _ _ _ _).trans rfl

theorem udiv (rd rs1 : RegNum) (op2 : Operand2) : Statement (.udiv rd rs1 op2) := (format3_row _ _ _ _ _).trans rfl

theorem sdiv (rd rs1 : RegNum) (op2 : Operand2) : Statement (.sdiv rd rs1 op2) := (format3_row _ _ _ _ _).trans rfl

theorem udivcc (rd rs1 : RegNum) (op2 : Operand2) : Statement (.udivcc rd rs1 op2) := (format3_row _ _ _ _ _).trans rfl

theorem sdivcc (rd rs1 : RegNum) (op2 : Operand2) : Statement (.sdivcc rd rs1 op2) := (format3_row _ _ _ _ _).trans rfl

theorem save (rd rs1 : RegNum) (op2 : Operand2) : Statement (.save rd rs1 op2) := (format3_row _ _ _ _ _).trans rfl

theorem restore (rd rs1 : RegNum) (op2 : Operand2) : Statement (.restore rd rs1 op2) := (format3_row _ _ _ _ _).trans rfl

theorem bn (a : Bool) (disp22 : BitVec 22) : Statement (.bn a disp22) := (branch_row _ _ _ _).trans rfl

theorem be (a : Bool) (disp22 : BitVec 22) : Statement (.be a disp22) := (branch_row _ _ _ _).trans rfl

theorem ble (a : Bool) (disp22 : BitVec 22) : Statement (.ble a disp22) := (branch_row _ _ _ _).trans rfl

theorem bl (a : Bool) (disp22 : BitVec 22) : Statement (.bl a disp22) := (branch_row _ _ _ _).trans rfl

theorem bleu (a : Bool) (disp22 : BitVec 22) : Statement (.bleu a disp22) := (branch_row _ _ _ _).trans rfl

theorem bcs (a : Bool) (disp22 : BitVec 22) : Statement (.bcs a disp22) := (branch_row _ _ _ _).trans rfl

theorem bneg (a : Bool) (disp22 : BitVec 22) : Statement (.bneg a disp22) := (branch_row _ _ _ _).trans rfl

theorem bvs (a : Bool) (disp22 : BitVec 22) : Statement (.bvs a disp22) := (branch_row _ _ _ _).trans rfl

theorem ba (a : Bool) (disp22 : BitVec 22) : Statement (.ba a disp22) := (branch_row _ _ _ _).trans rfl

theorem bne (a : Bool) (disp22 : BitVec 22) : Statement (.bne a disp22) := (branch_row _ _ _ _).trans rfl

theorem bg (a : Bool) (disp22 : BitVec 22) : Statement (.bg a disp22) := (branch_row _ _ _ _).trans rfl

theorem bge (a : Bool) (disp22 : BitVec 22) : Statement (.bge a disp22) := (branch_row _ _ _ _).trans rfl

theorem bgu (a : Bool) (disp22 : BitVec 22) : Statement (.bgu a disp22) := (branch_row _ _ _ _).trans rfl

theorem bcc (a : Bool) (disp22 : BitVec 22) : Statement (.bcc a disp22) := (branch_row _ _ _ _).trans rfl

theorem bpos (a : Bool) (disp22 : BitVec 22) : Statement (.bpos a disp22) := (branch_row _ _ _ _).trans rfl

theorem bvc (a : Bool) (disp22 : BitVec 22) : Statement (.bvc a disp22) := (branch_row _ _ _ _).trans rfl

theorem fbn (a : Bool) (disp22 : BitVec 22) : Statement (.fbn a disp22) := (branch_row _ _ _ _).trans rfl

theorem fbne (a : Bool) (disp22 : BitVec 22) : Statement (.fbne a disp22) := (branch_row _ _ _ _).trans rfl

theorem fblg (a : Bool) (disp22 : BitVec 22) : Statement (.fblg a disp22) := (branch_row _ _ _ _).trans rfl

theorem fbul (a : Bool) (disp22 : BitVec 22) : Statement (.fbul a disp22) := (branch_row _ _ _ _).trans rfl

theorem fbl (a : Bool) (disp22 : BitVec 22) : Statement (.fbl a disp22) := (branch_row _ _ _ _).trans rfl

theorem fbug (a : Bool) (disp22 : BitVec 22) : Statement (.fbug a disp22) := (branch_row _ _ _ _).trans rfl

theorem fbg (a : Bool) (disp22 : BitVec 22) : Statement (.fbg a disp22) := (branch_row _ _ _ _).trans rfl

theorem fbu (a : Bool) (disp22 : BitVec 22) : Statement (.fbu a disp22) := (branch_row _ _ _ _).trans rfl

theorem fba (a : Bool) (disp22 : BitVec 22) : Statement (.fba a disp22) := (branch_row _ _ _ _).trans rfl

theorem fbe (a : Bool) (disp22 : BitVec 22) : Statement (.fbe a disp22) := (branch_row _ _ _ _).trans rfl

theorem fbue (a : Bool) (disp22 : BitVec 22) : Statement (.fbue a disp22) := (branch_row _ _ _ _).trans rfl

theorem fbge (a : Bool) (disp22 : BitVec 22) : Statement (.fbge a disp22) := (branch_row _ _ _ _).trans rfl

theorem fbuge (a : Bool) (disp22 : BitVec 22) : Statement (.fbuge a disp22) := (branch_row _ _ _ _).trans rfl

theorem fble (a : Bool) (disp22 : BitVec 22) : Statement (.fble a disp22) := (branch_row _ _ _ _).trans rfl

theorem fbule (a : Bool) (disp22 : BitVec 22) : Statement (.fbule a disp22) := (branch_row _ _ _ _).trans rfl

theorem fbo (a : Bool) (disp22 : BitVec 22) : Statement (.fbo a disp22) := (branch_row _ _ _ _).trans rfl

theorem cbn (a : Bool) (disp22 : BitVec 22) : Statement (.cbn a disp22) := (branch_row _ _ _ _).trans rfl

theorem cb123 (a : Bool) (disp22 : BitVec 22) : Statement (.cb123 a disp22) := (branch_row _ _ _ _).trans rfl

theorem cb12 (a : Bool) (disp22 : BitVec 22) : Statement (.cb12 a disp22) := (branch_row _ _ _ _).trans rfl

theorem cb13 (a : Bool) (disp22 : BitVec 22) : Statement (.cb13 a disp22) := (branch_row _ _ _ _).trans rfl

theorem cb1 (a : Bool) (disp22 : BitVec 22) : Statement (.cb1 a disp22) := (branch_row _ _ _ _).trans rfl

theorem cb23 (a : Bool) (disp22 : BitVec 22) : Statement (.cb23 a disp22) := (branch_row _ _ _ _).trans rfl

theorem cb2 (a : Bool) (disp22 : BitVec 22) : Statement (.cb2 a disp22) := (branch_row _ _ _ _).trans rfl

theorem cb3 (a : Bool) (disp22 : BitVec 22) : Statement (.cb3 a disp22) := (branch_row _ _ _ _).trans rfl

theorem cba (a : Bool) (disp22 : BitVec 22) : Statement (.cba a disp22) := (branch_row _ _ _ _).trans rfl

theorem cb0 (a : Bool) (disp22 : BitVec 22) : Statement (.cb0 a disp22) := (branch_row _ _ _ _).trans rfl

theorem cb03 (a : Bool) (disp22 : BitVec 22) : Statement (.cb03 a disp22) := (branch_row _ _ _ _).trans rfl

theorem cb02 (a : Bool) (disp22 : BitVec 22) : Statement (.cb02 a disp22) := (branch_row _ _ _ _).trans rfl

theorem cb023 (a : Bool) (disp22 : BitVec 22) : Statement (.cb023 a disp22) := (branch_row _ _ _ _).trans rfl

theorem cb01 (a : Bool) (disp22 : BitVec 22) : Statement (.cb01 a disp22) := (branch_row _ _ _ _).trans rfl

theorem cb013 (a : Bool) (disp22 : BitVec 22) : Statement (.cb013 a disp22) := (branch_row _ _ _ _).trans rfl

theorem cb012 (a : Bool) (disp22 : BitVec 22) : Statement (.cb012 a disp22) := (branch_row _ _ _ _).trans rfl

theorem call (disp30 : BitVec 30) : Statement (.call disp30) := call_row _

theorem jmpl (rd rs1 : RegNum) (op2 : Operand2) : Statement (.jmpl rd rs1 op2) := (format3_row _ _ _ _ _).trans rfl

theorem rett (rs1 : RegNum) (op2 : Operand2) : Statement (.rett rs1 op2) := (format3_row _ _ _ _ _).trans rfl

theorem tn (rs1 : RegNum) (opn : TrapOperand) : Statement (.tn rs1 opn) := (ticc_row _ _ _).trans rfl

theorem te (rs1 : RegNum) (opn : TrapOperand) : Statement (.te rs1 opn) := (ticc_row _ _ _).trans rfl

theorem tle (rs1 : RegNum) (opn : TrapOperand) : Statement (.tle rs1 opn) := (ticc_row _ _ _).trans rfl

theorem tl (rs1 : RegNum) (opn : TrapOperand) : Statement (.tl rs1 opn) := (ticc_row _ _ _).trans rfl

theorem tleu (rs1 : RegNum) (opn : TrapOperand) : Statement (.tleu rs1 opn) := (ticc_row _ _ _).trans rfl

theorem tcs (rs1 : RegNum) (opn : TrapOperand) : Statement (.tcs rs1 opn) := (ticc_row _ _ _).trans rfl

theorem tneg (rs1 : RegNum) (opn : TrapOperand) : Statement (.tneg rs1 opn) := (ticc_row _ _ _).trans rfl

theorem tvs (rs1 : RegNum) (opn : TrapOperand) : Statement (.tvs rs1 opn) := (ticc_row _ _ _).trans rfl

theorem ta (rs1 : RegNum) (opn : TrapOperand) : Statement (.ta rs1 opn) := (ticc_row _ _ _).trans rfl

theorem tne (rs1 : RegNum) (opn : TrapOperand) : Statement (.tne rs1 opn) := (ticc_row _ _ _).trans rfl

theorem tg (rs1 : RegNum) (opn : TrapOperand) : Statement (.tg rs1 opn) := (ticc_row _ _ _).trans rfl

theorem tge (rs1 : RegNum) (opn : TrapOperand) : Statement (.tge rs1 opn) := (ticc_row _ _ _).trans rfl

theorem tgu (rs1 : RegNum) (opn : TrapOperand) : Statement (.tgu rs1 opn) := (ticc_row _ _ _).trans rfl

theorem tcc (rs1 : RegNum) (opn : TrapOperand) : Statement (.tcc rs1 opn) := (ticc_row _ _ _).trans rfl

theorem tpos (rs1 : RegNum) (opn : TrapOperand) : Statement (.tpos rs1 opn) := (ticc_row _ _ _).trans rfl

theorem tvc (rs1 : RegNum) (opn : TrapOperand) : Statement (.tvc rs1 opn) := (ticc_row _ _ _).trans rfl

theorem stbar : Statement (.stbar) := by unfold Statement; decide

theorem rdy (rd : RegNum) : Statement (.rdy rd) := rdy_row _

theorem rdasr (rd rs1 : RegNum) : Statement (.rdasr rd rs1) := (format3_row _ _ _ _ _).trans rfl

theorem rdpsr (rd : RegNum) : Statement (.rdpsr rd) := (format3_row _ _ _ _ _).trans rfl

theorem rdwim (rd : RegNum) : Statement (.rdwim rd) := (format3_row _ _ _ _ _).trans rfl

theorem rdtbr (rd : RegNum) : Statement (.rdtbr rd) := (format3_row _ _ _ _ _).trans rfl

theorem wry (rs1 : RegNum) (op2 : Operand2) : Statement (.wry rs1 op2) := wry_row _ _

theorem wrasr (rd rs1 : RegNum) (op2 : Operand2) : Statement (.wrasr rd rs1 op2) := (format3_row _ _ _ _ _).trans rfl

theorem wrpsr (rs1 : RegNum) (op2 : Operand2) : Statement (.wrpsr rs1 op2) := (format3_row _ _ _ _ _).trans rfl

theorem wrwim (rs1 : RegNum) (op2 : Operand2) : Statement (.wrwim rs1 op2) := (format3_row _ _ _ _ _).trans rfl

theorem wrtbr (rs1 : RegNum) (op2 : Operand2) : Statement (.wrtbr rs1 op2) := (format3_row _ _ _ _ _).trans rfl

theorem flush (rs1 : RegNum) (op2 : Operand2) : Statement (.flush rs1 op2) := (format3_row _ _ _ _ _).trans rfl

theorem fitos (rd rs2 : RegNum) : Statement (.fitos rd rs2) := (fpop_row _ _ _ _ _ _).trans rfl

theorem fitod (rd rs2 : RegNum) : Statement (.fitod rd rs2) := (fpop_row _ _ _ _ _ _).trans rfl

theorem fitoq (rd rs2 : RegNum) : Statement (.fitoq rd rs2) := (fpop_row _ _ _ _ _ _).trans rfl

theorem fstoi (rd rs2 : RegNum) : Statement (.fstoi rd rs2) := (fpop_row _ _ _ _ _ _).trans rfl

theorem fdtoi (rd rs2 : RegNum) : Statement (.fdtoi rd rs2) := (fpop_row _ _ _ _ _ _).trans rfl

theorem fqtoi (rd rs2 : RegNum) : Statement (.fqtoi rd rs2) := (fpop_row _ _ _ _ _ _).trans rfl

theorem fstod (rd rs2 : RegNum) : Statement (.fstod rd rs2) := (fpop_row _ _ _ _ _ _).trans rfl

theorem fstoq (rd rs2 : RegNum) : Statement (.fstoq rd rs2) := (fpop_row _ _ _ _ _ _).trans rfl

theorem fdtos (rd rs2 : RegNum) : Statement (.fdtos rd rs2) := (fpop_row _ _ _ _ _ _).trans rfl

theorem fdtoq (rd rs2 : RegNum) : Statement (.fdtoq rd rs2) := (fpop_row _ _ _ _ _ _).trans rfl

theorem fqtos (rd rs2 : RegNum) : Statement (.fqtos rd rs2) := (fpop_row _ _ _ _ _ _).trans rfl

theorem fqtod (rd rs2 : RegNum) : Statement (.fqtod rd rs2) := (fpop_row _ _ _ _ _ _).trans rfl

theorem fmovs (rd rs2 : RegNum) : Statement (.fmovs rd rs2) := (fpop_row _ _ _ _ _ _).trans rfl

theorem fnegs (rd rs2 : RegNum) : Statement (.fnegs rd rs2) := (fpop_row _ _ _ _ _ _).trans rfl

theorem fabss (rd rs2 : RegNum) : Statement (.fabss rd rs2) := (fpop_row _ _ _ _ _ _).trans rfl

theorem fsqrts (rd rs2 : RegNum) : Statement (.fsqrts rd rs2) := (fpop_row _ _ _ _ _ _).trans rfl

theorem fsqrtd (rd rs2 : RegNum) : Statement (.fsqrtd rd rs2) := (fpop_row _ _ _ _ _ _).trans rfl

theorem fsqrtq (rd rs2 : RegNum) : Statement (.fsqrtq rd rs2) := (fpop_row _ _ _ _ _ _).trans rfl

theorem fadds (rd rs1 rs2 : RegNum) : Statement (.fadds rd rs1 rs2) := (fpop_row _ _ _ _ _ _).trans rfl

theorem faddd (rd rs1 rs2 : RegNum) : Statement (.faddd rd rs1 rs2) := (fpop_row _ _ _ _ _ _).trans rfl

theorem faddq (rd rs1 rs2 : RegNum) : Statement (.faddq rd rs1 rs2) := (fpop_row _ _ _ _ _ _).trans rfl

theorem fsubs (rd rs1 rs2 : RegNum) : Statement (.fsubs rd rs1 rs2) := (fpop_row _ _ _ _ _ _).trans rfl

theorem fsubd (rd rs1 rs2 : RegNum) : Statement (.fsubd rd rs1 rs2) := (fpop_row _ _ _ _ _ _).trans rfl

theorem fsubq (rd rs1 rs2 : RegNum) : Statement (.fsubq rd rs1 rs2) := (fpop_row _ _ _ _ _ _).trans rfl

theorem fmuls (rd rs1 rs2 : RegNum) : Statement (.fmuls rd rs1 rs2) := (fpop_row _ _ _ _ _ _).trans rfl

theorem fmuld (rd rs1 rs2 : RegNum) : Statement (.fmuld rd rs1 rs2) := (fpop_row _ _ _ _ _ _).trans rfl

theorem fmulq (rd rs1 rs2 : RegNum) : Statement (.fmulq rd rs1 rs2) := (fpop_row _ _ _ _ _ _).trans rfl

theorem fsmuld (rd rs1 rs2 : RegNum) : Statement (.fsmuld rd rs1 rs2) := (fpop_row _ _ _ _ _ _).trans rfl

theorem fdmulq (rd rs1 rs2 : RegNum) : Statement (.fdmulq rd rs1 rs2) := (fpop_row _ _ _ _ _ _).trans rfl

theorem fdivs (rd rs1 rs2 : RegNum) : Statement (.fdivs rd rs1 rs2) := (fpop_row _ _ _ _ _ _).trans rfl

theorem fdivd (rd rs1 rs2 : RegNum) : Statement (.fdivd rd rs1 rs2) := (fpop_row _ _ _ _ _ _).trans rfl

theorem fdivq (rd rs1 rs2 : RegNum) : Statement (.fdivq rd rs1 rs2) := (fpop_row _ _ _ _ _ _).trans rfl

theorem fcmps (rs1 rs2 : RegNum) : Statement (.fcmps rs1 rs2) := (fpop_row _ _ _ _ _ _).trans rfl

theorem fcmpd (rs1 rs2 : RegNum) : Statement (.fcmpd rs1 rs2) := (fpop_row _ _ _ _ _ _).trans rfl

theorem fcmpq (rs1 rs2 : RegNum) : Statement (.fcmpq rs1 rs2) := (fpop_row _ _ _ _ _ _).trans rfl

theorem fcmpes (rs1 rs2 : RegNum) : Statement (.fcmpes rs1 rs2) := (fpop_row _ _ _ _ _ _).trans rfl

theorem fcmped (rs1 rs2 : RegNum) : Statement (.fcmped rs1 rs2) := (fpop_row _ _ _ _ _ _).trans rfl

theorem fcmpeq (rs1 rs2 : RegNum) : Statement (.fcmpeq rs1 rs2) := (fpop_row _ _ _ _ _ _).trans rfl

theorem fpop1Unassigned (rd rs1 : RegNum) (opf : BitVec 9) (rs2 : RegNum) : Statement (.fpop1Unassigned rd rs1 opf rs2) := (format3_row _ _ _ _ _).trans rfl

theorem fpop2Unassigned (rd rs1 : RegNum) (opf : BitVec 9) (rs2 : RegNum) : Statement (.fpop2Unassigned rd rs1 opf rs2) := (format3_row _ _ _ _ _).trans rfl

theorem cpop1 (rd rs1 : RegNum) (opc : BitVec 9) (rs2 : RegNum) : Statement (.cpop1 rd rs1 opc rs2) := (format3_row _ _ _ _ _).trans rfl

theorem cpop2 (rd rs1 : RegNum) (opc : BitVec 9) (rs2 : RegNum) : Statement (.cpop2 rd rs1 opc rs2) := (format3_row _ _ _ _ _).trans rfl

end Sys2Proof.Laws.EncodeTable
end

