-- ==== Sys2Proof/Laws/Units.lean ====
section
/-! SUPPORT. When the floating-point unit and the coprocessor go on with an instruction, and how an FPop ends. -/

namespace Sys2Proof.Machine

set_option maxRecDepth 4000

/-- A ready FPU goes on (R323). -/
theorem State.fpReady_ready {s : State} (h : s.fpuReady) (k) : s.fpReady k = k s := by
  unfold State.fpReady
  rcases h.2 with h | h <;> rw [h] <;> simp

/-- What the FPU's check does with an FBfcc or a floating-point load, in each of its states (R107, R323, R477, R553). -/
theorem State.fpReady_cases (s : State) (k) :
    s.fpReady k =
      if s.cfg.fpTrapsDeferred = false ∨ s.fpuMode = .execute then k s
      else if s.fpuMode = .exceptionPending then takePendingFp s
      else if s.cfg.fpSequenceErrorAtOnce then takePendingFp s.sequenceError
      else s.sequenceError.advance := by
  unfold State.fpReady fpLoadSequenceError
  cases s.cfg.fpTrapsDeferred <;> cases s.fpuMode <;> simp

/-- A ready FPU accepts stores. -/
theorem State.fpuReady.stores {s : State} (h : s.fpuReady) : s.fpuStores :=
  ⟨h.1, h.2.imp_right fun h => by rw [h]; decide⟩

/-- An FPU that accepts stores goes on with one (R325). -/
theorem State.fpStoreReady_ready {s : State} (h : s.fpuStores) (k) : s.fpStoreReady k = k s := by
  unfold State.fpStoreReady
  rw [if_neg]
  rcases h.2 with h | h
  · rw [h]; simp
  · simp [h]

/-- A ready FPU goes on (R553). -/
theorem State.fpopReady_ready {s : State} (h : s.fpuReady) (k) : s.fpopReady k = k s := by
  unfold State.fpopReady
  rw [if_pos h.1]
  rcases h.2 with h | h <;> rw [h] <;> simp

/-- The checks of a floating-point load, passed (R323). -/
theorem fpLoad_ready {s : State} {sz b a k} (h : s.fpuReady) (ha : AccessSize.aligned sz a = true) (hb : s.cfg.fpMisalignedRegTraps = false ∨ b = false) : fpLoad sz b a k s = k s := by
  unfold fpLoad
  rw [if_pos h.1, State.ifAligned_aligned ha, if_neg (by rcases hb with hb | hb <;> rw [hb] <;> simp), State.fpReady_ready h]

/-- The checks of a floating-point store, passed (R325). -/
theorem fpStore_ready {s : State} {sz b a k} (h : s.fpuStores) (ha : AccessSize.aligned sz a = true) (hb : s.cfg.fpMisalignedRegTraps = false ∨ b = false) : fpStore sz b a k s = k s := by
  unfold fpStore
  rw [if_pos h.1, State.ifAligned_aligned ha, State.fpStoreReady_ready h, if_neg (by rcases hb with hb | hb <;> rw [hb] <;> simp)]

theorem State.freg_congr {s t : State} (h : t.f = s.f) (n) : t.freg n = s.freg n := by unfold State.freg; simp only [h]

/-- No enabled exception: the results are written (R553 step 7). -/
theorem fpComplete_untrapped {s : State} {x : BitVec 5} {w} (h : x &&& s.fsr.tem = 0#5) : fpComplete x w s = (w (s.completeFsr x)).advance := by
  unfold fpComplete; rw [h]; rfl

/-- An accepted FPop that finishes (R553). -/
theorem fpopBody_accepted {name mis a b texc w} {s : State} (h1 : s.cfg.unimplSet.contains name = false) (h2 : (s.cfg.fpMisalignedRegTraps && mis) = false) (h3 : s.unfinished name a b texc = false) :
   fpopBody name mis a b texc w s = fpComplete texc w s := by
  unfold fpopBody; rw [h1, h2, h3]; rfl

/-- The bit cexc receives is the highest of those raised (R103). -/
theorem highestBit_spec : ∀ y : BitVec 5, y ≠ 0#5 → highestBit y ∈ [0x10#5, 0x08#5, 0x04#5, 0x02#5, 0x01#5] ∧ highestBit y &&& y = highestBit y ∧ ∀ z : BitVec 5, z &&& y = z → z.toNat < 2 * (highestBit y).toNat := by decide

/-- A doubleword is its two words. -/
theorem twoWords (x : BitVec 64) : (x.extractLsb' 32 32 ++ x.extractLsb' 0 32 : BitVec 64) = x := by
  apply BitVec.eq_of_getLsbD_eq
  intro i hi
  simp only [BitVec.getLsbD_append, BitVec.getLsbD_extractLsb']
  split
  · rename_i h; simp [h]
  · rename_i h; simp [show i - 32 < 32 by omega, show 32 + (i - 32) = i by omega]

/-- A quadword is its four words. -/
theorem fourWords (x : BitVec 128) :
    (x.extractLsb' 96 32 ++ x.extractLsb' 64 32 ++ x.extractLsb' 32 32 ++ x.extractLsb' 0 32 : BitVec 128) = x := by
  apply BitVec.eq_of_getLsbD_eq
  intro i hi
  simp only [BitVec.getLsbD_append, BitVec.getLsbD_extractLsb']
  split
  · rename_i h; simp [h]
  · split
    · rename_i h h'; simp [h', show 32 + (i - 32) = i by omega]
    · split
      · rename_i h h' h''; simp [h'', show 64 + (i - 32 - 32) = i by omega]
      · simp [show i - 32 - 32 - 32 < 32 by omega, show 96 + (i - 32 - 32 - 32) = i by omega]

/-- What a write of S(k), D(k) or Q(k) does (R83, R84). -/
theorem State.setFp_spec (s : State) (t : Fmt) (k : RegNum) (v : Nat) : (s.setFp t k v).fpOperand t k = v % 2 ^ t.width ∧ (∀ n, ¬ t.holds k n → (s.setFp t k v).freg n = s.freg n) ∧ s.setFp t k v = { s with f := (s.setFp t k v).f } := by
  cases t
  · refine ⟨?_, fun n hn => State.freg_setFreg_ne _ _ hn, rfl⟩
    show ((s.setFreg k _).freg k).toNat = _
    rw [State.freg_setFreg_same]; simp [Fmt.width, Fmt.expBits, Fmt.fracBits]
  · refine ⟨?_, ?_, rfl⟩
    · show ((s.setFdouble k _).fdouble k).toNat = _
      unfold State.setFdouble State.fdouble
      rw [State.freg_setFreg_same, State.freg_setFreg_ne _ _ (evenReg_ne_oddReg k), State.freg_setFreg_same]
      rw [twoWords]; simp [Fmt.width, Fmt.expBits, Fmt.fracBits]
    · intro n hn
      have ee : ∀ k : RegNum, evenReg (evenReg k) = evenReg k ∧ evenReg (oddReg k) = evenReg k := by decide
      have e1 : n ≠ evenReg k := by
        rintro rfl; exact hn (ee k).1
      have e2 : n ≠ oddReg k := by
        rintro rfl; exact hn (ee k).2
      exact (State.freg_setFreg_ne _ _ e2).trans (State.freg_setFreg_ne _ _ e1)
  · have q : ∀ k : RegNum, quadReg k ≠ quadReg k + 1#5 ∧ quadReg k ≠ quadReg k + 2#5 ∧ quadReg k ≠ quadReg k + 3#5 ∧ quadReg k + 1#5 ≠ quadReg k + 2#5 ∧ quadReg k + 1#5 ≠ quadReg k + 3#5 ∧ quadReg k + 2#5 ≠ quadReg k + 3#5 ∧ quadReg (quadReg k) = quadReg k ∧ quadReg (quadReg k + 1#5) = quadReg k ∧ quadReg (quadReg k + 2#5) = quadReg k ∧ quadReg (quadReg k + 3#5) = quadReg k := by decide
    obtain ⟨q1, q2, q3, q4, q5, q6, q7, q8, q9, q10⟩ := q k
    refine ⟨?_, ?_, by unfold State.setFp State.setFquad State.setFreg; rfl⟩
    · show ((s.setFquad k _).fquad k).toNat = _
      unfold State.setFquad State.fquad
      simp only [State.freg_setFreg_same, State.freg_setFreg_ne _ _ q1, State.freg_setFreg_ne _ _ q2, State.freg_setFreg_ne _ _ q3, State.freg_setFreg_ne _ _ q4, State.freg_setFreg_ne _ _ q5, State.freg_setFreg_ne _ _ q6]
      rw [fourWords]; simp [Fmt.width, Fmt.expBits, Fmt.fracBits]
    · intro n hn
      have e1 : n ≠ quadReg k := by rintro rfl; exact hn q7
      have e2 : n ≠ quadReg k + 1#5 := by rintro rfl; exact hn q8
      have e3 : n ≠ quadReg k + 2#5 := by rintro rfl; exact hn q9
      have e4 : n ≠ quadReg k + 3#5 := by rintro rfl; exact hn q10
      exact (State.freg_setFreg_ne _ _ e4).trans ((State.freg_setFreg_ne _ _ e3).trans ((State.freg_setFreg_ne _ _ e2).trans (State.freg_setFreg_ne _ _ e1)))

/-- A coprocessor with nothing outstanding goes on (R634). -/
theorem State.cpReady_ready {s : State} (h : s.cpAccepts) (k) : s.cpReady k = k s := by
  unfold State.cpReady; rw [h.2]; rfl

/-- The checks of a coprocessor load, passed (R347). -/
theorem cpLoad_ready {s : State} {sz a k} (h : s.cpAccepts) (hq : s.cfg.cpExceptionsPossible = false ∨ Config.cpSequenceError s.cp.state = false) (ha : AccessSize.aligned sz a = true) : cpLoad sz a k s = k s := by
  unfold cpLoad
  rw [if_pos h.1, State.ifAligned_aligned ha, State.cpReady_ready h]; unfold State.cpSequenceError; rcases hq with h | h <;> rw [h] <;> simp

/-- The checks of a coprocessor store, passed (R366). -/
theorem cpStore_ready {s : State} {sz a k} (h : s.cpAccepts) (ha : AccessSize.aligned sz a = true) : cpStore sz a k s = k s := by
  unfold cpStore
  rw [if_pos h.1, State.ifAligned_aligned ha, State.cpReady_ready h]

end Sys2Proof.Machine
end

