-- ==== Sys2Proof/Tests/Slice0.lean ====
section
/-! SUPPORT. Tests: the words and results of spec/95_test_vectors.md and of the encoding rules, one step each; the checks of
WellFormed; and, for each obligation with hypotheses, a witness that they can be met. -/

namespace Sys2Proof.Tests

open Sys2Proof.Machine

set_option maxRecDepth 8000

/-! WellFormed: one ill-formed term for each check, and its well-formed neighbour. -/

/-- sethi 0, %g0 is NOP (R282). -/
theorem test_wellFormed_sethi : (Instr.sethi 0#5 0#22).wellFormed = false ∧ (Instr.sethi 0#5 1#22).wellFormed = true := by
  decide

/-- RDASR with rs1 = 0 is RDY (R282). -/
theorem test_wellFormed_rdasr_zero : (Instr.rdasr 8#5 0#5).wellFormed = false ∧ (Instr.rdasr 8#5 1#5).wellFormed = true := by
  decide

/-- RDASR with rs1 = 15 and rd = 0 is STBAR (R282). -/
theorem test_wellFormed_rdasr_fifteen :
    (Instr.rdasr 0#5 15#5).wellFormed = false ∧ (Instr.rdasr 8#5 15#5).wellFormed = true := by
  decide

/-- WRASR with rd = 0 is WRY (R282). -/
theorem test_wellFormed_wrasr :
    (Instr.wrasr 0#5 1#5 (.imm 0#13)).wellFormed = false ∧ (Instr.wrasr 1#5 1#5 (.imm 0#13)).wellFormed = true := by
  decide

/-- An FPop1 with an assigned opf is the instruction of that opf (R280): 0x041 is FADDs. -/
theorem test_wellFormed_fpop1 :
    (Instr.fpop1Unassigned 0#5 0#5 0x041#9 0#5).wellFormed = false ∧
    (Instr.fpop1Unassigned 0#5 0#5 0x000#9 0#5).wellFormed = true := by
  decide

/-- An FPop2 with an assigned opf is the instruction of that opf (R280): 0x051 is FCMPs. -/
theorem test_wellFormed_fpop2 :
    (Instr.fpop2Unassigned 0#5 0#5 0x051#9 0#5).wellFormed = false ∧
    (Instr.fpop2Unassigned 0#5 0#5 0x000#9 0#5).wellFormed = true := by
  decide

/-! Decoding: words of section 2.1 and of the instructions' own rules. -/

theorem test_decode_unimp : decode 0x3E3FFFFF#32 = .ok (.unimp 0x3FFFFF#22) := by decide

theorem test_decode_unassigned_op2 : ∀ i, decode 0x00400000#32 ≠ .ok i := by
  intro i h
  exact absurd h (by rw [show decode 0x00400000#32 = .error .unassignedOp2 from by decide]; exact fun h => nomatch h)

/-- R280: op = 2 with op3 0x2C, op = 3 with op3 0x08, are unassigned. -/
theorem test_decode_unassigned_op3 :
    (∀ i, decode 0x81600000#32 ≠ .ok i) ∧ ∀ i, decode 0xC0400000#32 ≠ .ok i := by
  constructor <;> intro i h <;> cases h

/-- R310, R311: words of synthetic instructions as Table A-1 and the examples list them. -/
theorem test_synthetic_words :
    (Synthetic.set 0x12345678#32 8#5).expand.map Instr.encode = [0x11048D15#32, 0x90122278#32] ∧
    (Synthetic.set 0xFFFFFFFF#32 8#5).expand.map Instr.encode = [0x90103FFF#32] ∧
    (Synthetic.set 0x40000000#32 8#5).expand.map Instr.encode = [0x11100000#32] ∧
    (Synthetic.cmp 8#5 (.imm 5#13)).expand.map Instr.encode = [0x80A22005#32] ∧
    Synthetic.ret.expand.map Instr.encode = [0x81C7E008#32] ∧
    (Synthetic.call (.reg 8#5)).expand.map Instr.encode = [0x9FC20000#32] ∧
    (Synthetic.negTo 8#5 9#5).expand.map Instr.encode = [0x92200008#32] ∧
    (Synthetic.movToPsr (.reg 8#5)).expand.map Instr.encode = [0x81880008#32] ∧
    (Synthetic.movFromAsr 14 0#5).expand = [.stbar] ∧ (Synthetic.movFromAsr 14 0#5).expand.map Instr.encode = [0x8143C000#32] ∧
    (Synthetic.movFromAsr 0 9#5).expand.map Instr.encode = [0x93404000#32] := by decide

theorem test_decode_stbar_ignores_low_bits : decode 0x8143FFFF#32 = .ok .stbar := by decide

theorem test_decode_reserved_rdasr : decode 0x9143C000#32 = .ok (.rdasr 8#5 15#5) := by decide

theorem test_decode_cpop2 : decode 0x87B84022#32 = .ok (.cpop2 3#5 1#5 1#9 2#5) := by decide

theorem test_decode_fsmuld : decode 0x91A50D35#32 = .ok (.fsmuld 8#5 20#5 21#5) := by decide

theorem test_decode_ticc_immediate : decode 0x91D0207F#32 = .ok (.ta 0#5 (.imm 0x7F#7)) := by decide

theorem test_decode_fbfcc : decode 0x33800008#32 = .ok (.fbe true 8#22) := by decide

/-- decodeTableWord reads the table's numbering: the whole word, bit 31 the first of op. -/
theorem test_decodeTableWord : decodeTableWord 32 0x94820009 = some (.addcc 10#5 8#5 (.reg 9#5)) := by decide

/-! One step, in the harness of section 0. -/

/-- The harness. -/
def harness : State :=
  { State.reset with
    pc := 0x1000#32, npc := 0x1004#32, tba := 4#20
    psr := { State.reset.psr with s := true, et := true, cwp := 3#5 } }

/-- The harness with %o0 and %o1. -/
def inputs (a b : Word) : State := (harness.setReg 8#5 a).setReg 9#5 b

/-- Condition codes. -/
def withIcc (s : State) (i : Icc) : State := { s with psr := { s.psr with icc := i } }

/-- A step on the word placed at the fetch address answers a next state of which `p` holds. -/
def runs (s : State) (w : Nat) (p : State → Bool) : Bool :=
  match step (s.withFetchWord 32 w) with
  | .next t => p t
  | _ => false

/-- The program counters advanced. -/
def moved (t : State) : Bool := t.pc == 0x1004#32 && t.npc == 0x1008#32

/-- A trap was taken in the harness, as section 0 describes it. -/
def trapped (t : State) (tt : BitVec 8) : Bool :=
  t.tt == tt && t.pc == (4#20 ++ tt ++ 0#4 : Word) && t.npc == t.pc + 4#32 && !t.psr.et && t.psr.s && t.psr.cwp == 2#5 &&
    t.reg 17#5 == 0x1000#32 && t.reg 18#5 == 0x1004#32

/-- A word at an address of the flat memory. -/
def put (s : State) (a : Nat) (w : Word) : State := { s with mem := Memory.writeMasked s.mem a 0xF#4 w }

theorem test_andcc : runs (withIcc (inputs 0xF0F0A5A5#32 0xFF00FFFF#32) ⟨false, false, true, true⟩) 0x948A0009
    (fun t => t.reg 10#5 == 0xF000A5A5#32 && t.psr.icc == ⟨true, false, false, false⟩ && moved t) = true := by decide

theorem test_orn : runs (withIcc (inputs 0xF0F0A5A5#32 0xFF00FFFF#32) ⟨false, false, true, true⟩) 0x94320009
    (fun t => t.reg 10#5 == 0xF0FFA5A5#32 && t.psr.icc == ⟨false, false, true, true⟩) = true := by decide

theorem test_xor_negative_immediate :
    runs (inputs 0xFFF#32 0#32) 0x941A3000 (fun t => t.reg 10#5 == 0xFFFFFFFF#32) = true := by decide

theorem test_xnorcc_discards_into_g0 : runs (inputs 0x12345678#32 0xEDCBA987#32) 0x80BA0009
    (fun t => t.reg 0#5 == 0#32 && t.psr.icc == ⟨false, true, false, false⟩) = true := by decide

theorem test_sll_count_modulo : runs (inputs 0x80000001#32 0xFFFFFFE4#32) 0x952A0009
    (fun t => t.reg 10#5 == 0x10#32) = true := by decide

theorem test_sra_by_31 : runs (inputs 0x80000001#32 0x1F#32) 0x953A0009
    (fun t => t.reg 10#5 == 0xFFFFFFFF#32) = true := by decide

theorem test_sethi : runs (inputs 0#32 0#32) 0x15048D15 (fun t => t.reg 10#5 == 0x12345400#32) = true := by decide

theorem test_addcc_overflow : runs (inputs 0x80000000#32 0xFFFFFFFF#32) 0x94820009
    (fun t => t.reg 10#5 == 0x7FFFFFFF#32 && t.psr.icc == ⟨false, false, true, true⟩) = true := by decide

theorem test_addxcc_carries : runs (withIcc (inputs 0xFFFFFFFF#32 0#32) ⟨false, false, false, true⟩) 0x94C20009
    (fun t => t.reg 10#5 == 0#32 && t.psr.icc == ⟨false, true, false, true⟩) = true := by decide

theorem test_subcc_borrows : runs (inputs 0#32 0x80000000#32) 0x94A20009
    (fun t => t.reg 10#5 == 0x80000000#32 && t.psr.icc == ⟨true, false, true, true⟩) = true := by decide

theorem test_taddcc_tag : runs (inputs 8#32 5#32) 0x95020009
    (fun t => t.reg 10#5 == 0xD#32 && t.psr.icc == ⟨false, false, true, false⟩) = true := by decide

theorem test_tsubcctv_traps : runs (inputs 0x80000000#32 4#32) 0x951A0009
    (fun t => trapped t 0x0A#8 && t.regIn 3#5 10#5 == 0#32) = true := by decide

theorem test_mulscc : runs { withIcc (inputs 6#32 0x80000000#32) ⟨true, false, false, false⟩ with y := 1#32 } 0x95220009
    (fun t => t.reg 10#5 == 3#32 && t.psr.icc == ⟨false, false, true, true⟩ && t.y == 0#32) = true := by decide

theorem test_umulcc : runs (inputs 0x80000000#32 2#32) 0x94D20009
    (fun t => t.reg 10#5 == 0#32 && t.y == 1#32 && t.psr.icc == ⟨false, true, false, false⟩) = true := by decide

theorem test_smul_negative : runs (inputs 0xFFFFFFFE#32 3#32) 0x945A0009
    (fun t => t.reg 10#5 == 0xFFFFFFFA#32 && t.y == 0xFFFFFFFF#32) = true := by decide

theorem test_udivcc_overflow : runs { inputs 0x80000000#32 1#32 with y := 0xFFFFFFFF#32 } 0x94F20009
    (fun t => t.reg 10#5 == 0xFFFFFFFF#32 && t.psr.icc == ⟨true, false, true, false⟩) = true := by decide

/-- The manual's "-3 / 2 equals -1" (E6). -/
theorem test_sdivcc_rounds_toward_zero : runs { inputs 0xFFFFFFFD#32 2#32 with y := 0xFFFFFFFF#32 } 0x94FA0009
    (fun t => t.reg 10#5 == 0xFFFFFFFF#32 && t.psr.icc == ⟨true, false, false, false⟩) = true := by decide

theorem test_sdiv_by_zero : runs (inputs 5#32 0#32) 0x947A0009 (fun t => trapped t 0x2A#8) = true := by decide

theorem test_save : runs (inputs 0x100#32 0xFFFFFFA0#32) 0x95E20009
    (fun t => t.psr.cwp == 2#5 && t.reg 10#5 == 0xA0#32 && t.reg 24#5 == 0x100#32 && t.reg 25#5 == 0xFFFFFFA0#32) = true := by
  decide

theorem test_save_overflow : runs { inputs 1#32 2#32 with wim := 4#32 } 0x95E20009 (fun t => trapped t 0x05#8) = true := by
  decide

theorem test_restore : runs { inputs 5#32 6#32 with wim := 8#32 } 0x95EA0009
    (fun t => t.psr.cwp == 4#5 && t.reg 10#5 == 0xB#32) = true := by decide

/-- The memory of section 2.10. -/
def stocked (a b : Word) : State :=
  put (put (put (put (((inputs a b).setReg 10#5 0x11223344#32).setReg 11#5 0x55667788#32) 0x2000 0x81828384#32) 0x2004
    0x00FF7F80#32) 0x2008 0xCAFEBABE#32) 0x200C 0x0BADF00D#32

theorem test_ldsb : runs (stocked 0x2004#32 3#32) 0xD44A0009 (fun t => t.reg 10#5 == 0xFFFFFF80#32) = true := by decide

theorem test_lduh_misaligned : runs (stocked 0x2000#32 1#32) 0xD4120009 (fun t => trapped t 0x07#8) = true := by decide

theorem test_ldd_odd_rd : runs (stocked 0x2008#32 0#32) 0xD61A0009
    (fun t => t.reg 10#5 == 0xCAFEBABE#32 && t.reg 11#5 == 0x0BADF00D#32) = true := by decide

theorem test_stb : runs (stocked 0x2000#32 2#32) 0xD42A0009
    (fun t => Memory.readWord t.mem 0x2000 == 0x81824484#32 && Memory.wf t.mem) = true := by decide

theorem test_std : runs (stocked 0x2008#32 0#32) 0xD43A0009
    (fun t => Memory.readWord t.mem 0x2008 == 0x11223344#32 && Memory.readWord t.mem 0x200C == 0x55667788#32) = true := by
  decide

theorem test_ldstub : runs (stocked 0x2000#32 3#32) 0xD46A0009
    (fun t => t.reg 10#5 == 0x84#32 && Memory.readWord t.mem 0x2000 == 0x818283FF#32) = true := by decide

theorem test_swap : runs (stocked 0x2008#32 0#32) 0xD47A0009
    (fun t => t.reg 10#5 == 0xCAFEBABE#32 && Memory.readWord t.mem 0x2008 == 0x11223344#32 && !t.pbBlockWord) = true := by
  decide

theorem test_lda_privileged_first : runs { stocked 0x2002#32 0#32 with psr := { harness.psr with s := false } } 0xD4820140
    (fun t => t.tt == 0x03#8) = true := by decide

theorem test_lda_unmapped_space : runs (stocked 0x2000#32 0#32) 0xD4820400 (fun t => trapped t 0x09#8) = true := by decide

theorem test_bne_annuls_untaken : runs (withIcc harness ⟨false, true, false, false⟩) 0x32BFFFFC
    (fun t => moved t && t.annul) = true := by decide

theorem test_ba_annuls : runs harness 0x30800008
    (fun t => t.pc == 0x1004#32 && t.npc == 0x1020#32 && t.annul) = true := by decide

theorem test_bl_backwards : runs (withIcc harness ⟨true, false, false, false⟩) 0x06800040
    (fun t => t.npc == 0x1100#32 && !t.annul) = true := by decide

theorem test_call_backwards : runs harness 0x7FFFFFFE
    (fun t => t.npc == 0xFF8#32 && t.reg 15#5 == 0x1000#32) = true := by decide

theorem test_jmpl : runs (inputs 0x2000#32 8#32) 0x95C20009
    (fun t => t.pc == 0x1004#32 && t.npc == 0x2008#32 && t.reg 10#5 == 0x1000#32) = true := by decide

theorem test_ta_number_wraps : runs (inputs 0x7F#32 2#32) 0x91D20009 (fun t => trapped t 0x81#8) = true := by decide

theorem test_rett_underflow : runs
    { inputs 0x2000#32 0#32 with
      wim := 16#32, psr := { harness.psr with et := false } } 0x81CA0000
    (fun t => t.mode == .error && t.tt == 0x06#8 && t.psr.cwp == 3#5 && t.pbError && t.requests.windowUnderflow && t.trapBit) = true := by
  decide

theorem test_rdpsr : runs
    { harness with psr := { harness.psr with icc := ⟨true, false, false, true⟩, pil := 5#4, ef := true } } 0x95480000
    (fun t => t.reg 10#5 == 0xFE9015A3#32) = true := by decide

theorem test_wrpsr_illegal_window : runs harness 0x81882088 (fun t => trapped t 0x02#8) = true := by decide

theorem test_wrtbr_is_delayed : runs (inputs 0xFFFFFFFF#32 0#32) 0x819A2000
    (fun t => t.tba == 4#20 && t.pending == [⟨3, .tba 0xFFFFF#20⟩]) = true := by decide

theorem test_rdasr_unimplemented : runs harness 0x91444000 (fun t => trapped t 0x02#8) = true := by decide

/-- The harness with the FPU enabled and f4, f6. -/
def fpu (a b : Word) : State :=
  { (harness.setFreg 4#5 a).setFreg 6#5 b with psr := { harness.psr with ef := true } }

/-- fadds of the largest numbers overflows (section 2.17). -/
theorem test_fadds_overflow : runs (fpu 0x7F7FFFFF#32 0x7F7FFFFF#32) 0x85A10826
    (fun t => t.freg 2#5 == 0x7F800000#32 && t.fsrWord == 0x129#32) = true := by decide

theorem test_fmuls_underflow : runs (fpu 0x00800001#32 0x3F000000#32) 0x85A10926
    (fun t => t.freg 2#5 == 0x00400000#32 && t.fsr.cexc == 5#5) = true := by decide

theorem test_fdivs_inexact : runs (fpu 0x3F800000#32 0x40400000#32) 0x85A109A6
    (fun t => t.freg 2#5 == 0x3EAAAAAB#32 && t.fsr.cexc == 1#5) = true := by decide

theorem test_fsqrts : runs (fpu 0#32 0x40000000#32) 0x85A00526
    (fun t => t.freg 2#5 == 0x3FB504F3#32 && t.fsr.cexc == 1#5) = true := by decide

theorem test_fsubs_default_nan : runs (fpu 0x7F800000#32 0x7F800000#32) 0x85A108A6
    (fun t => t.freg 2#5 == 0x7FFFFFFF#32 && t.fsr.cexc == 16#5) = true := by decide

theorem test_fadds_nan_operands : runs (fpu 0x7F800001#32 0xFFC00002#32) 0x85A10826
    (fun t => t.freg 2#5 == 0x7FC00001#32 && t.fsr.cexc == 16#5) = true := by decide

theorem test_fstoi_too_large : runs (fpu 0#32 0x4F000000#32) 0x85A01A26
    (fun t => t.freg 2#5 == 0x7FFFFFFF#32 && t.fsr.cexc == 16#5) = true := by decide

theorem test_fstod_subnormal : runs (fpu 0#32 1#32) 0x85A01926
    (fun t => t.freg 2#5 == 0x36A00000#32 && t.freg 3#5 == 0#32 && t.fsr.cexc == 0#5) = true := by decide

theorem test_fsmuld : runs (fpu 0x3F800001#32 0x3F800001#32) 0x85A10D26
    (fun t => t.freg 2#5 == 0x3FF00000#32 && t.freg 3#5 == 0x40000040#32) = true := by decide

theorem test_fcmps_unordered : runs (fpu 0x7FC00001#32 0x3F800000#32) 0x81A90A26
    (fun t => t.fsr.fcc == 3#2 && t.fsr.cexc == 0#5) = true := by decide

theorem test_fdivs_trap : runs ((fpu 0x3F800000#32 0#32).loadFsr 0x01000000#32) 0x85A109A6
    (fun t => trapped t 0x08#8 && t.fsrWord == 0x01004002#32 && t.freg 2#5 == 0#32) = true := by decide

theorem test_faddd_misaligned : runs (fpu 0#32 0#32) 0x89A04842
    (fun t => trapped t 0x08#8 && t.fsr.ftt == 6#3) = true := by decide

theorem test_cpop_disabled : runs harness 0x81B00000 (fun t => trapped t 0x24#8) = true := by decide

/-- Section 2.19: an interrupt of level 5 with PIL 4 is taken before the instruction. -/
theorem test_interrupt : runs { harness with irl := 5#4, psr := { harness.psr with pil := 4#4 } } 0x01000000
    (fun t => trapped t 0x15#8) = true := by decide

/-- Section 2.19: unimp with ET = 0. -/
theorem test_error_mode : runs { harness with psr := { harness.psr with et := false } } 0x00000000
    (fun t => t.mode == .error && t.pc == 0x1000#32 && t.psr.cwp == 3#5 && t.tt == 0#8) = true := by decide

/-! Witnesses: concrete states and operands that meet the hypotheses of the obligations. Where a statement has clauses of their
own hypotheses, the witness has one conjunct for each. -/

/-- An answer is a next state. -/
def isNext (a : Answer) : Bool :=
  match a with
  | .next _ => true
  | _ => false

theorem exists_next {a : Answer} (h : isNext a = true) : ∃ t, a = .next t := by
  cases a with
  | next t => exact ⟨t, rfl⟩
  | fault _ => cases h
  | refused _ => cases h

theorem pair_of_snd {α β : Type} {p : α × β} {b : β} (h : p.2 = b) : p = (p.1, b) := by rw [← h]

/-- Nothing comes before the next instruction. -/
theorem quiet_of {s : State} (h : s.mode = .execute ∧ s.resetIn = false ∧ s.requests = Requests.none ∧
    (s.psr.et = true → s.irl ≠ 15#4 ∧ s.irl.toNat ≤ s.psr.pil.toNat)) : s.quiet := h

/-- The harness with a configuration. -/
def configured (c : Config) : State := { harness with cfg := c }

/-- A machine whose memory map fails at three ranges, at the second word of the doubleword 0x6000, and for stores only at 0x7000;
at 0x8000 there is a device. -/
def failing : State :=
  configured { Config.reference with
    memMap := [⟨0x3000, 8, .mae, .mae⟩, ⟨0x4000, 8, .accessError, .accessError⟩, ⟨0x5000, 8, .mmuMiss, .mmuMiss⟩,
      ⟨0x6004, 4, .mae, .mae⟩, ⟨0x7000, 4, .ok, .mae⟩, ⟨0x8000, 4, .device, .device⟩] }

/-- The same machine about to fetch at an address. -/
def failingAt (a : Word) : State := { failing with pc := a, npc := a + 4#32 }

/-- A machine with a coprocessor and its queue, enabled. -/
def withCp : State :=
  { configured { Config.reference with hasCp := true, hasCq := true } with psr := { harness.psr with ec := true } }

/-- A machine with the MMU, disabled. -/
def withMmu : State := configured { Config.reference with hasRefMmu := true }

/-- Page tables: context 0 at 0x10000, whose entry is a page table entry of the whole address space, ACC 3. -/
def mapped : State := put { withMmu with mmu := { withMmu.mmu with e := true, ctp := 0x400#30 } } 0x10000 0x0000000E#32

/-- The harness with the FPU enabled. -/
def withFpu : State := { harness with psr := { harness.psr with ef := true } }

/-- An FPU with deferred traps and a queue, in fp_execute. -/
def deferring : State :=
  { withFpu with cfg := { Config.reference with fpTrapsDeferred := true, hasFq := true, fqDepth := 2 } }

/-- The same in fp_exception_pending, and in fp_exception with an entry in the queue. -/
def pendingFault : State := { deferring with fpuMode := .exceptionPending, pendingFp := some 1#64 }

def faulted : State := { deferring with fpuMode := .exception, fq := [1#64] }

/-- In fp_exception, where a load or FBfcc takes a sequence error itself. -/
def atOnce : State := { faulted with cfg := { deferring.cfg with fpSequenceErrorAtOnce := true } }

/-- The harness in user mode. -/
def user : State := { harness with psr := { harness.psr with s := false } }

theorem untranslated_of {s : State} (h : (s.cfg.hasRefMmu && s.mmu.e) = false) : s.untranslated := by
  unfold State.untranslated
  rw [← Bool.and_eq_true, h]
  exact Bool.false_ne_true

theorem not_mmuSpace_of {s : State} {asi : BitVec 8} (h : s.cfg.hasRefMmu = false) : ¬ s.mmuSpace asi := by
  unfold State.mmuSpace
  rw [h]
  exact fun h => Bool.false_ne_true h.1

theorem witness_DecodeAndEncodeAgree :
    (Instr.sethi 10#5 0x3FFFFF#22).wellFormed = true ∧ decode 0x153FFFFF#32 = .ok (.sethi 10#5 0x3FFFFF#22) := by decide

theorem witness_UnassignedWordsAreIllegal :
    (fieldOp 0x01400000#32 = 0#2 ∧ fieldOp2 0x01400000#32 ∈ [1#3, 3#3, 5#3]) ∧
    (fieldOp 0x81600000#32 = 2#2 ∧ fieldOp3 0x81600000#32 = 0x2C#6) ∧
    (fieldOp 0xC0400000#32 = 3#2 ∧ fieldOp3 0xC0400000#32 = 0x08#6) := by decide

/-- The harness about to fetch an ADDcc. -/
def aboutToAdd : State := (inputs 1#32 2#32).withFetchWord 32 0x94820009

/-- For the step: an annulled instruction; the three failing fetches; a word of no instruction; an injected register error; an
instruction that is not in hardware; one that runs. -/
theorem witness_StepRunsDecodedInstruction :
    (let s := { aboutToAdd with annul := true }
     s.quiet ∧ ∃ t, s.begun.memoryRead s.begun.fetchAsi true true s.begun.pc = (t, .ok 0x94820009#32)) ∧
    (failing.quiet ∧ failing.annul = false ∧
     (∃ t, (failingAt 0x3000#32).begun.memoryRead 0x09#8 true true 0x3000#32 = (t, .error .mae)) ∧
     (∃ t, (failingAt 0x4000#32).begun.memoryRead 0x09#8 true true 0x4000#32 = (t, .error .accessError)) ∧
     ∃ t, (failingAt 0x5000#32).begun.memoryRead 0x09#8 true true 0x5000#32 = (t, .error .mmuMiss)) ∧
    (let s := harness.withFetchWord 32 0x00400000
     s.quiet ∧ s.annul = false ∧ ∃ t, s.begun.memoryRead 0x09#8 true true s.begun.pc = (t, .ok 0x00400000#32) ∧
       decode 0x00400000#32 = .error .unassignedOp2) ∧
    ∃ t i x, aboutToAdd.quiet ∧ aboutToAdd.annul = false ∧
      aboutToAdd.begun.memoryRead aboutToAdd.begun.fetchAsi true true aboutToAdd.begun.pc = (t, .ok 0x94820009#32) ∧
      decode 0x94820009#32 = .ok i ∧
      (let s := { aboutToAdd with rRegisterError := true, cfg := { Config.reference with implementedTraps := [0x20#8] } }
       (s.rRegisterError && detects s.cfg .rRegisterAccessError && readsRegister i) = true) ∧
      (aboutToAdd.rRegisterError && detects aboutToAdd.cfg .rRegisterAccessError && readsRegister i) = false ∧
      isUnimplemented { Config.reference with unimplSet := ["ADDcc"] } i = true ∧
      isUnimplemented aboutToAdd.cfg i = false ∧ exec i { t with ir := 0x94820009#32 } = .next x := by
  refine ⟨⟨quiet_of (by decide), _, pair_of_snd (by decide)⟩, ⟨quiet_of (by decide), by decide, ⟨_, pair_of_snd (by decide)⟩,
    ⟨_, pair_of_snd (by decide)⟩, _, pair_of_snd (by decide)⟩,
    ⟨quiet_of (by decide), by decide, _, pair_of_snd (by decide), by decide⟩, ?_⟩
  exact ⟨_, .addcc 10#5 8#5 (.reg 9#5), _, quiet_of (by decide), by decide, pair_of_snd (by decide), by decide, by decide,
    by decide, by decide, by decide, rfl⟩

theorem witness_StepRunsInstructionInMemory : ∃ (s : State) (i : Instr) (x : State),
    s.quiet ∧ s.annul = false ∧ s.cfg.hasRefMmu = false ∧ s.ibuf = [] ∧ wordAligned s.pc ∧ s.busOutcome false s.pc.toNat = .ok ∧
    i.wellFormed = true ∧
    (∀ n, n < 4 → Memory.read s.mem (s.pc.toNat + n) = (bytesOfWord i.encode).getD n 0#8) ∧
    s.rRegisterError = false ∧ isUnimplemented s.cfg i = false ∧ exec i { s.begun with ir := i.encode } = .next x :=
  ⟨aboutToAdd, .addcc 10#5 8#5 (.reg 9#5), _, quiet_of (by decide), by decide, by decide, by decide,
    by unfold wordAligned; decide, by decide, by decide, by decide, by decide, by decide, rfl⟩

/-- A state other than reset that has the invariant, and steps: memory listed, a delayed write pending. -/
def busy : State := { aboutToAdd with pending := [⟨2, .wim 0xFF#32⟩] }

theorem witness_StepKeepsInvariant : busy.Inv ∧ (∃ t, step busy = .next t) ∧ busy ≠ State.reset := by
  refine ⟨?_, exists_next (by decide), fun h => absurd (congrArg State.pc h) (by decide)⟩
  constructor
  case memory => decide
  case pc => unfold wordAligned; decide
  case npc => unfold wordAligned; decide
  case cwp => decide
  case wim => decide
  case ec => decide
  case ef => decide
  case pending =>
    intro p hp
    rw [List.mem_singleton.mp hp]
    show (0xFF#32 : Word) &&& wimMask busy.cfg = 0xFF#32
    decide
  case raised =>
    intro r hr
    rw [show busy.raised = none from rfl] at hr
    cases hr
  case pbError => decide
  case blockByte => rfl
  case blockWord => rfl
  case ns => decide
  case fqAbsent => decide
  case fqDepth => decide
  case fpuMode => decide
  case cp => decide
  case ctx => decide
  case fav => decide

theorem witness_ResetTrapEntry :
    { harness with requests := { Requests.none with resetTrap := true } }.requests.resetTrap = true ∧
    ¬ sameRegister harness.cfg 3#5 17#5 2#5 17#5 ∧ ¬ sameRegister harness.cfg 3#5 17#5 2#5 18#5 := by
  refine ⟨rfl, ?_, ?_⟩ <;> unfold sameRegister <;> decide

theorem witness_ProcessorModes :
    State.reset.raised = none ∧ ({ State.reset with mode := .reset, resetIn := true }.mode = .reset) ∧
    ({ State.reset with mode := .reset }.resetIn = false) ∧
    ({ State.reset with mode := .error }.resetIn = false) ∧
    ({ State.reset with mode := .error, resetIn := true }.mode = .error) ∧
    ({ State.reset with resetIn := true }.mode = .execute) := by decide

theorem witness_TrapEntry : harness.psr.et = true ∧ State.reset.psr.et = false ∧
    ¬ sameRegister harness.cfg 3#5 17#5 2#5 17#5 ∧ ¬ sameRegister harness.cfg 3#5 17#5 2#5 18#5 := by
  refine ⟨rfl, rfl, ?_, ?_⟩ <;> unfold sameRegister <;> decide

/-- For the trap raised: one that stands, with ET = 1 and with ET = 0; one that a platform's request of higher priority displaces. -/
theorem witness_RaisedTrapsAreReconsidered :
    (∃ r, (raise .divisionByZero harness).raised = some r ∧ (raise .divisionByZero harness).resetIn = false ∧ r.psr.et = true ∧
      (raise .divisionByZero harness).requests.detected harness.cfg = Requests.none) ∧
    (∃ r, (raise .divisionByZero State.reset).raised = some r ∧ r.psr.et = false ∧
      (raise .divisionByZero State.reset).requests.resetTrap = false) ∧
    (let s := configured { Config.reference with implementedTraps := [0x2A#8, 0x2B#8] }
     let q := { Requests.none with dataStoreError := true }
     s.mode = .execute ∧ s.pbError = false ∧ s.psr.et = true ∧ s.resetIn = false ∧ detects s.cfg .divisionByZero = true ∧
     q.resetTrap = false ∧ q.detected s.cfg ≠ Requests.none ∧
     ((q.flag .divisionByZero).detected s.cfg).select = some .dataStoreError) :=
  ⟨⟨_, rfl, rfl, rfl, by decide⟩, ⟨_, rfl, rfl, rfl⟩, by decide⟩

theorem witness_HighestPriorityRequestIsSelected :
    Requests.select { Requests.none with fpException := true, interruptLevel := 15#4 } = some .fpException ∧
    Requests.select Requests.none = none ∧ (false, Trap.dataStoreError, 0x2B) ∈ requestRows Requests.none := by decide

theorem witness_InterruptAcceptance :
    (harness.requests = Requests.none ∧ harness.psr.et = true) ∧
    (let s := { harness with irl := 15#4, psr := { harness.psr with pil := 15#4 } }; s.irl = 15#4) ∧
    (let s := { harness with irl := 5#4, psr := { harness.psr with pil := 4#4 } }; s.psr.pil.toNat < s.irl.toNat) ∧
    (let s := { harness with irl := 4#4, psr := { harness.psr with pil := 4#4 } }; s.irl ≠ 15#4 ∧ s.irl.toNat ≤ s.psr.pil.toNat) ∧
    (State.reset.requests = Requests.none ∧ State.reset.psr.et = false) ∧
    (harness.mode = .execute ∧ harness.resetIn = false ∧ harness.raised = none) ∧
    (let r := { Requests.none with trapInstruction := true, ticcTrapType := 5#7 }; r.trapInstruction = false → r.ticcTrapType = 0#7) := by
  decide

/-- In a trap handler: ET = 0, the return address in r[18]. -/
def handler : State := { harness with psr := { harness.psr with et := false } }.setReg 18#5 0x2000#32

theorem witness_ReturnFromTrap :
    (handler.psr.et = false ∧ handler.psr.s = true ∧ handler.windowInvalid (nextWindow handler.cfg handler.psr.cwp) = false ∧
      wordAligned (handler.reg 18#5 + handler.operand2 (.imm 4#13))) ∧
    (user.psr.et = true ∧ user.psr.s = false) ∧ (harness.psr.et = true ∧ harness.psr.s = true) ∧
    (let s := { user with psr := { user.psr with et := false } }; s.psr.et = false ∧ s.psr.s = false) ∧
    (let s := { handler with wim := 16#32 }; s.psr.s = true ∧ s.windowInvalid (nextWindow s.cfg s.psr.cwp) = true) ∧
    (handler.psr.s = true ∧ handler.windowInvalid (nextWindow handler.cfg handler.psr.cwp) = false ∧
      ¬ wordAligned (handler.reg 18#5 + handler.operand2 (.imm 2#13))) := by
  unfold wordAligned
  decide

theorem witness_ReturnUndoesTrapEntry : ∃ u,
    harness.psr.et = true ∧ harness.psr.cwp.toNat < harness.cfg.nwindows ∧ harness.pending = [] ∧
    harness.windowInvalid harness.psr.cwp = false ∧
    wordAligned ((takeTrap .divisionByZero harness).address 18#5 (.imm 0#13)) ∧
    exec (.rett 18#5 (.imm 0#13)) (takeTrap .divisionByZero harness) = .next u := by
  obtain ⟨u, h⟩ := exists_next (a := exec (.rett 18#5 (.imm 0#13)) (takeTrap .divisionByZero harness)) (by decide)
  exact ⟨u, by decide, by decide, by decide, by decide, by unfold wordAligned; decide, h⟩

theorem witness_PrivilegeChecks : user.psr.s = false ∧ user.psr.et = true ∧ harness.psr.s = true := by decide

theorem witness_DisabledUnitsTrap :
    (harness.psr.ef = false ∧ harness.psr.s = true) ∧
    (let s := { withFpu with cfg := { Config.reference with hasFpu := false } }; s.psr.ef = true ∧ s.cfg.hasFpu = false) ∧
    harness.psr.ec = false ∧ harness.cfg.hasCp = false ∧ fccRows ≠ [] ∧ cccRows ≠ [] ∧ fpUnaryRows ≠ [] ∧
    fpBinaryRows ≠ [] ∧ fpCompareRows ≠ [] := by
  refine ⟨by decide, by decide, rfl, rfl, ?_, ?_, ?_, ?_, ?_⟩ <;> exact List.cons_ne_nil _ _

theorem witness_MisalignedAddressesTrap :
    (let s := inputs 0x2004#32 0#32
     (s.reg 8#5 + s.operand2 (.reg 9#5)).toNat % 8 ≠ 0 ∧ (s.reg 8#5 + s.operand2 (.imm 2#13)).toNat % 4 ≠ 0 ∧
       (s.reg 8#5 + s.operand2 (.imm 1#13)).toNat % 2 ≠ 0 ∧ (s.reg 8#5 + s.reg 9#5).toNat % 8 ≠ 0 ∧ s.psr.s = true) ∧
    (let s := inputs 0x2004#32 0xFFFFFFFD#32; (s.reg 8#5 + s.reg 9#5).toNat % 2 ≠ 0 ∧ (s.reg 8#5 + s.reg 9#5).toNat % 4 ≠ 0) ∧
    withFpu.fpEnabled = true ∧ withFpu.psr.s = true ∧ withCp.cpEnabled = true ∧ withCp.psr.s = true ∧
    (withFpu.reg 0#5 + withFpu.operand2 (.imm 4#13)).toNat % 8 ≠ 0 ∧ (withCp.reg 0#5 + withCp.operand2 (.imm 4#13)).toNat % 8 ≠ 0 ∧
    harness.cfg.lddOddRdTraps = false ∧ (2#5).getLsbD 0 = false := by
  decide

theorem witness_RegistersWindowsAndOperands :
    (let c := Config.reference; c.nwindows = 8 ∧ (0#5).toNat < c.nwindows ∧ (7#5).toNat < c.nwindows) ∧
    (let c := { Config.reference with nwinMinus2 := 0 }; c.nwindows = 2 ∧ (1#5).toNat < c.nwindows) ∧
    (let c := { Config.reference with nwinMinus2 := 30 }; c.nwindows = 32 ∧ (31#5).toNat < c.nwindows) ∧
    (8 ≤ (8#5 : RegNum).toNat ∧ (15#5 : RegNum).toNat < 16 ∧ (23#5 : RegNum).toNat < 24) ∧
    sameRegister harness.cfg 0#5 8#5 7#5 24#5 ∧ sameRegister harness.cfg 0#5 7#5 7#5 7#5 := by
  unfold sameRegister
  decide

theorem witness_TaggedArithmetic :
    (let p := sumIcc 8#32 4#32 0 12#32; (p.v || (decide (8 % 4 ≠ 0) || decide (4 % 4 ≠ 0))) = false) ∧
    (let p := sumIcc 0x7FFFFFFC#32 4#32 0 0x80000000#32; p.v = true) ∧
    (let p := differenceIcc 8#32 4#32 0 4#32; p.v = false) ∧ (differenceIcc 0x80000000#32 4#32 0 0x7FFFFFFC#32).v = true := by
  decide

theorem witness_DivideResults :
    (inputs 5#32 1#32).operand2 (.reg 9#5) ≠ 0#32 ∧ (inputs 5#32 0#32).operand2 (.reg 9#5) = 0#32 := by decide

theorem witness_SaveAndRestore :
    (harness.wim.getLsbD ((harness.psr.cwp.toNat + (harness.cfg.nwindows - 1)) % harness.cfg.nwindows) = false) ∧
    ({ harness with wim := 4#32 }.wim.getLsbD ((harness.psr.cwp.toNat + (harness.cfg.nwindows - 1)) % 8) = true) ∧
    (harness.wim.getLsbD ((harness.psr.cwp.toNat + 1) % harness.cfg.nwindows) = false) ∧
    ({ harness with wim := 16#32 }.wim.getLsbD ((harness.psr.cwp.toNat + 1) % 8) = true) := by decide

/-- A machine with an instruction buffer that may hold old words of two doublewords, the FLUSH of one completed. -/
def buffered : State :=
  { configured { Config.reference with hasIbuf := true } with
    ibuf := [.store 0x2004 1#32, .flush 0x400 0, .store 0x2000 2#32, .store 0x2008 3#32] }

/-- A machine whose ASI_MAP supplies three spaces, and an MMU. -/
def spaces : State :=
  configured { Config.reference with hasRefMmu := true, altSpaces := [(0x1F#8, .storage), (0x30#8, .device), (0x40#8, .physical 3#4)] }

/-- For memory: canonical memory, untranslated accesses, keys and devices reached, a fetch an instruction buffer may answer. -/
theorem witness_MemoryReadsAndWrites :
    (Memory.wf (stocked 0#32 0#32).mem = true ∧ (stocked 0#32 0#32).mem ≠ []) ∧
    harness.untranslated ∧ withMmu.untranslated ∧
    (0x0B#8 : BitVec 8) ∈ [0x08#8, 0x09#8, 0x0A#8, 0x0B#8] ∧ ¬ harness.mmuSpace 0x0B#8 ∧
    (stocked 0#32 0#32).reach 0x0B#8 false false 0x2003#32 = (stocked 0#32 0#32, .key 0x2000) ∧
    withMmu.reach 0x2F#8 false false 0xFFFFFFFF#32 = (withMmu, .key 0xFFFFFFFFC) ∧
    failing.reach 0x0B#8 false false 0x8001#32 = (failing, .device 0x8000) ∧ ¬ failing.mmuSpace 0x0B#8 ∧
    (stocked 0#32 0#32).reach 0x0B#8 false true 0x2003#32 = (stocked 0#32 0#32, .key 0x2000) ∧
    failing.reach 0x0B#8 false true 0x8003#32 = (failing, .device 0x8000) ∧
    buffered.reach 0x09#8 true false 0x2000#32 = (buffered, .key 0x2000) ∧ oldWords 0x2000 buffered.ibuf = [2#32] ∧
    (spaces.cfg.hasRefMmu = true ∧ spaces.mmu.e = false ∧ (0x20#8).toNat / 16 = 2 ∧ (0x2F#8).toNat / 16 = 2 ∧
      mapped.mmu.e = true ∧ mapped.busOutcome true ((0x2F#8).toNat % 16 * 2 ^ 32 + 0xFFFFFFFC) ≠ .accessError) ∧
    (∀ asi ∈ [0x07#8, 0x0C#8, 0x1F#8, 0x30#8, 0x40#8],
      asi ∉ [0x08#8, 0x09#8, 0x0A#8, 0x0B#8] ∧ ¬ (asi = 0x03#8 ∨ asi = 0x04#8) ∧ ¬ asi.toNat / 16 = 2) ∧
    spaces.cfg.altSpaces.lookup 0x07#8 = none ∧ spaces.cfg.altSpaces.lookup 0x0C#8 = none ∧
    spaces.cfg.altSpaces.lookup 0x1F#8 = some .storage ∧ spaces.cfg.altSpaces.lookup 0x30#8 = some .device ∧
    spaces.cfg.altSpaces.lookup 0x40#8 = some (.physical 3#4) ∧
    failing.reach 0x09#8 true false 0x3000#32 = (failing, .failed .mae) ∧
    failing.reach 0x0B#8 false true 0x7001#32 = (failing, .failed .mae) :=
  ⟨by decide, untranslated_of (by decide), untranslated_of (by decide), by decide, not_mmuSpace_of rfl, rfl, rfl, rfl,
    not_mmuSpace_of rfl, rfl, rfl, rfl, by decide, by decide, by decide, by decide, by decide, by decide, by decide, by decide, rfl, rfl⟩

/-- For the loads: a read that answers, at each alignment, in each mode and in an alternate space. -/
theorem witness_IntegerLoads :
    (∃ u, (stocked 0x2007#32 0#32).memoryRead 0x0B#8 false false 0x2007#32 = (u, .ok 0x00FF7F80#32)) ∧
    (∃ u, user.memoryRead 0x0A#8 false true 0x2004#32 = (u, .ok 0#32)) ∧
    (∃ u, withMmu.memoryRead 0x20#8 false true 0x2000#32 = (u, .ok 0#32)) ∧
    (0x2006#32).toNat % 2 = 0 ∧ (0x2004#32).toNat % 4 = 0 ∧ withMmu.psr.s = true :=
  ⟨⟨_, pair_of_snd (by decide)⟩, ⟨_, pair_of_snd (by decide)⟩, ⟨_, pair_of_snd (by decide)⟩, by decide, by decide, by decide⟩

/-- A machine on which a doubleword access to an odd register traps. -/
def oddTraps : State := configured { Config.reference with lddOddRdTraps := true }

theorem witness_DoubleLoads : ∃ u v,
    harness.cfg.lddOddRdTraps = false ∧ (0x2008#32).toNat % 8 = 0 ∧ harness.psr.s = true ∧
    (stocked 0x2008#32 0#32).memoryRead 0x0B#8 false false 0x2008#32 = (u, .ok 0xCAFEBABE#32) ∧
    (u.setReg 2#5 0xCAFEBABE#32).memoryRead 0x0B#8 false false 0x200C#32 = (v, .ok 0x0BADF00D#32) ∧
    oddTraps.cfg.lddOddRdTraps = true ∧ (3#5 : RegNum).getLsbD 0 = true ∧ oddTraps.psr.s = true :=
  ⟨_, _, by decide, by decide, by decide, pair_of_snd (by decide), pair_of_snd (by decide), by decide, by decide, by decide⟩

/-- For the stores: a key and a device reached, memory in canonical form, not an MMU space, at each alignment, in each mode. -/
theorem witness_IntegerStores :
    (stocked 0x2003#32 0#32).reach 0x0B#8 false true 0x2003#32 = (stocked 0x2003#32 0#32, .key 0x2000) ∧
    user.reach 0x0A#8 false true 0x2002#32 = (user, .key 0x2000) ∧
    Memory.wf (stocked 0x2003#32 0#32).mem = true ∧ ¬ harness.mmuSpace 0x0B#8 ∧ ¬ withMmu.mmuSpace 0x20#8 ∧
    (0x2002#32).toNat % 2 = 0 ∧ (0x2004#32).toNat % 4 = 0 ∧ withMmu.psr.s = true ∧
    failing.reach 0x0B#8 false true 0x8003#32 = (failing, .device 0x8000) ∧ ¬ failing.mmuSpace 0x0B#8 ∧
    failing.reach 0x0B#8 false true 0x8002#32 = (failing, .device 0x8000) ∧ failing.psr.s = true :=
  ⟨rfl, rfl, by decide, not_mmuSpace_of rfl,
    fun h => by rcases h.2 with h | h <;> exact absurd h (by decide), by decide, by decide, by decide, rfl, not_mmuSpace_of rfl, rfl, rfl⟩

theorem witness_DoubleStores : ∃ u v,
    (harness.untranslated ∧ harness.reach 0x0B#8 false true 0xFFFFFFF8#32 = (harness, .key 0xFFFFFFF8) ∧
      harness.reach 0x0B#8 false true (0xFFFFFFF8#32 + 4#32) = (harness, .key 0xFFFFFFFC) ∧
      Memory.wf harness.mem = true ∧ ¬ harness.mmuSpace 0x0B#8) ∧
    harness.memoryWrite 0x0B#8 false 0x2008#32 0xF#4 1#32 = (u, none) ∧
    u.memoryWrite 0x0B#8 false (0x2008#32 + 4#32) 0xF#4 2#32 = (v, none) ∧
    harness.cfg.lddOddRdTraps = false ∧ (0x2008#32).toNat % 8 = 0 ∧ harness.psr.s = true ∧
    oddTraps.cfg.lddOddRdTraps = true ∧ (3#5 : RegNum).getLsbD 0 = true ∧ oddTraps.psr.s = true :=
  ⟨_, _, ⟨untranslated_of (by decide), rfl, rfl, by decide, not_mmuSpace_of rfl⟩, pair_of_snd (by decide),
    pair_of_snd (by decide), by decide, by decide, by decide, by decide, by decide, by decide⟩

/-- For the atomic load-stores: untranslated, at a page that grants them, and at a device interface. -/
theorem witness_AtomicLoadStores : ∃ u u' v u₁ w,
    harness.pbBlockByte = false ∧ harness.pbBlockWord = false ∧ ¬ harness.mmuSpace 0x0B#8 ∧
    harness.memoryRead 0x0B#8 false true 0x2004#32 = (u, .ok 0#32) ∧ u.reach 0x0B#8 false true 0x2004#32 = (u, .key 0x2004) ∧
    Memory.wf harness.mem = true ∧ (0x2004#32).toNat % 4 = 0 ∧ harness.psr.s = true ∧
    mapped.pbBlockByte = false ∧ mapped.pbBlockWord = false ∧ ¬ mapped.mmuSpace 0x0B#8 ∧
    mapped.memoryRead 0x0B#8 false false 0x2004#32 = (u', .ok 0#32) ∧ u'.reach 0x0B#8 false true 0x2004#32 = (v, .key 0x2004) ∧
    Memory.wf mapped.mem = true ∧
    failing.pbBlockByte = false ∧ failing.pbBlockWord = false ∧ ¬ failing.mmuSpace 0x0B#8 ∧
    failing.memoryRead 0x0B#8 false false 0x8003#32 = (u₁, .ok w) ∧ u₁.reach 0x0B#8 false true 0x8003#32 = (u₁, .device 0x8000) :=
  ⟨_, _, _, _, _, rfl, rfl, not_mmuSpace_of rfl, pair_of_snd (by decide), rfl, by decide, by decide, by decide, rfl, rfl,
    fun h => by rcases h.2 with h | h <;> exact absurd h (by decide), pair_of_snd (by decide), pair_of_snd (by decide), by decide,
    rfl, rfl, not_mmuSpace_of rfl, pair_of_snd rfl, rfl⟩

/-- For the failed accesses: each error, of a read and of a write; of the second word of a doubleword; of the write of an atomic
load-store; with each unit ready. -/
theorem witness_FailedAccessesTrap : ∃ u u₁ u₂,
    (failing.pbBlockByte = false ∧ failing.pbBlockWord = false ∧ ¬ failing.mmuSpace 0x0B#8) ∧
    (∃ u, failing.memoryRead 0x0B#8 false true 0x3000#32 = (u, .error .mae)) ∧
    (∃ u, failing.memoryRead 0x0B#8 false false 0x4007#32 = (u, .error .accessError)) ∧
    (∃ u, failing.memoryRead 0x0B#8 false false 0x5000#32 = (u, .error .mmuMiss)) ∧
    (∃ u, failing.reach 0x0B#8 false true 0x3004#32 = (u, .failed .mae)) ∧
    (∃ u, failing.reach 0x0B#8 false true 0x4000#32 = (u, .failed .accessError)) ∧
    (∃ u, failing.reach 0x0B#8 false true 0x5000#32 = (u, .failed .mmuMiss)) ∧
    (failing.memoryRead 0x0B#8 false false 0x6000#32 = (u, .ok 0#32) ∧
      ∃ v, (u.setReg 2#5 0#32).memoryRead 0x0B#8 false false (0x6000#32 + 4#32) = (v, .error .mae)) ∧
    (failing.memoryWrite 0x0B#8 false 0x6000#32 0xF#4 1#32 = (u₁, none) ∧
      ∃ v, u₁.reach 0x0B#8 false true (0x6000#32 + 4#32) = (v, .failed .mae)) ∧
    (failing.memoryRead 0x0B#8 false true 0x7000#32 = (u₂, .ok 0#32) ∧
      ∃ v, u₂.reach 0x0B#8 false true 0x7000#32 = (v, .failed .mae)) ∧
    (0x3004#32).toNat % 4 = 0 ∧ (0x4006#32).toNat % 2 = 0 ∧ (0x6000#32).toNat % 8 = 0 ∧ failing.cfg.lddOddRdTraps = false ∧
    failing.psr.s = true ∧ { failing with psr := withFpu.psr }.fpuReady ∧ faulted.fpuStores ∧ faulted.cfg.hasFq = true ∧
    faulted.fq = 1#64 :: [] ∧ withCp.cpAccepts ∧ withCp.cfg.cpExceptionsPossible = false ∧ withCp.cfg.hasCq = true :=
  ⟨_, _, _, ⟨rfl, rfl, not_mmuSpace_of rfl⟩, ⟨_, pair_of_snd (by decide)⟩, ⟨_, pair_of_snd (by decide)⟩, ⟨_, pair_of_snd (by decide)⟩,
    ⟨_, pair_of_snd (by decide)⟩, ⟨_, pair_of_snd (by decide)⟩, ⟨_, pair_of_snd (by decide)⟩,
    ⟨pair_of_snd (by decide), _, pair_of_snd (by decide)⟩, ⟨pair_of_snd (by decide), _, pair_of_snd (by decide)⟩,
    ⟨pair_of_snd (by decide), _, pair_of_snd (by decide)⟩, by decide, by decide, by decide, by decide, rfl, ⟨rfl, .inl rfl⟩,
    ⟨rfl, .inr (by decide)⟩, rfl, rfl, ⟨rfl, rfl⟩, rfl, rfl⟩

theorem witness_Branches : iccRows ≠ [] ∧ cccRows ≠ [] ∧ withFpu.fpuReady ∧ withFpu.hzFcmp = 0 ∧ withFpu.hzLdfsr = 0 ∧
    (let s := { withFpu with hzLdfsr := 3 }; s.fpuReady ∧ s.hzFcmp = 0 ∧ s.hzLdfsr ≠ 0) ∧
    (let s := { withFpu with hzFcmp := 1 }; s.fpuReady ∧ s.hzFcmp ≠ 0) ∧
    (∃ r ∈ fccRows, r.taken = []) ∧ (∃ r ∈ fccRows, r.always = true) ∧ withCp.cpAccepts :=
  ⟨List.cons_ne_nil _ _, List.cons_ne_nil _ _, ⟨rfl, .inl rfl⟩, rfl, rfl, ⟨⟨rfl, .inl rfl⟩, rfl, by decide⟩, ⟨⟨rfl, .inl rfl⟩, by decide⟩,
    ⟨⟨.fbn, [], false⟩, by simp [fccRows], rfl⟩, ⟨⟨.fba, [0, 1, 2, 3], true⟩, by simp [fccRows], rfl⟩, rfl, rfl⟩

theorem witness_CallAndJump :
    ((inputs 0xFFFFFFFC#32 8#32).reg 8#5 + (inputs 0xFFFFFFFC#32 8#32).operand2 (.reg 9#5)).toNat % 4 = 0 ∧
    ((inputs 0xFFFFFFFC#32 6#32).reg 8#5 + (inputs 0xFFFFFFFC#32 6#32).operand2 (.reg 9#5)).toNat % 4 ≠ 0 := by
  decide

theorem witness_TrapOnIntegerCondition : ∃ r ∈ iccRows,
    r.test (withIcc harness ⟨false, true, false, false⟩).psr.icc = true ∧ r.test harness.psr.icc = false :=
  ⟨⟨.be, .te, fun i => i.z, false⟩, List.mem_cons_of_mem _ (List.mem_cons_self ..), by decide, by decide⟩

/-- A machine with register 17 implemented and privileged, 16 implemented and not. -/
def withAsr : State := configured { Config.reference with asrImplemented := 3#16, asrPrivileged := 2#16 }

theorem witness_StateRegisterReads :
    withAsr.psr.s = true ∧ (16#5 : RegNum).getLsbD 4 = true ∧ (31#5 : RegNum).getLsbD 4 = true ∧
    (15#5 : RegNum).getLsbD 4 = false ∧
    (withAsr.cfg.asrImplemented.getLsbD 0 = true ∧ withAsr.cfg.asrPrivileged.getLsbD 0 = false) ∧
    (withAsr.cfg.asrImplemented.getLsbD 15 = false ∧ withAsr.cfg.asrPrivileged.getLsbD 15 = false) ∧
    (withAsr.cfg.asrPrivileged.getLsbD 1 = true ∧ { withAsr with psr := user.psr }.psr.s = false) := by decide

theorem witness_StateRegisterWrites :
    withAsr.psr.s = true ∧
    ((inputs 7#32 0#32).reg 8#5 ^^^ (inputs 7#32 0#32).operand2 (.imm 0#13)).toNat % 32 < harness.cfg.nwindows ∧
    harness.cfg.nwindows ≤ ((inputs 8#32 0#32).reg 8#5 ^^^ (inputs 8#32 0#32).operand2 (.imm 0#13)).toNat % 32 ∧
    ((16#5 : RegNum).getLsbD 4 = true ∧ withAsr.cfg.asrImplemented.getLsbD ((16#5 : RegNum).extractLsb' 0 4).toNat = true) ∧
    (withAsr.cfg.asrImplemented.getLsbD ((18#5 : RegNum).extractLsb' 0 4).toNat = false) ∧
    (withAsr.cfg.asrPrivileged.getLsbD ((17#5 : RegNum).extractLsb' 0 4).toNat = true ∧
      { withAsr with psr := user.psr }.psr.s = false) ∧
    (15#5 : RegNum).getLsbD 4 = false := by decide

theorem witness_DelayedWriteTiming : harness.pending = [] ∧ harness.cfg.writeStateDelay.val = 3 ∧ 0 ≤ 3 ∧ 3 ≤ 3 := by decide

/-- R45, R47: of the writes due the last to a register stands, those not due count down; a drain applies them all. -/
theorem test_pending_writes_in_order :
    let s := { harness with pending := [⟨0, .wim 1#32⟩, ⟨1, .wim 3#32⟩, ⟨0, .wim 2#32⟩, ⟨2, .y 5#32⟩] }
    s.tickPending.wim = 2#32 ∧ s.tickPending.y = harness.y ∧ s.tickPending.pending = [⟨0, .wim 3#32⟩, ⟨1, .y 5#32⟩] ∧
      s.drainPending.wim = 2#32 ∧ s.drainPending.y = 5#32 ∧ s.drainPending.pending = [] := by decide

theorem witness_BarrierUnimpFlush :
    (harness.cfg.flushBehaviour = .implemented ∧ harness.cfg.hasIbuf = false) ∧
    (buffered.cfg.flushBehaviour = .implemented ∧ buffered.cfg.hasIbuf = true ∧
      buffered.locate ((buffered.setReg 8#5 0x2005#32).reg 8#5) = some 0x2004) ∧
    ({ withMmu with mmu := { withMmu.mmu with e := true } }.locate 0x2000#32 = none) ∧
    (configured { Config.reference with flushBehaviour := .unimplementedFlushTrap }).cfg.flushBehaviour = .unimplementedFlushTrap ∧
    (configured { Config.reference with flushBehaviour := .illegalInstructionTrap }).cfg.flushBehaviour = .illegalInstructionTrap ∧
    (0x2000 / 8 = 0x400 ∧ buffered.ibuf = [.store 0x2004 1#32] ++ .flush 0x400 0 :: [.store 0x2000 2#32, .store 0x2008 3#32] ∧
      .store 0x2000 2#32 ∈ expireFlushes buffered.ibuf ∧ .store 0x2004 1#32 ∉ expireFlushes buffered.ibuf) := by
  decide

theorem witness_FloatingPointLoads : ∃ u u' v,
    withFpu.fpuReady ∧ (0x2004#32).toNat % 4 = 0 ∧ withFpu.memoryRead 0x0B#8 false true 0x2004#32 = (u, .ok 0#32) ∧
    (0x2008#32).toNat % 8 = 0 ∧ (2#5 : RegNum).getLsbD 0 = false ∧
    withFpu.memoryRead 0x0B#8 false false 0x2008#32 = (u', .ok 0#32) ∧
    (u'.setFreg 2#5 0#32).memoryRead 0x0B#8 false false (0x2008#32 + 4#32) = (v, .ok 0#32) ∧
    withFpu.cfg.fpMisalignedRegTraps = true ∧ (3#5 : RegNum).getLsbD 0 = true ∧
    ∀ s ∈ [withFpu, deferring, pendingFault, faulted], s.fpEnabled = true ∧ s.cfg.fpMisalignedRegTraps = true :=
  ⟨_, _, _, ⟨rfl, .inl rfl⟩, by decide, pair_of_snd (by decide), by decide, by decide, pair_of_snd (by decide),
    pair_of_snd (by decide), rfl, by decide, by decide⟩

/-- For the floating-point stores: in fp_execute, and in fp_exception with an entry in the queue and with none. -/
theorem witness_FloatingPointStores :
    withFpu.fpuStores ∧ (0x2008#32).toNat % 8 = 0 ∧ withFpu.psr.s = true ∧ (2#5 : RegNum).getLsbD 0 = false ∧
    withFpu.reach 0x0B#8 false true 0x2008#32 = (withFpu, .key 0x2008) ∧
    withFpu.reach 0x0B#8 false true (0x2008#32 + 4#32) = (withFpu, .key 0x200C) ∧
    (faulted.fpuStores ∧ faulted.fpuMode = .exception ∧ faulted.cfg.hasFq = true ∧ faulted.fq = 1#64 :: []) ∧
    withFpu.cfg.hasFq = false ∧ withFpu.cfg.fpMisalignedRegTraps = true ∧ (3#5 : RegNum).getLsbD 0 = true ∧
    (faulted.fpuStores ∧ faulted.cfg.fpTrapsDeferred = true ∧ faulted.fpuMode = .exception ∧
      faulted.cfg.fpMisalignedRegTraps = true) ∧
    (let s := { failing with psr := withFpu.psr }; s.fpuStores ∧ s.reach 0x0B#8 false true 0x8000#32 = (s, .device 0x8000)) :=
  ⟨⟨rfl, .inl rfl⟩, by decide, by decide, by decide, rfl, rfl, ⟨⟨rfl, .inr (by decide)⟩, rfl, rfl, rfl⟩, rfl, rfl, by decide,
    ⟨⟨rfl, .inr (by decide)⟩, rfl, rfl, rfl⟩, ⟨rfl, .inl rfl⟩, rfl⟩

theorem witness_FloatingPointMoves : withFpu.fpopAccepted (.fmovs 2#5 1#5) false :=
  ⟨⟨rfl, .inl rfl⟩, rfl, rfl⟩

/-- For the FPops: accepted, finished; with no enabled exception (1 + 1), and with one (1 / 0, DZM). -/
theorem witness_FloatingPointOperations :
    (∃ r ∈ fpBinaryRows, ∃ s : State,
      s.fpopAccepted (r.instr 2#5 4#5 6#5) (r.src.misaligned 4#5 || r.src.misaligned 6#5 || r.dst.misaligned 2#5) ∧
      s.unfinished (r.instr 2#5 4#5 6#5).mnemonic (s.fpOperand r.src 4#5) (s.fpOperand r.src 6#5)
        (r.op s.fpEnv (s.fpOperand r.src 4#5) (s.fpOperand r.src 6#5)).texc.bits = false ∧
      (r.op s.fpEnv (s.fpOperand r.src 4#5) (s.fpOperand r.src 6#5)).texc.bits &&& s.fsr.tem = 0#5) ∧
    (∃ r ∈ fpBinaryRows, ∃ s : State,
      s.fpopAccepted (r.instr 2#5 4#5 6#5) (r.src.misaligned 4#5 || r.src.misaligned 6#5 || r.dst.misaligned 2#5) ∧
      s.unfinished (r.instr 2#5 4#5 6#5).mnemonic (s.fpOperand r.src 4#5) (s.fpOperand r.src 6#5)
        (r.op s.fpEnv (s.fpOperand r.src 4#5) (s.fpOperand r.src 6#5)).texc.bits = false ∧
      (r.op s.fpEnv (s.fpOperand r.src 4#5) (s.fpOperand r.src 6#5)).texc.bits &&& s.fsr.tem ≠ 0#5 ∧
      s.cfg.fpTrapsDeferred = false) ∧
    ∃ r ∈ fpUnaryRows, ∃ s : State,
      s.fpopAccepted (r.instr 2#5 6#5) (r.src.misaligned 6#5 || r.dst.misaligned 2#5) ∧
      s.unfinished (r.instr 2#5 6#5).mnemonic (s.fpOperand r.src 6#5) 0 (r.op s.fpEnv (s.fpOperand r.src 6#5)).texc.bits = false ∧
      (r.op s.fpEnv (s.fpOperand r.src 6#5)).texc.bits &&& s.fsr.tem = 0#5 := by
  refine ⟨⟨⟨.fadds, .single, .single, fpAdd .single⟩, List.mem_cons_self .., fpu 0x3F800000#32 0x3F800000#32,
    ⟨⟨rfl, .inl rfl⟩, rfl, rfl⟩, by decide, by decide⟩,
    ⟨⟨.fdivs, .single, .single, fpDiv .single⟩, by simp [fpBinaryRows], (fpu 0x3F800000#32 0#32).loadFsr 0x01000000#32,
    ⟨⟨rfl, .inl rfl⟩, rfl, rfl⟩, by decide, by decide, rfl⟩,
    ⟨⟨.fitos, .single, .single, fun env a => fpFromInt .single env (BitVec.ofNat 32 a)⟩, List.mem_cons_self ..,
    fpu 0#32 1#32, ⟨⟨rfl, .inl rfl⟩, rfl, rfl⟩, by decide, by decide⟩⟩

/-- For the compares: a signaling NaN with invalid not enabled, and enabled; and a subnormal in nonstandard mode, NX enabled. -/
theorem witness_FloatingPointCompares : ∃ r ∈ fpCompareRows,
    let accepted (s : State) : Prop :=
      s.fpopAccepted (r.instr 4#5 6#5) (r.fmt.misaligned 4#5 || r.fmt.misaligned 6#5) ∧
      s.unfinished (r.instr 4#5 6#5).mnemonic (s.fpOperand r.fmt 4#5) (s.fpOperand r.fmt 6#5)
        (fpCompare r.signalsQuiet r.fmt s.fpEnv (s.fpOperand r.fmt 4#5) (s.fpOperand r.fmt 6#5)).texc.bits = false
    let enabled (s : State) : BitVec 5 :=
      (fpCompare r.signalsQuiet r.fmt s.fpEnv (s.fpOperand r.fmt 4#5) (s.fpOperand r.fmt 6#5)).texc.bits &&& s.fsr.tem
    (∃ s, accepted s ∧ enabled s = 0#5) ∧
    (∃ s, accepted s ∧ enabled s = 0x10#5 ∧ s.cfg.fpTrapsDeferred = false) ∧
    ∃ s, accepted s ∧ enabled s = 0x01#5 ∧ s.cfg.fpTrapsDeferred = false ∧
      (fpCompare r.signalsQuiet r.fmt s.fpEnv (s.fpOperand r.fmt 4#5) (s.fpOperand r.fmt 6#5)).texc.nv = false :=
  ⟨⟨.fcmps, false, .single⟩, List.mem_cons_self ..,
    ⟨fpu 0x7F800001#32 0#32, ⟨⟨⟨rfl, .inl rfl⟩, rfl, rfl⟩, by decide⟩, by decide⟩,
    ⟨(fpu 0x7F800001#32 0#32).loadFsr 0x08000000#32, ⟨⟨⟨rfl, .inl rfl⟩, rfl, rfl⟩, by decide⟩, by decide, rfl⟩,
    ⟨{ fpu 1#32 0#32 with cfg := { Config.reference with fsrNsImplemented := true } }.loadFsr 0x00C00000#32,
      ⟨⟨⟨rfl, .inl rfl⟩, rfl, rfl⟩, by decide⟩, by decide, rfl, by decide⟩⟩

/-- The trap of a compare whose invalid exception is enabled: fcc is unchanged (R595). -/
theorem test_fcmpes_trap : runs ((fpu 0x7FC00001#32 0#32).loadFsr 0x08000400#32) 0x81A90AA6
    (fun t => trapped t 0x08#8 && t.fsr.ftt == 1#3 && t.fsr.cexc == 0x10#5 && t.fsr.fcc == 1#2 && t.fsr.aexc == 0#5) = true := by decide

/-- For the rejected FPops: a row of each kind, one operation of which the implementation lacks, or whose register is misaligned. -/
theorem witness_RejectedFloatingPointOperations :
    withFpu.fpEnabled = true ∧ withFpu.cfg.fpTrapsDeferred = false ∧
    { Config.reference with unimplSet := ["FSQRTd"] }.unimplSet.contains (Instr.fsqrtd 0#5 0#5).mnemonic = true ∧
    { Config.reference with unimplSet := ["FMOVs"] }.unimplSet.contains (Instr.fmovs 0#5 0#5).mnemonic = true ∧
    withFpu.cfg.unimplSet.contains (Instr.faddd 4#5 1#5 2#5).mnemonic = false ∧ withFpu.cfg.fpMisalignedRegTraps = true ∧
    (Fmt.double.misaligned 1#5 || Fmt.double.misaligned 2#5 || Fmt.double.misaligned 4#5) = true ∧
    (∃ m a b x, FpopAt withFpu (.faddd 4#5 1#5 2#5) m a b x) ∧ (∃ m a b x, FpopAt withFpu (.fsqrtd 0#5 0#5) m a b x) ∧
    (∃ m a b x, FpopAt withFpu (.fcmpd 1#5 2#5) m a b x) ∧
    (let s := { fpu 0x3F800000#32 0#32 with cfg := { Config.reference with fsrStateBits := 1#4 } }
     ∃ a b x, FpopAt s (.fdivs 2#5 4#5 6#5) false a b x ∧ s.fpopAccepted (.fdivs 2#5 4#5 6#5) false ∧
       s.unfinished (Instr.fdivs 2#5 4#5 6#5).mnemonic a b x = true ∧ s.fpEnabled = true ∧ s.cfg.fpTrapsDeferred = false) :=
  ⟨rfl, rfl, by decide, by decide, by decide, rfl, by decide,
    ⟨_, _, _, _, .binary ⟨.faddd, .double, .double, fpAdd .double⟩ (by simp [fpBinaryRows]) ..⟩,
    ⟨_, _, _, _, .unary ⟨.fsqrtd, .double, .double, fpSqrt .double⟩ (by simp [fpUnaryRows]) ..⟩,
    ⟨_, _, _, _, .compare ⟨.fcmpd, false, .double⟩ (by simp [fpCompareRows]) ..⟩,
    ⟨_, _, _, .binary ⟨.fdivs, .single, .single, fpDiv .single⟩ (by simp [fpBinaryRows]) 2#5 4#5 6#5, ⟨⟨rfl, .inl rfl⟩, rfl, rfl⟩,
      by decide, rfl, rfl⟩⟩

/-- For the deferred machine: in fp_execute an FPop lacking, one misaligned, one accepted (1 + 1) and one that raises an enabled exception
(1 / 0, DZM); a pending exception, and the fp_exception state, met by instructions of each kind. -/
theorem witness_DeferredFloatingPointExceptions :
    (deferring.fpEnabled = true ∧ deferring.cfg.fpTrapsDeferred = true ∧ deferring.fpuMode = .execute) ∧
    { deferring.cfg with unimplSet := ["FMOVs", "FADDd"] }.unimplSet.contains (Instr.fmovs 0#5 0#5).mnemonic = true ∧
    { deferring.cfg with unimplSet := ["FMOVs", "FADDd"] }.unimplSet.contains (Instr.faddd 4#5 1#5 2#5).mnemonic = true ∧
    (deferring.cfg.unimplSet.contains (Instr.faddd 4#5 1#5 2#5).mnemonic = false ∧
      (deferring.cfg.fpMisalignedRegTraps && Fmt.double.misaligned 1#5) = true) ∧
    (let s := { (fpu 0x3F800000#32 0#32).loadFsr 0x01000000#32 with cfg := deferring.cfg }
     ∃ a b x, FpopAt s (.fdivs 2#5 4#5 6#5) false a b x ∧ s.fpopAccepted (.fdivs 2#5 4#5 6#5) false ∧
       s.unfinished "FDIVs" a b x = false ∧ x &&& s.fsr.tem ≠ 0#5) ∧
    (pendingFault.fpuMode = .exceptionPending ∧ pendingFault.pendingFp = some 1#64 ∧ pendingFault.fq.length < 2) ∧
    (ResumesFpu pendingFault (.fadds 2#5 4#5 6#5) ∧ ResumesFpu pendingFault (.fba false 0#22) ∧
      ResumesFpu pendingFault (.stdfq 0#5 (.imm 0#13))) ∧
    (faulted.fpuMode = .exception ∧ IsFpop (.fpop1Unassigned 0#5 0#5 0#9 0#5) ∧ LoadsOrBranchesFpu faulted (.ldf 2#5 0#5 (.imm 4#13)) ∧
      LoadsOrBranchesFpu faulted (.lddf 2#5 0#5 (.imm 8#13)) ∧ faulted.cfg.fpSequenceErrorAtOnce = false) ∧
    (atOnce.fpEnabled = true ∧ atOnce.cfg.fpTrapsDeferred = true ∧ atOnce.fpuMode = .exception ∧ atOnce.cfg.fpSequenceErrorAtOnce = true ∧
      LoadsOrBranchesFpu atOnce (.fba false 0#22)) :=
  ⟨⟨rfl, rfl, rfl⟩, by decide, by decide, by decide,
    ⟨_, _, _, .binary ⟨.fdivs, .single, .single, fpDiv .single⟩ (by simp [fpBinaryRows]) 2#5 4#5 6#5, ⟨⟨rfl, .inr rfl⟩, by decide, rfl⟩,
      by decide, by decide⟩,
    ⟨rfl, rfl, by decide⟩,
    ⟨.fpop _ (.binary ⟨.fadds, .single, .single, fpAdd .single⟩ (List.mem_cons_self ..) ..),
      .other _ (.branch ⟨.fba, [0, 1, 2, 3], true⟩ (by simp [fccRows]) ..), .stdfq 0#5 (.imm 0#13) (by decide) rfl⟩,
    ⟨rfl, .unassigned1 .., .ldf 2#5 0#5 (.imm 4#13) (by decide), .lddf 2#5 0#5 (.imm 8#13) (by decide) (.inr (by decide)), rfl⟩,
    ⟨rfl, rfl, rfl, rfl, .branch ⟨.fba, [0, 1, 2, 3], true⟩ (by simp [fccRows]) ..⟩⟩

set_option exponentiation.threshold 1100 in
/-- For the rounded results: finite operands of both signs (1, -1, 0, the least number, the greatest), a divisor that is not zero, a root. -/
theorem witness_FloatingPointRounding :
    harness.fpEnv.ns = false ∧ Fmt.single.finite 0x3F800000 ∧ Fmt.single.finite 0xBF800000 ∧ Fmt.single.finite 0 ∧
    Fmt.double.finite 1 ∧ Fmt.single.finite 0x7F7FFFFF ∧ ¬ Fmt.single.finite 0x7F800000 ∧
    (Fmt.single.value 0xBF800000 = (-1 : Int) ∧ Fmt.single.value 0x3F800000 = (1 : Int) ∧ Fmt.single.value 0 = (0 : Int)) ∧
    ((0 : ℝ) ≤ 2 ∧ (2 : ℝ) * 2 = (4 : Int) ∧ Fmt.double.value 0x4010000000000000 = (4 : Int)) ∧
    Fmt.single.fracBits < Fmt.double.fracBits := by
  unfold Fmt.finite
  refine ⟨by decide, by decide, by decide, by decide, by decide, by decide, by decide,
    ⟨Fmt.value_eq.mpr (by decide), Fmt.value_eq.mpr (by decide), Fmt.value_eq.mpr (by decide)⟩,
    ⟨by norm_num, by norm_num, Fmt.value_eq.mpr (by decide)⟩, by decide⟩

set_option exponentiation.threshold 1100 in
/-- For the other results: infinities and zeros of both signs, numbers; signaling and quiet NaNs; operands just inside and just outside
the integers, in double. -/
theorem witness_FloatingPointSpecialResults :
    (harness.fpEnv.ns = false ∧ unpack .single 0x7F800000 = .inf false ∧ unpack .single 0xFF800000 = .inf true ∧
      unpack .single 0 = .zero false ∧ unpack .double 0x8000000000000000 = .zero true ∧
      (∃ m e, unpack .single 0xBF800000 = .num true m e) ∧ Fmt.single.finite 0xBF800000) ∧
    (let nan (x : Nat) : Prop :=
       x / 2 ^ Fmt.single.fracBits % 2 ^ Fmt.single.expBits = 2 ^ Fmt.single.expBits - 1 ∧ x % 2 ^ Fmt.single.fracBits ≠ 0
     (nan 0x7F800001 ∧ (0x7F800001).testBit (Fmt.single.fracBits - 1) = false) ∧
     (nan 0xFFC00000 ∧ (0xFFC00000).testBit (Fmt.single.fracBits - 1) = true) ∧ ¬ nan 0x7F800000) ∧
    (Fmt.double.finite 0xC1E00000001FFFFF ∧ ((-2147483649 : Int) : ℚ) < Fmt.double.value 0xC1E00000001FFFFF ∧
      Fmt.double.value 0xC1E00000001FFFFF < (0 : Int)) ∧
    (Fmt.double.finite 0x41DFFFFFFFFFFFFF ∧ Fmt.double.value 0x41DFFFFFFFFFFFFF < (2147483648 : Int)) ∧
    ¬ ((-2147483649 : Int) : ℚ) < Fmt.double.value 0xC1E0000000200000 ∧
    ¬ Fmt.double.value 0x41E0000000000000 < (2147483648 : Int) ∧ 0xC1E0000000200000 < 2 ^ Fmt.double.width := by
  unfold Fmt.finite
  refine ⟨⟨by decide, by decide, by decide, by decide, by decide, ⟨_, _, rfl⟩, by decide⟩, by decide,
    ⟨by decide, Fmt.lt_value.mpr (by decide), Fmt.value_lt.mpr (by decide)⟩, ⟨by decide, Fmt.value_lt.mpr (by decide)⟩,
    fun h => absurd (Fmt.lt_value.mp h) (by decide), fun h => absurd (Fmt.value_lt.mp h) (by decide), by decide⟩

/-- For the relation: a NaN, a quiet one of the double format, and numbers that are not. -/
theorem witness_CompareRelation :
    harness.fpEnv.ns = false ∧
    (0x7F800001 / 2 ^ Fmt.single.fracBits % 2 ^ Fmt.single.expBits = 2 ^ Fmt.single.expBits - 1 ∧
      0x7F800001 % 2 ^ Fmt.single.fracBits ≠ 0) ∧
    ¬ (0x7F800000 / 2 ^ Fmt.single.fracBits % 2 ^ Fmt.single.expBits = 2 ^ Fmt.single.expBits - 1 ∧
      0x7F800000 % 2 ^ Fmt.single.fracBits ≠ 0) ∧
    scaledValue .single 0x80000000 = scaledValue .single 0 ∧ scaledValue .single 0xBF800000 < scaledValue .single 1 ∧
    scaledValue .single 0x7F7FFFFF < scaledValue .single 0x7F800000 := by decide

/-- A coprocessor that may report exceptions, deferring them or not. -/
def cpFaulting (deferred : Bool) : State :=
  { withCp with cfg := { withCp.cfg with cpExceptionsPossible := true, cpTrapsDeferred := deferred, unimplSet := ["CPop2"] } }

theorem witness_CoprocessorLoadsAndStores : ∃ u u' v,
    withCp.cpAccepts ∧ withCp.cfg.cpExceptionsPossible = false ∧ (0x2004#32).toNat % 4 = 0 ∧
    withCp.memoryRead 0x0B#8 false true 0x2004#32 = (u, .ok 0#32) ∧ (0x2008#32).toNat % 8 = 0 ∧
    withCp.memoryRead 0x0B#8 false false 0x2008#32 = (u', .ok 0#32) ∧
    { u' with cp := { u'.cp with state := Config.cpLoadWord (.register (3#5 &&& 0x1E#5)) 0#32 u'.cp.state } }.memoryRead 0x0B#8
      false false (0x2008#32 + 4#32) = (v, .ok 0#32) ∧
    (cpFaulting false).cpAccepts ∧ (cpFaulting false).cfg.cpExceptionsPossible = true ∧
    withCp.psr.s = true ∧ withCp.cfg.hasCq = true ∧ { withCp with cfg := { Config.reference with hasCp := true } }.cfg.hasCq = false ∧
    (let s := { failing with cfg := { failing.cfg with hasCp := true }, psr := withCp.psr }
     s.cpAccepts ∧ s.reach 0x0B#8 false true 0x8000#32 = (s, .device 0x8000)) :=
  ⟨_, _, _, ⟨rfl, rfl⟩, rfl, by decide, pair_of_snd (by decide), by decide, pair_of_snd (by decide), pair_of_snd rfl, ⟨rfl, rfl⟩,
    rfl, rfl, rfl, rfl, ⟨rfl, rfl⟩, rfl⟩

/-- For the CPops: in hardware, reporting no exceptions and perhaps some; not in hardware, deferred and not; an outstanding exception. -/
theorem witness_CoprocessorOperations :
    (withCp.cpAccepts ∧ withCp.cfg.unimplSet.contains (Instr.cpop1 0#5 0#5 0#9 0#5).mnemonic = false ∧
      withCp.cfg.cpExceptionsPossible = false) ∧
    ((cpFaulting true).cpAccepts ∧ (cpFaulting true).cfg.unimplSet.contains (Instr.cpop1 0#5 0#5 0#9 0#5).mnemonic = false ∧
      (cpFaulting true).cfg.cpExceptionsPossible = true ∧
      (cpFaulting true).cfg.unimplSet.contains (Instr.cpop2 0#5 0#5 0#9 0#5).mnemonic = true ∧
      (cpFaulting true).cfg.cpTrapsDeferred = true ∧ (cpFaulting false).cfg.cpTrapsDeferred = false) ∧
    (let s := { cpFaulting true with cp := { withCp.cp with exceptionPending := true } }
     s.cpEnabled = true ∧ s.cp.exceptionPending = true ∧ s.psr.et = true ∧ s.psr.s = true ∧
       (s.reg 0#5 + s.operand2 (.imm 8#13)).toNat % 8 = 0 ∧ (s.reg 0#5 + s.operand2 (.imm 4#13)).toNat % 4 = 0) :=
  ⟨⟨⟨rfl, rfl⟩, by decide, rfl⟩, ⟨⟨rfl, rfl⟩, by decide, rfl, by decide, rfl, rfl⟩, rfl, rfl, rfl, rfl, by decide, by decide⟩

theorem witness_TranslationOfMappedPage :
    mapped.cfg.hasRefMmu = true ∧ mapped.mmu.e = true ∧ Memory.wf mapped.mem = true ∧
    mapped.walk mapped.rootAddress 0 (tableIndexes 0x12345678#32) = .pte 0x10000 0xE#32 0 ∧
    permissionFault (accessType 0x0B#8 true) ((0xE#32 : Word).extractLsb' 2 3) = 0#3 ∧
    mapped.busOutcome true 0x10000 = .ok ∧ mapped.busOutcome true 0x12345678 = .ok ∧
    -- the page at a device interface; an entry with R and M set that cannot be written
    (let s := { mapped with cfg := { mapped.cfg with memMap := [⟨0x12345678, 4, .device, .device⟩] } }
     s.walk s.rootAddress 0 (tableIndexes 0x12345678#32) = .pte 0x10000 0xE#32 0 ∧ s.busOutcome true 0x12345678 = .device ∧
       s.busOutcome true 0x10000 = .ok) ∧
    (let s := put { mapped with cfg := { mapped.cfg with memMap := [⟨0x10000, 4, .ok, .mae⟩] } } 0x10000 0x6E#32
     Memory.wf s.mem = true ∧ s.walk s.rootAddress 0 (tableIndexes 0x12345678#32) = .pte 0x10000 0x6E#32 0 ∧
       permissionFault (accessType 0x0B#8 true) ((0x6E#32 : Word).extractLsb' 2 3) = 0#3 ∧
       (0x6E#32 : Word) ||| 0x20#32 ||| 0x40#32 = 0x6E#32 ∧ s.busOutcome true 0x10000 ≠ .ok ∧ s.busOutcome true 0x12345678 = .ok) := by
  decide

theorem witness_MmuRegisterAccess :
    withMmu.cfg.hasRefMmu = true ∧ withMmu.psr.s = true ∧ (0x4FC#32).toNat % 4 = 0 ∧
    (0xFC#32).toNat / 256 = 0 ∧ (0x100#32).toNat / 256 = 1 ∧ (0x2FC#32).toNat / 256 = 2 ∧ (0x300#32).toNat / 256 = 3 ∧
    (0x4FC#32).toNat / 256 = 4 := by decide

/-- Tables of four levels for 0x12345xxx: PTDs at 0x10000, 0x11048 and 0x12034, the level-3 entry `e` at 0x13014, with a memory map. -/
def tables (e : Word) (memMap : List Region) : State :=
  put (put (put (put { mapped with cfg := { mapped.cfg with memMap := memMap } } 0x10000 0x1101#32) 0x11048 0x1201#32) 0x12034
    0x1301#32) 0x13014 e

theorem descends_next {s : State} {va : Word} {level address : Nat} (index next : Nat) (h : s.Descends va level address)
    (hb : s.busOutcome false address = .ok) (he : (Memory.readWord s.mem address).toNat % 4 = 1)
    (hi : (level, index) ∈ [(0, va.toNat / 2 ^ 24), (1, va.toNat / 2 ^ 18 % 64), (2, va.toNat / 2 ^ 12 % 64)])
    (hn : ((Memory.readWord s.mem address).toNat / 4 * 64 + index * 4) % 2 ^ 36 = next) : s.Descends va (level + 1) next :=
  hn ▸ .next level address index h hb he hi

/-- R700, R750: a reset asserted before the trap of a TA is selected drops it. -/
theorem test_reset_drops_raised_trap :
    (match step (harness.withFetchWord 32 0x91D02001) with
      | .next t => (match step { t with resetIn := true } with
        | .next u => u.mode == .reset && u.pc == 0x1000#32 && u.psr == harness.psr && u.tt == 0#8
        | _ => false)
      | _ => false) = true := by decide

/-- R107, R553: an LDF in fp_exception state completes with ftt = sequence_error, its load not made, and makes the FPU pending again; read
the other way (R695), it takes fp_exception itself. -/
theorem test_ldf_in_fp_exception :
    runs faulted 0xC5020000 (fun t => moved t && t.fsr.ftt == 4#3 && t.fpuMode == .exceptionPending && t.fq == [1#64] && t.f == faulted.f) =
      true ∧
    runs atOnce 0xC5020000 (fun t => trapped t 0x08#8 && t.fsr.ftt == 4#3 && t.fpuMode == .exception && t.fq == [1#64]) = true := by
  decide

/-- R136: a byte stored to a device interface is one lane of an access to it. -/
theorem test_stb_to_device : runs ((failing.setReg 8#5 0x8001#32).setReg 10#5 0x123456AB#32) 0xD42A0000
    (fun t => t.io.map IoAccess.key == [0x8001] && t.io.map IoAccess.asi == [0x0B#8] && t.io.map IoAccess.mask == [0x4#4] &&
      t.io.map (fun x => x.data.extractLsb' 16 8) == [0xAB#8] && Memory.readWord t.mem 0x8000 == 0#32) = true := by decide

/-- R12, R126, R136: a byte load from a device interface is an access to it at the byte's own address, in the mode's space. -/
theorem test_load_from_device : runs (failing.setReg 8#5 0x8003#32) 0xD40A0000
    (fun t => t.io.map IoAccess.key == [0x8003] && t.io.map IoAccess.asi == [0x0B#8] && !(t.io.any IoAccess.write) && moved t) = true := by
  decide

/-- R127, R132: a translated store that ends in MAE changes no memory, the page table entry among it. -/
theorem test_failed_store_sets_no_bits :
    (match exec (.st 8#5 8#5 (.reg 0#5)) ((tables 0xE#32 [⟨0, 4, .mae, .mae⟩]).setReg 8#5 0x12345000#32) with
      | .next t => t.tt == 0x09#8 && Memory.readWord t.mem 0x13014 == 0xE#32
      | _ => false) = true := by decide

/-- R765: a SAVE that traps is no instruction executed after the FCMP before it. -/
theorem test_trap_keeps_hazard : runs { inputs 1#32 2#32 with wim := 4#32, hzFcmp := 1 } 0x95E20009 (fun t => t.hzFcmp == 1) = true := by
  decide

/-- For the walk: the root, and each level below it. -/
theorem witness_MmuTableWalkAndProbes :
    (tables 0xE#32 []).cfg.hasRefMmu = true ∧ (tables 0xE#32 []).Descends 0x12345000#32 0 0x10000 ∧
    (tables 0xE#32 []).Descends 0x12345400#32 3 0x13014 ∧
    (tables 0xE#32 [⟨0x10000, 4, .mae, .mae⟩]).busOutcome false 0x10000 ≠ .ok ∧
    (tables 0xE#32 []).busOutcome false 0x13014 = .ok ∧
    (Memory.readWord (tables 0xE#32 []).mem 0x13014).toNat % 4 = 2 ∧ (Memory.readWord mapped.mem 0x10000).toNat % 4 = 2 ∧
    (Memory.readWord (tables 0#32 []).mem 0x13014).toNat % 4 = 0 ∧ (Memory.readWord (tables 7#32 []).mem 0x13014).toNat % 4 = 3 ∧
    (Memory.readWord (tables 5#32 []).mem 0x13014).toNat % 4 = 1 ∧
    (0x12345000#32).toNat / 256 % 16 = 0 ∧ (0x12345300#32).toNat / 256 % 16 = 3 ∧ (0x12345400#32).toNat / 256 % 16 = 4 ∧
    (0x12345500#32).toNat / 256 % 16 = 5 := by
  have h0 (va : Word) : (tables 0xE#32 []).Descends va 0 0x10000 := .root
  have h1 := descends_next 0x12 0x11048 (h0 0x12345400#32) (by decide) (by decide) (by decide) (by decide)
  have h2 := descends_next 0x0D 0x12034 h1 (by decide) (by decide) (by decide) (by decide)
  exact ⟨rfl, h0 _, descends_next 5 0x13014 h2 (by decide) (by decide) (by decide) (by decide), by decide, by decide, by decide, by decide,
    by decide, by decide, by decide, by decide, by decide, by decide, by decide⟩

/-- For the faults: entries that end a walk, a bus error on a table, a page that does not grant a store (ACC 0), one whose physical address
answers an access error, a fault that NF suppresses, and such an error of a pass-through access. -/
theorem witness_MmuFaultRecording :
    (let s := tables 0#32 []
     s.cfg.hasRefMmu = true ∧ s.mmu.e = true ∧ (0x0B#8 : BitVec 8) ∈ [0x08#8, 0x09#8, 0x0A#8, 0x0B#8] ∧
       s.walk s.rootAddress 0 (tableIndexes 0x12345000#32) = .stopped 0#32 3) ∧
    (let s := tables 2#32 []
     s.walk s.rootAddress 0 (tableIndexes 0x12345000#32) = .pte 0x13014 2#32 3 ∧ permissionFault 5#3 ((2#32 : Word).extractLsb' 2 3) ≠ 0#3) ∧
    (let s := tables 2#32 [⟨0, 4, .accessError, .accessError⟩, ⟨0x12034, 4, .mae, .mae⟩]
     s.walk s.rootAddress 0 (tableIndexes 0x12345000#32) = .busError 2) ∧
    (let s := tables 2#32 [⟨0, 4, .accessError, .accessError⟩]
     permissionFault 1#3 ((2#32 : Word).extractLsb' 2 3) = 0#3 ∧ s.busOutcome false 0 = .accessError) ∧
    (let s := { tables 0#32 [⟨0x200001000, 4, .accessError, .accessError⟩] with mmu := { mapped.mmu with nf := true } }
     ¬ s.mmuSpace 0x0B#8 ∧ (∃ t, s.reach 0x0B#8 false true 0x12345000#32 = (t, .suppressed)) ∧
       (∃ t, s.reach 0x0B#8 false false 0x12345000#32 = (t, .suppressed)) ∧
       (0x22#8).toNat / 16 = 2 ∧ s.busOutcome false ((0x22#8).toNat % 16 * 2 ^ 32 + 0x1000) = .accessError) ∧
    (tables 2#32 [⟨0, 4, .mae, .mmuMiss⟩]).busOutcome false 0 = .mae ∧
    (tables 0xE#32 [⟨0, 4, .mae, .mmuMiss⟩]).busOutcome true 0 = .mmuMiss ∧
    permissionFault 5#3 ((0xE#32 : Word).extractLsb' 2 3) = 0#3 ∧
    (let s := tables 0x2E#32 [⟨0x13014, 4, .ok, .mae⟩, ⟨0, 4, .ok, .device⟩]
     s.walk s.rootAddress 0 (tableIndexes 0x12345000#32) = .pte 0x13014 0x2E#32 3 ∧
       s.busOutcome false 0 = .ok ∧ s.busOutcome true 0 = .device ∧ s.busOutcome true 0x13014 ≠ .ok ∧
       (0x2#32 : Word).getLsbD 5 = false ∧ (0x2E#32 : Word).getLsbD 6 = false) :=
  ⟨by decide, by decide, by decide, by decide, ⟨fun h => by rcases h.2 with h | h <;> exact absurd h (by decide),
    ⟨_, pair_of_snd (by decide)⟩, ⟨_, pair_of_snd (by decide)⟩, by decide, by decide⟩,
  by decide, by decide, by decide, by decide⟩

end Sys2Proof.Tests
end

section
/-! What the entry of a trap changes, that taking it back restores it, and which request a step then takes (R14, R700, R704, R750). -/

namespace Sys2Proof.Machine

/-! The entry of a trap, and taking it back. -/

/-- A write of a windowed register changes the windows alone (R23). -/
theorem State.setReg_windowed (s : State) {n : RegNum} (h : 8 ≤ n.toNat) (v : Word) :
    s.setReg n v = { s with windows := (s.setReg n v).windows } := by
  unfold State.setReg State.setRegIn
  split
  · rfl
  · rw [if_neg (by omega)]

/-- A trap's entry changes only state registers, windows, annul and the requests, which it clears (R705). -/
theorem State.enterTrapWindow_frame (s : State) :
    s.enterTrapWindow =
      { s with
        psr := s.enterTrapWindow.psr, wim := s.enterTrapWindow.wim, tba := s.enterTrapWindow.tba, y := s.enterTrapWindow.y
        asr := s.enterTrapWindow.asr, pending := [], windows := s.enterTrapWindow.windows, annul := false
        requests := Requests.none } := by
  have hd := State.drainPending_frame s
  unfold State.enterTrapWindow
  generalize s.drainPending = d at hd ⊢
  dsimp only
  rw [State.setReg_windowed _ (n := 18#5) (by decide), State.setReg_windowed _ (n := 17#5) (by decide), hd]

/-- Taking a trap changes only what the entry saves for it, the mode, pb_error and the requests, which it clears (R705, R707). -/
theorem takeTrap_frame (e : Trap) (s : State) :
    takeTrap e s =
      { s with
        pc := (takeTrap e s).pc, npc := (takeTrap e s).npc, annul := (takeTrap e s).annul, psr := (takeTrap e s).psr
        wim := (takeTrap e s).wim, tba := (takeTrap e s).tba, tt := (takeTrap e s).tt, y := (takeTrap e s).y
        asr := (takeTrap e s).asr, pending := (takeTrap e s).pending, windows := (takeTrap e s).windows
        mode := (takeTrap e s).mode, pbError := (takeTrap e s).pbError, requests := Requests.none } := by
  unfold takeTrap
  split
  · dsimp only
    rw [State.enterTrapWindow_frame]
  · rfl

/-- The requests that stood do not matter to the entry of the trap selected (R704). -/
theorem takeTrap_with_requests (e : Trap) (s : State) (q : Requests) : takeTrap e { s with requests := q } = takeTrap e s := by
  have hw : { s with tt := e.tt, requests := q }.enterTrapWindow = { s with tt := e.tt }.enterTrapWindow := by
    unfold State.enterTrapWindow
    rw [State.drainPending_with s e.tt q,
      show ({ s with tt := e.tt } : State).drainPending = { s.drainPending with tt := e.tt, requests := s.requests } from
        State.drainPending_with s e.tt s.requests]
  unfold takeTrap
  dsimp only
  rw [hw]
  rfl

/-- The entry of a raised trap taken back: the state of the instruction, and the request standing (R14, R700). -/
theorem undoTrap_raise {s : State} (hm : s.mode = .execute) (hp : s.pbError = false) (e : Trap) (b : Bool) (q : Requests) :
    { raise e s with resetIn := b, requests := q }.undoTrap (s.beforeTrap e) =
      { s with resetIn := b, requests := q.flag e, raised := none } := by
  unfold raise
  rw [takeTrap_frame]
  unfold State.undoTrap State.beforeTrap
  rw [← hm, ← hp]

/-! When the entry stands. -/

/-- Nothing intervenes where bp_reset_in is not asserted and no request counts (R700, R708). -/
theorem State.intervenes_eq_false {s : State} {r : Raised} (hi : s.resetIn = false)
    (hq : if r.psr.et then s.requests.detected s.cfg = Requests.none else s.requests.resetTrap = false) :
    s.intervenes r = false := by
  have hn : { s with psr := r.psr }.platformRequests = Requests.none := by
    unfold State.platformRequests
    dsimp only
    by_cases he : r.psr.et = true
    · rw [if_pos he] at hq ⊢
      exact hq
    · rw [if_neg he] at hq ⊢
      unfold Requests.maskInterrupting
      rw [hq]
      rfl
  unfold State.intervenes
  rw [hn, hi]
  decide

/-- bp_reset_in always intervenes (R750). -/
theorem State.intervenes_of_resetIn {s : State} (h : s.resetIn = true) (r : Raised) : s.intervenes r = true := by
  unfold State.intervenes
  rw [h, Bool.true_or]

/-- So does, with ET = 1 before the entry, any request the implementation detects (R700, R704). -/
theorem State.intervenes_of_detected {s : State} {r : Raised} (he : r.psr.et = true)
    (hq : s.requests.detected s.cfg ≠ Requests.none) : s.intervenes r = true := by
  unfold State.intervenes State.platformRequests
  dsimp only
  rw [if_pos he, bne_iff_ne.mpr hq, Bool.or_true]

theorem State.settle_stands {s : State} {r : Raised} (hr : s.raised = some r) (h : s.intervenes r = false) :
    s.settle = { s with requests := Requests.none, raised := none } := by
  unfold State.settle
  rw [hr]
  simp only [h, Bool.false_eq_true, if_false]

theorem State.settle_undoes {s : State} {r : Raised} (hr : s.raised = some r) (h : s.intervenes r = true) :
    s.settle = s.undoTrap r := by
  unfold State.settle
  rw [hr]
  simp only [h, if_true]

theorem State.settle_of_not_raised {s : State} (h : s.raised = none) : s.settle = s := by
  unfold State.settle
  rw [h]

/-- Where something intervenes, a step starts from what the raising instruction left (R700). -/
theorem settle_raise {s : State} (hm : s.mode = .execute) (hp : s.pbError = false) (e : Trap) (b : Bool) (q : Requests)
    (h : { raise e s with resetIn := b, requests := q }.intervenes (s.beforeTrap e) = true) :
    { raise e s with resetIn := b, requests := q }.settle = { s with resetIn := b, requests := q.flag e, raised := none } :=
  (State.settle_undoes (s := { raise e s with resetIn := b, requests := q }) (raise_raised e s) h).trans
    (undoTrap_raise hm hp e b q)

/-! Which request is selected. -/

/-- The flag of a trap stands (R57). -/
def Requests.stands (r : Requests) : Trap → Bool
  | .dataStoreError => r.dataStoreError
  | .instructionAccessMmuMiss => r.instructionAccessMmuMiss
  | .instructionAccessError => r.instructionAccessError
  | .rRegisterAccessError => r.rRegisterAccessError
  | .instructionAccessException => r.instructionAccessException
  | .privilegedInstruction => r.privilegedInstruction
  | .illegalInstruction => r.illegalInstruction
  | .fpDisabled => r.fpDisabled
  | .cpDisabled => r.cpDisabled
  | .unimplementedFlush => r.unimplementedFlush
  | .watchpointDetected => r.watchpointDetected
  | .windowOverflow => r.windowOverflow
  | .windowUnderflow => r.windowUnderflow
  | .memAddressNotAligned => r.memAddressNotAligned
  | .fpException => r.fpException
  | .cpException => r.cpException
  | .dataAccessError => r.dataAccessError
  | .dataAccessMmuMiss => r.dataAccessMmuMiss
  | .dataAccessException => r.dataAccessException
  | .tagOverflow => r.tagOverflow
  | .divisionByZero => r.divisionByZero
  | .trapInstruction _ => r.trapInstruction
  | .interrupt _ => r.interruptLevel != 0#4

/-- An exception's flag, once set, stands. -/
theorem Requests.stands_flag (r : Requests) {e : Trap} (he : ∀ l, e ≠ .interrupt l) : (r.flag e).stands e = true := by
  cases e with
  | interrupt l => exact absurd rfl (he l)
  | _ => rfl

/-- No trap's flag is the reset's (R57). -/
theorem Requests.flag_resetTrap (r : Requests) (e : Trap) : (r.flag e).resetTrap = r.resetTrap := by
  cases e <;> rfl

/-- A request of an exception the implementation detects counts (R10). -/
theorem Requests.stands_detected {r : Requests} {c : Config} {e : Trap} (h : r.stands e = true) (hd : detects c e = true) :
    (r.detected c).stands e = true := by
  cases e <;> simp_all [Requests.stands, Requests.detected]

/-- While an exception stands, the interrupt level, the lowest row of Table 7-1, does not matter to the selection (R677). -/
theorem Requests.select_with_level {r : Requests} {e : Trap} (h : r.stands e = true) (he : ∀ l, e ≠ .interrupt l) (level : BitVec 4) :
    { r with interruptLevel := level }.select = r.select := by
  cases e with
  | interrupt l => exact absurd rfl (he l)
  | _ =>
    unfold Requests.stands at h
    simp only [Requests.select, h, if_true]

/-- R694 changes of the requests that count the interrupt level at most. -/
theorem State.acceptInterrupt_eq (s : State) :
    ∃ level, s.acceptInterrupt = { s with requests := { s.platformRequests with interruptLevel := level } } := by
  unfold State.acceptInterrupt
  split
  · exact ⟨s.irl, rfl⟩
  · exact ⟨s.platformRequests.interruptLevel, rfl⟩

/-- With ET = 1, no reset requested and an exception standing, a step first takes the request selected, whatever interrupt is
pending (R694, R700, R704). -/
theorem State.boundary_of_stands {s : State} {e x : Trap} (het : s.psr.et = true) (hr : s.requests.resetTrap = false)
    (hs : (s.requests.detected s.cfg).stands e = true) (he : ∀ l, e ≠ .interrupt l)
    (hx : (s.requests.detected s.cfg).select = some x) : s.boundary = takeTrap x s := by
  obtain ⟨q, ha, hq, hsel⟩ :
      ∃ q : Requests, s.acceptInterrupt = { s with requests := q } ∧ q.resetTrap = false ∧ q.select = some x := by
    obtain ⟨level, ha⟩ := s.acceptInterrupt_eq
    have hp : s.platformRequests = s.requests.detected s.cfg := if_pos het
    exact ⟨{ s.requests.detected s.cfg with interruptLevel := level }, by rw [ha, hp], hr,
      (Requests.select_with_level hs he level).trans hx⟩
  unfold State.boundary
  rw [ha]
  dsimp only
  rw [hq, hsel]
  exact takeTrap_with_requests x s q

/-! The step after a raised trap. -/

/-- Where nothing intervenes a step is the step from the entry made (R700). -/
theorem step_of_not_intervenes {s : State} {r : Raised} (hr : s.raised = some r) (h : s.intervenes r = false) :
    step s = step { s with requests := Requests.none, raised := none } := by
  unfold step modeStep
  rw [State.settle_stands hr h, State.settle_of_not_raised (s := { s with requests := Requests.none, raised := none }) rfl]

/-- bp_reset_in before the entry of a raised trap leads to reset_mode with nothing of the trap done, its request standing (R750). -/
theorem step_raise_resetIn {s : State} (hm : s.mode = .execute) (hp : s.pbError = false) (e : Trap) :
    step { raise e s with resetIn := true } =
      .next { s with resetIn := true, mode := .reset, requests := Requests.none.flag e, raised := none } := by
  have hq : (raise e s).requests = Requests.none := by
    rw [raise_requests, takeTrap_frame]
  have hs : { raise e s with resetIn := true }.settle =
      { s with resetIn := true, requests := (raise e s).requests.flag e, raised := none } :=
    settle_raise hm hp e true _ (State.intervenes_of_resetIn rfl _)
  rw [hq] at hs
  unfold step modeStep
  rw [hs]
  unfold settledStep State.enterReset
  dsimp only
  rw [hm, ← hp]
  rfl

/-- A request of the platform that counts displaces the entry of a raised exception, and the highest request of all standing is taken
from the state the instruction left (R700, R704). -/
theorem boundary_settle_raise {s : State} (hm : s.mode = .execute) (hp : s.pbError = false) {e x : Trap} {q : Requests}
    (het : s.psr.et = true) (he : ∀ l, e ≠ .interrupt l) (hd : detects s.cfg e = true)
    (hr : q.resetTrap = false) (hq : q.detected s.cfg ≠ Requests.none) (hx : ((q.flag e).detected s.cfg).select = some x) :
    { raise e s with requests := q }.settle.boundary = takeTrap x { s with raised := none } := by
  have hcfg : (raise e s).cfg = s.cfg := takeTrap_cfg e s
  have hri : (raise e s).resetIn = s.resetIn := by
    rw [raise_resetIn, takeTrap_frame]
  have hs : { raise e s with requests := q }.settle =
      { s with resetIn := (raise e s).resetIn, requests := q.flag e, raised := none } :=
    settle_raise hm hp e _ q (State.intervenes_of_detected het (by dsimp only; rw [hcfg]; exact hq))
  rw [hri] at hs
  rw [hs, State.boundary_of_stands (s := { s with requests := q.flag e, raised := none }) het
    ((q.flag_resetTrap e).trans hr)
    (Requests.stands_detected (q.stands_flag he) hd) he hx]
  exact takeTrap_with_requests x { s with raised := none } _

end Sys2Proof.Machine

open Sys2Proof Sys2Proof.Machine

/-- Settles O13: where nothing intervenes the entry stands; else it is taken back exactly, and R750 or R704 decides anew. -/
theorem raisedTrapsAreReconsidered : Obligations.RaisedTrapsAreReconsidered := by
  unfold Obligations.RaisedTrapsAreReconsidered
  refine ⟨fun s r hr hi hq => step_of_not_intervenes hr (State.intervenes_eq_false hi hq), fun s e hm hp => ⟨?_, ?_⟩⟩
  · exact step_raise_resetIn hm hp e
  · intro q x het _ he hd hr hq hx
    exact boundary_settle_raise hm hp het he hd hr hq hx
end

section
/-! Where an access goes (R130, R132, R139, R216, R217), what memory_read and memory_write answer there (R126, R127, R136), and what a
fetch past an instruction buffer leaves of it (R181, R185). -/

namespace Sys2Proof.Machine

/-! Where an access goes. -/

/-- The spaces where R130 has memory. -/
theorem realAsi_iff (asi : BitVec 8) : realAsi asi = true ↔ asi ∈ [0x08#8, 0x09#8, 0x0A#8, 0x0B#8] := by
  simp [realAsi, or_assoc]

/-- The pass-through spaces are 0x20 to 0x2F (R217). -/
theorem passThroughSpace_iff (c : Config) (asi : BitVec 8) :
    (c.hasRefMmu && asi.extractLsb' 4 4 == 2#4) = true ↔ c.hasRefMmu = true ∧ asi.toNat / 16 = 2 := by
  have h : (asi.extractLsb' 4 4).toNat = asi.toNat / 16 := by
    rw [BitVec.extractLsb'_toNat, Nat.shiftRight_eq_div_pow]
    omega
  rw [Bool.and_eq_true, beq_iff_eq, ← BitVec.toNat_inj, h]
  rfl

/-- The physical address of a word whose upper four bits are given (R217). -/
theorem physicalAddress_toNat (upper : BitVec 4) (a : Word) :
    (upper ++ wordAddress a : BitVec 36).toNat = upper.toNat * 2 ^ 32 + (a.toNat - a.toNat % 4) := by
  rw [BitVec.toNat_append, ← Nat.shiftLeft_add_eq_or_of_lt (wordAddress a).isLt, Nat.shiftLeft_eq, wordAddress_toNat]

/-- Untranslated, an access to one of the spaces 8 to 0xB goes to the word's own address (R130, R216). -/
theorem State.reach_real {s : State} {asi : BitVec 8} (h : realAsi asi = true) (hu : s.untranslated) (fetch store : Bool) (a : Word) :
    s.reach asi fetch store a = (s, s.reachKey store (a.toNat - a.toNat % 4)) := by
  have he : ¬ (s.cfg.hasRefMmu && s.mmu.e) = true := by
    rw [Bool.and_eq_true]
    exact hu
  unfold State.reach
  rw [if_pos h, if_neg he, wordAddress_toNat]

/-- An access error of the memory map's answer is one of the map (R132). -/
theorem State.reachKey_accessError {s : State} {store : Bool} {k : Nat} (h : s.reachKey store k = .failed .accessError) :
    s.busOutcome store k = .accessError := by
  unfold State.reachKey at h
  cases hb : s.busOutcome store k with
  | accessError => rfl
  | _ =>
    rw [hb] at h
    cases h

/-- A pass-through access goes to the physical address with the space's low four bits above it, unless the enabled MMU records an access
error there (R217, R237). -/
theorem State.reach_passThrough {s : State} {asi : BitVec 8} (hm : s.cfg.hasRefMmu = true) (hs : asi.toNat / 16 = 2) (fetch store : Bool)
    (a : Word)
    (h : s.mmu.e = false ∨ s.busOutcome store (asi.toNat % 16 * 2 ^ 32 + (a.toNat - a.toNat % 4)) ≠ .accessError) :
    s.reach asi fetch store a = (s, s.reachKey store (asi.toNat % 16 * 2 ^ 32 + (a.toNat - a.toNat % 4))) := by
  have hr : ¬ realAsi asi = true := by
    rw [realAsi_iff]
    intro hmem
    simp only [List.mem_cons, List.not_mem_nil, or_false] at hmem
    obtain rfl | rfl | rfl | rfl := hmem <;> exact absurd hs (by decide)
  have hk : (asi.extractLsb' 0 4 ++ wordAddress a : BitVec 36).toNat = asi.toNat % 16 * 2 ^ 32 + (a.toNat - a.toNat % 4) := by
    rw [physicalAddress_toNat, BitVec.extractLsb'_toNat]
    rfl
  unfold State.reach State.passThrough
  rw [if_neg hr, if_pos ((passThroughSpace_iff _ _).mpr ⟨hm, hs⟩), hk]
  split
  · rename_i hf
    have he : s.mmu.e = false := h.resolve_right fun hne => hne (State.reachKey_accessError hf)
    rw [if_neg (by rw [he]; exact Bool.false_ne_true), hf]
  · rfl

/-- An access to any other space goes where ASI_MAP says (R132, R139). -/
theorem State.reach_other {s : State} {asi : BitVec 8} (hr : asi ∉ [0x08#8, 0x09#8, 0x0A#8, 0x0B#8])
    (hp : ¬ (s.cfg.hasRefMmu = true ∧ asi.toNat / 16 = 2)) (fetch store : Bool) (a : Word) :
    s.reach asi fetch store a =
      (s, (s.cfg.altSpaces.lookup asi).elim (.failed .mae) fun kind => s.otherSpace kind asi store a) := by
  unfold State.reach
  rw [if_neg (mt (realAsi_iff asi).mp hr), if_neg (mt (passThroughSpace_iff _ _).mp hp)]
  cases s.cfg.altSpaces.lookup asi <;> rfl

/-! The instruction buffer. -/

theorem oldWords_append (k : Nat) (es es' : List IBufEvent) : oldWords k (es ++ es') = oldWords k es ++ oldWords k es' :=
  List.filterMap_append

/-- An event adds its word to the old words of its own key alone. -/
theorem oldWords_cons_of_not_ofKey {k : Nat} {e : IBufEvent} (h : e.ofKey k = false) (es : List IBufEvent) :
    oldWords k (e :: es) = oldWords k es := by
  cases e with
  | flush double left => rfl
  | store key old =>
    have hne : ¬ key = k := beq_eq_false_iff_ne.mp h
    simp [oldWords, hne]

theorem oldWords_cons_of_ofKey {k : Nat} {e : IBufEvent} (h : e.ofKey k = true) (es : List IBufEvent) :
    ∃ old, oldWords k (e :: es) = old :: oldWords k es := by
  cases e with
  | flush double left => exact absurd h Bool.false_ne_true
  | store key old =>
    have heq : key = k := beq_iff_eq.mp h
    exact ⟨old, by simp [oldWords, heq]⟩

/-- Where no event is of a key, no old word of it is left. -/
theorem oldWords_filter_not_ofKey (k : Nat) (es : List IBufEvent) : oldWords k (es.filter fun e => !e.ofKey k) = [] := by
  induction es with
  | nil => rfl
  | cons e es ih =>
    cases h : e.ofKey k with
    | true => simpa only [List.filter_cons, h, Bool.not_true, Bool.false_eq_true, if_false] using ih
    | false =>
      simp only [List.filter_cons, h, Bool.not_false, if_true]
      rw [oldWords_cons_of_not_ofKey h, ih]

/-- What follows the `n`-th remembered store of a key remembers the words of the stores after it. -/
theorem oldWords_splitAtStore (k n : Nat) (es : List IBufEvent) :
    oldWords k (splitAtStore k n es).2 = (oldWords k es).drop n := by
  induction es generalizing n with
  | nil => cases n <;> simp [splitAtStore, oldWords]
  | cons e es ih =>
    cases n with
    | zero => rfl
    | succ n =>
      have hs : (splitAtStore k (n + 1) (e :: es)).2 = (splitAtStore k (if e.ofKey k then n else n + 1) es).2 := rfl
      rw [hs, ih]
      cases h : e.ofKey k with
      | true =>
        obtain ⟨old, ho⟩ := oldWords_cons_of_ofKey h es
        rw [ho, if_pos rfl, List.drop_succ_cons]
      | false => rw [oldWords_cons_of_not_ofKey h, if_neg Bool.false_ne_true]

/-- A fetch that has seen `n` stores of a key forgets the words those replaced, and no later one (R185). -/
theorem oldWords_seeStores (k n : Nat) (es : List IBufEvent) : oldWords k (seeStores k n es) = (oldWords k es).drop n := by
  have hs : seeStores k n es = (runFlushes (splitAtStore k n es).1).filter (fun e => !e.ofKey k) ++ (splitAtStore k n es).2 := rfl
  rw [hs, oldWords_append, oldWords_filter_not_ofKey, List.nil_append, oldWords_splitAtStore]

/-- A fetch of a key delivers an old word or memory's, and forgets the words older than it (R181, R185, U20). -/
theorem State.fetchedWord_spec (s : State) (k : Nat) (w : Word) :
    ∃ n, (s.fetchedWord k w).2 = (oldWords k s.ibuf).getD n w ∧ oldWords k (s.fetchedWord k w).1.ibuf = (oldWords k s.ibuf).drop n := by
  unfold State.fetchedWord
  split
  · rename_i h
    exact ⟨0, by rw [h]; rfl, rfl⟩
  · refine ⟨Config.freeFetch s.freeCtr, rfl, ?_⟩
    show oldWords k (seeStores k _ s.ibuf) = _
    rw [oldWords_seeStores, ← List.drop_eq_drop_min]

/-! memory_read. -/

/-- Outside the MMU's own spaces memory_read is what `reach` leads to. -/
theorem State.memoryRead_key {s u : State} {asi : BitVec 8} {a : Word} {k : Nat} (hm : ¬ s.mmuSpace asi)
    (hr : s.reach asi false false a = (u, .key k)) (isWord : Bool) :
    s.memoryRead asi false isWord a = (u, .ok (Memory.readWord u.mem k)) := by
  obtain ⟨h3, h4⟩ := State.not_mmuSpace hm
  unfold State.memoryRead
  rw [h3, h4, hr]
  rfl

/-- A fetch of a key is answered past the instruction buffer (R181). -/
theorem State.memoryRead_fetch {s u : State} {asi : BitVec 8} {a : Word} {k : Nat} (hm : ¬ s.mmuSpace asi)
    (hr : s.reach asi true false a = (u, .key k)) (isWord : Bool) :
    s.memoryRead asi true isWord a =
      ((u.fetchedWord k (Memory.readWord u.mem k)).1, .ok (u.fetchedWord k (Memory.readWord u.mem k)).2) := by
  obtain ⟨h3, h4⟩ := State.not_mmuSpace hm
  unfold State.memoryRead
  rw [h3, h4, hr]
  rfl

/-- A device answers a read of it, the access joining its past (R12, R136). -/
theorem State.memoryRead_device {s u : State} {asi : BitVec 8} {a : Word} {k : Nat} {fetch : Bool} (hm : ¬ s.mmuSpace asi)
    (hr : s.reach asi fetch false a = (u, .device k)) (isWord : Bool) :
    s.memoryRead asi fetch isWord a =
      ((u.readDevice asi (byteKey k a)).1, .ok (u.readDevice asi (byteKey k a)).2) := by
  obtain ⟨h3, h4⟩ := State.not_mmuSpace hm
  unfold State.memoryRead
  rw [h3, h4, hr]
  rfl

/-- A read that fails answers its error (R126). -/
theorem State.memoryRead_failed {s u : State} {asi : BitVec 8} {a : Word} {e : BusError} {fetch : Bool} (hm : ¬ s.mmuSpace asi)
    (hr : s.reach asi fetch false a = (u, .failed e)) (isWord : Bool) :
    s.memoryRead asi fetch isWord a = (u, .error e) := by
  obtain ⟨h3, h4⟩ := State.not_mmuSpace hm
  unfold State.memoryRead
  rw [h3, h4, hr]
  rfl

/-! memory_write. -/

/-- A write that fails answers its error and writes nothing but the store signals (R127). -/
theorem State.memoryWrite_failed {s u : State} {asi : BitVec 8} {a : Word} {e : BusError} (hm : ¬ s.mmuSpace asi)
    (hr : s.reach asi false true a = (u, .failed e)) (isWord : Bool) (mask : BitVec 4) (data : Word) :
    s.memoryWrite asi isWord a mask data = (storeSignals s u u.ibuf u.mem, some e) := by
  obtain ⟨h3, h4⟩ := State.not_mmuSpace hm
  unfold State.memoryWrite
  dsimp only
  rw [h3, h4, State.reach_afterBarrier, hr]
  rfl

/-- The four bytes at the key of a word write, most significant first (R127). -/
theorem Memory.read_writeMasked_byte {m : Memory} (h : Memory.wf m = true) (k : Nat) (mask : BitVec 4) (data : Word) {n : Nat} (hn : n < 4) :
    Memory.read (Memory.writeMasked m k mask data) (k + n) =
      if mask.getLsbD (3 - n) then data.extractLsb' (24 - 8 * n) 8 else Memory.read m (k + n) := by
  rw [Memory.read_writeMasked h]
  interval_cases n <;> simp

end Sys2Proof.Machine

open Sys2Proof Sys2Proof.Machine

/-- Settles O29: the laws of a byte of memory, where an access goes, and what a read, a write and a fetch do there. -/
theorem memoryReadsAndWrites : Obligations.MemoryReadsAndWrites := by
  unfold Obligations.MemoryReadsAndWrites
  refine ⟨fun k => rfl, fun m k b hm => ⟨Memory.wf_write hm k b, fun x => Memory.read_write hm k x b⟩, ?_, ?_⟩
  · intro s asi fetch store a
    refine ⟨fun hr hu => ?_, fun hm hs h => ?_, fun hr _ hp => ?_⟩
    · exact State.reach_real ((realAsi_iff asi).mpr hr) hu fetch store a
    · exact State.reach_passThrough hm hs fetch store a h
    · have ho := State.reach_other hr hp fetch store a
      refine ⟨fun hl => ?_, fun hl => ?_, fun hl => ?_, fun upper hl => ?_⟩ <;> rw [hl] at ho
      · exact ho
      · rw [Option.elim_some, State.otherSpace, wordAddress_toNat] at ho
        exact ho
      · rw [Option.elim_some, State.otherSpace, wordAddress_toNat] at ho
        exact ho
      · rw [Option.elim_some, State.otherSpace, physicalAddress_toNat] at ho
        exact ho
  · intro s u asi isWord a k hm
    refine ⟨fun hr => ?_, fun fetch hr => ?_, fun fetch e hr => ?_, fun hr => ?_, fun mask data => ⟨fun hr hwf => ?_, fun hr => ?_,
      fun e hr => ?_⟩⟩
    · exact State.memoryRead_key hm hr isWord
    · exact ⟨_, State.memoryRead_device hm hr isWord⟩
    · exact State.memoryRead_failed hm hr isWord
    · obtain ⟨n, hword, hold⟩ := u.fetchedWord_spec k (Memory.readWord u.mem k)
      refine ⟨_, n, ?_, hold, State.fetchedWord_frame u k _⟩
      rw [State.memoryRead_fetch hm hr, hword]
      rfl
    · have hwu : Memory.wf u.mem = true := by
        have := State.reach_wf hwf asi false true a
        rwa [hr] at this
      exact ⟨_, State.memoryWrite_key hm hr isWord mask data, rfl, rfl, fun n hn => Memory.read_writeMasked_byte hwu k mask data hn,
        fun x hx => Memory.read_writeMasked_outside u.mem hx mask data⟩
    · exact State.memoryWrite_device hm hr isWord mask data
    · exact State.memoryWrite_failed hm hr isWord mask data
end

section
/-! Every shared operation, every instruction and so every step keeps the invariant of Safety.lean (R14, R700, R750). -/

namespace Sys2Proof.Machine

/-! Updates of the state, field by field. -/

/-- What the invariant does not speak of may change. -/
theorem State.Inv.of_unmentioned {s t : State} (h : s.Inv)
    (e : t = { s with
      globals := t.globals, windows := t.windows, tba := t.tba, tt := t.tt, y := t.y, asr := t.asr, annul := t.annul
      requests := t.requests, storeBarrierPending := t.storeBarrierPending, rRegisterError := t.rRegisterError, f := t.f
      ibuf := t.ibuf, ir := t.ir, hzFcmp := t.hzFcmp, hzLdfsr := t.hzLdfsr, freeCtr := t.freeCtr }) : t.Inv := by
  rw [e]
  exact ⟨h.memory, h.pc, h.npc, h.cwp, h.wim, h.ec, h.ef, h.pending, h.raised, h.pbError, h.blockByte, h.blockWord, h.ns, h.fqAbsent,
    h.fqDepth, h.fpuMode, h.cp, h.ctx, h.fav⟩

/-- The PSR may be replaced by one whose CWP is implemented (R41) and whose EC and EF are zero where the unit is absent (R38). -/
theorem State.Inv.setPsr {s : State} (h : s.Inv) {p : Psr} (hcwp : p.cwp.toNat < s.cfg.nwindows) (hec : p.ec = true → s.cfg.hasCp = true)
    (hef : p.ef = true → s.cfg.hasFpu = true) : { s with psr := p }.Inv :=
  ⟨h.memory, h.pc, h.npc, hcwp, h.wim, hec, hef, h.pending, h.raised, h.pbError, h.blockByte, h.blockWord, h.ns, h.fqAbsent, h.fqDepth,
   h.fpuMode, h.cp, h.ctx, h.fav⟩

/-- The FPU's registers may be replaced by legal ones (R98, R105, R107). -/
theorem State.Inv.setFpu {s : State} (h : s.Inv) {x : Fsr} {q : List (BitVec 64)} {m : FpuMode} {p : Option (BitVec 64)}
    (hns : x.ns = true → s.cfg.fsrNsImplemented = true) (hq : s.cfg.hasFq = false → q = []) (hd : q.length ≤ s.cfg.fqDepth)
    (hm : s.cfg.fpTrapsDeferred = false → m = .execute ∧ p = none) :
    { s with fsr := x, fq := q, fpuMode := m, pendingFp := p }.Inv :=
  ⟨h.memory, h.pc, h.npc, h.cwp, h.wim, h.ec, h.ef, h.pending, h.raised, h.pbError, h.blockByte, h.blockWord, hns, hq, hd, hm, h.cp, h.ctx,
   h.fav⟩

/-- Only a coprocessor whose traps are deferred may hold one outstanding (R634). -/
theorem State.Inv.setCoprocessor {s : State} (h : s.Inv) {c : Coprocessor}
    (hc : c.exceptionPending = true → s.cfg.cpTrapsDeferred = true) : { s with cp := c }.Inv :=
  ⟨h.memory, h.pc, h.npc, h.cwp, h.wim, h.ec, h.ef, h.pending, h.raised, h.pbError, h.blockByte, h.blockWord, h.ns, h.fqAbsent, h.fqDepth,
   h.fpuMode, hc, h.ctx, h.fav⟩

/-- pb_error and the mode change together (R707, R750). -/
theorem State.Inv.setMode {s : State} (h : s.Inv) {m : Mode} {b : Bool} (hm : b = true ↔ m = .error) (q : Requests) :
    { s with mode := m, pbError := b, requests := q }.Inv :=
  ⟨h.memory, h.pc, h.npc, h.cwp, h.wim, h.ec, h.ef, h.pending, h.raised, hm, h.blockByte, h.blockWord, h.ns, h.fqAbsent, h.fqDepth,
   h.fpuMode, h.cp, h.ctx, h.fav⟩

/-! Integer instructions. -/

theorem State.Inv.setIcc {s : State} (h : s.Inv) (i : Icc) : (s.setIcc i).Inv := h.setPsr h.cwp h.ec h.ef

theorem State.Inv.setY {s : State} (h : s.Inv) (v : Word) : (s.setY v).Inv := h.of_unmentioned rfl

theorem State.Inv.drawn {s : State} (h : s.Inv) : s.drawn.Inv := h.of_unmentioned rfl

theorem State.Inv.setCwp {s : State} (h : s.Inv) {w : BitVec 5} (hw : w.toNat < s.cfg.nwindows) : (s.setCwp w).Inv :=
  h.setPsr hw h.ec h.ef

/-- Delivering a value to r[rd] and advancing: the end of most instructions. -/
theorem State.Inv.deliver {s : State} (h : s.Inv) (rd : RegNum) (v : Word) : (s.setReg rd v).advance.Inv := (h.setReg rd v).advance

/-- The same with icc written. -/
theorem State.Inv.deliverCc {s : State} (h : s.Inv) (rd : RegNum) (v : Word) (i : Icc) : ((s.setReg rd v).setIcc i).advance.Inv :=
  ((h.setReg rd v).setIcc i).advance

theorem State.Inv.arithTrap {s : State} (h : s.Inv) (f icc overflow rd rs1 op2) : (arithTrap f icc overflow rd rs1 op2 s).Inv := by
  unfold Machine.arithTrap
  split
  · exact h.raise _
  · exact h.deliverCc ..

theorem State.Inv.multiplyStep {s : State} (h : s.Inv) (rd rs1 op2) : (multiplyStep rd rs1 op2 s).Inv :=
  (((h.setReg _ _).setY _).setIcc _).advance

theorem State.Inv.multiply {s : State} (h : s.Inv) (product rd rs1 op2) : (multiply product rd rs1 op2 s).Inv :=
  ((h.setReg _ _).setY _).advance

theorem State.Inv.multiplyCc {s : State} (h : s.Inv) (product rd rs1 op2) : (multiplyCc product rd rs1 op2 s).Inv :=
  (((h.setReg _ _).setY _).setIcc _).advance

theorem State.Inv.divideY {s : State} (h : s.Inv) (q : Quotient) : (s.divideY q).Inv := by
  unfold State.divideY
  split
  · exact h.setY _
  · exact h

theorem State.Inv.divide {s : State} (h : s.Inv) (quotient rd rs1 op2) : (divide quotient rd rs1 op2 s).Inv := by
  unfold Machine.divide
  split
  · exact h.raise _
  · exact ((h.setReg _ _).divideY _).advance

theorem State.Inv.divideCc {s : State} (h : s.Inv) (quotient rd rs1 op2) : (divideCc quotient rd rs1 op2 s).Inv := by
  unfold Machine.divideCc
  split
  · exact h.raise _
  · exact (((h.setReg _ _).divideY _).setIcc _).advance

/-- SAVE and RESTORE go to an implemented window (R25, R447). -/
theorem State.Inv.changeWindow {s : State} (h : s.Inv) {w : BitVec 5} (hw : w.toNat < s.cfg.nwindows) (e rd rs1 op2) :
    (changeWindow w e rd rs1 op2 s).Inv := by
  unfold Machine.changeWindow
  split
  · exact h.raise _
  · exact (h.setCwp hw).deliver ..

/-! Control transfer: every target is a word address (R471, R475, R480, R484, R486). -/

theorem AccessSize.aligned_word_iff_wordAligned (a : Word) : AccessSize.word.aligned a = true ↔ wordAligned a := beq_iff_eq

theorem wordAligned_iff (a : Word) : wordAligned a ↔ a.toNat % 4 = 0 :=
  (AccessSize.aligned_word_iff_wordAligned a).symm.trans (AccessSize.aligned_word_iff a)

theorem wordAligned_add {a b : Word} (ha : wordAligned a) (hb : wordAligned b) : wordAligned (a + b) := by
  rw [wordAligned_iff] at *
  rw [BitVec.toNat_add]
  omega

theorem branchTarget_aligned {pc : Word} (h : wordAligned pc) (disp22 : BitVec 22) : wordAligned (branchTarget pc disp22) := by
  refine wordAligned_add h (BitVec.eq_of_getLsbD_eq fun i hi => ?_)
  rw [BitVec.getLsbD_extractLsb', BitVec.getLsbD_signExtend, Nat.zero_add, BitVec.getLsbD_append, if_pos hi]
  simp [show i < 24 by omega]

theorem callTarget_aligned {pc : Word} (h : wordAligned pc) (disp30 : BitVec 30) : wordAligned (callTarget pc disp30) := by
  refine wordAligned_add h (BitVec.eq_of_getLsbD_eq fun i hi => ?_)
  erw [BitVec.getLsbD_extractLsb', Nat.zero_add, BitVec.getLsbD_append]
  simp [hi]

theorem State.Inv.branch {s : State} (h : s.Inv) (taken cond a disp22) : (branch taken cond a disp22 s).Inv := by
  unfold Machine.branch
  split
  · exact (h.jump (branchTarget_aligned h.pc disp22)).of_unmentioned rfl
  · exact h.advance.of_unmentioned rfl

theorem State.Inv.trapIcc {s : State} (h : s.Inv) (cond rs1 opn) : (trapIcc cond rs1 opn s).Inv := by
  unfold Machine.trapIcc
  split
  · exact h.raise _
  · exact h.advance

theorem State.Inv.callLink {s : State} (h : s.Inv) (disp30) : (callLink disp30 s).Inv :=
  (h.setReg _ _).jump (callTarget_aligned h.pc disp30)

theorem State.Inv.jumpLink {s : State} (h : s.Inv) (rd rs1 op2) : (jumpLink rd rs1 op2 s).Inv :=
  h.ifAligned _ _ fun ha => (h.setReg _ _).jump ((AccessSize.aligned_word_iff_wordAligned _).mp ha)

/-- RETT's traps, its stops in error_mode, and its return to an implemented window and a word address (R486, R487). -/
theorem State.Inv.returnTrap {s : State} (h : s.Inv) (rs1 op2) : (returnTrap rs1 op2 s).Inv := by
  unfold Machine.returnTrap
  split
  · exact h.raise _
  · split
    · exact h.errorStop _
    · split
      · exact h.errorStop _
      · split
        · exact h.errorStop _
        · rename_i ha
          have ha : wordAligned (s.address rs1 op2) := (AccessSize.aligned_word_iff_wordAligned _).mp (by simpa using ha)
          exact (h.jump ha).setPsr (nextWindow_lt _ _) h.ec h.ef

/-! State registers: a write puts only legal values on the list of delayed writes (R38, R48, R520). -/

theorem State.Inv.supervisor {s : State} (h : s.Inv) {k : State} (hk : k.Inv) : (s.supervisor k).Inv := by
  unfold State.supervisor
  split
  · exact hk
  · exact h.raise _

theorem State.Inv.accessAsr {s : State} (h : s.Inv) (n : RegNum) {k : State} (hk : k.Inv) : (s.accessAsr n k).Inv := by
  unfold State.accessAsr
  split
  · exact h.raise _
  · split
    · exact hk
    · exact h.raise _

theorem State.Inv.readAsr {s : State} (h : s.Inv) (rd rs1) : (readAsr rd rs1 s).Inv := by
  unfold Machine.readAsr
  split
  · exact h.accessAsr _ (h.deliver ..)
  · exact (h.deliver ..).drawn

theorem State.Inv.writeAsr {s : State} (h : s.Inv) (rd rs1 op2) : (writeAsr rd rs1 op2 s).Inv := by
  unfold Machine.writeAsr
  split
  · exact h.accessAsr _ (h.enqueue (w := .asr ..) trivial).advance
  · exact h.advance

/-- Masked with 2^NWINDOWS - 1 every word is a legal WIM (R48). -/
theorem legal_wim (c : Config) (v : Word) : (StateWrite.wim (v &&& wimMask c)).legal c := by
  show v &&& wimMask c &&& wimMask c = v &&& wimMask c
  rw [BitVec.and_assoc, BitVec.and_self]

/-- What WRPSR writes late is legal where the CWP is (R38, R520). -/
theorem legal_psrWrite {c : Config} {v : Word} (h : (v.extractLsb' 0 5).toNat < c.nwindows) : (StateWrite.psr (psrWrite c v)).legal c :=
  ⟨h, fun he => (Bool.and_eq_true_iff.mp he).2, fun he => (Bool.and_eq_true_iff.mp he).2⟩

theorem State.Inv.writePsr {s : State} (h : s.Inv) (rs1 op2) : (writePsr rs1 op2 s).Inv := by
  refine h.supervisor ?_
  split
  · exact h.raise _
  · rename_i hc
    have hs : (s.setEtPil (s.writeValue rs1 op2)).Inv := h.setPsr h.cwp h.ec h.ef
    exact (hs.enqueue (legal_psrWrite (Nat.lt_of_not_le hc))).advance

theorem State.Inv.flush {s : State} (h : s.Inv) (a) : (flush a s).Inv := by
  unfold Machine.flush
  split
  · refine State.Inv.advance ?_
    unfold State.flushAddress
    split
    · exact h.of_unmentioned rfl
    · exact h
  · exact h.raise _
  · exact h.raise _

/-! Loads and stores. -/

theorem State.Inv.alternate {s : State} (h : s.Inv) (alt : AltAddr) {k : BitVec 8 → RegNum → State} (hk : ∀ asi rs2, (k asi rs2).Inv) :
    (s.alternate alt k).Inv := by
  unfold State.alternate
  split
  · split
    · exact hk ..
    · exact h.raise _
  · exact h.raise _

theorem State.Inv.readingDouble {s : State} (h : s.Inv) (asi a) {first second : Word → State → State}
    (h₁ : ∀ w t, t.Inv → (first w t).Inv) (h₂ : ∀ w t, t.Inv → (second w t).Inv) : (s.readingDouble asi a first second).Inv :=
  h.reading _ _ _ fun w t ht _ => (h₁ w t ht).reading _ _ _ fun w t ht _ => h₂ w t ht

theorem State.Inv.writingDouble {s : State} (h : s.Inv) (asi a v0 v1) {k : State → State} (hk : ∀ t, t.Inv → (k t).Inv) :
    (s.writingDouble asi a v0 v1 k).Inv :=
  h.writing _ _ _ _ fun _ ht _ => ht.writing _ _ _ _ fun t ht _ => hk t ht

theorem State.Inv.loadReg {s : State} (h : s.Inv) (size signed rd asi a) : (loadReg size signed rd asi a s).Inv :=
  h.ifAligned _ _ fun _ => h.reading _ _ _ fun _ _ ht _ => ht.deliver ..

theorem State.Inv.storeReg {s : State} (h : s.Inv) (size rd asi a) : (storeReg size rd asi a s).Inv :=
  h.ifAligned _ _ fun _ => h.writing _ _ _ _ fun _ ht _ => ht.advance

theorem State.Inv.loadRegDouble {s : State} (h : s.Inv) (rd asi a) : (loadRegDouble rd asi a s).Inv := by
  unfold Machine.loadRegDouble
  split
  · exact h.raise _
  · exact h.ifAligned _ _ fun _ => h.readingDouble _ _ (fun _ _ ht => ht.setReg ..) fun _ _ ht => ht.deliver ..

theorem State.Inv.storeRegDouble {s : State} (h : s.Inv) (rd asi a) : (storeRegDouble rd asi a s).Inv := by
  unfold Machine.storeRegDouble
  split
  · exact h.raise _
  · exact h.ifAligned _ _ fun _ => h.writingDouble _ _ _ _ fun _ ht => ht.advance

/-! The atomic load-stores: between their read and their write a block signal is asserted, so that what is kept meanwhile is the
invariant of the state with the signal released (R360, R362). -/

/-- `block` asserts and releases one of the two block signals. -/
def IsBlock (block : State → Bool → State) : Prop := block = State.blockByte ∨ block = State.blockWord

theorem State.Inv.release {s : State} (h : s.Inv) {block} (hb : IsBlock block) : (block (block s true) false).Inv := by
  rcases hb with rfl | rfl
  · exact ⟨h.memory, h.pc, h.npc, h.cwp, h.wim, h.ec, h.ef, h.pending, h.raised, h.pbError, rfl, h.blockWord, h.ns, h.fqAbsent, h.fqDepth,
      h.fpuMode, h.cp, h.ctx, h.fav⟩
  · exact ⟨h.memory, h.pc, h.npc, h.cwp, h.wim, h.ec, h.ef, h.pending, h.raised, h.pbError, h.blockByte, rfl, h.ns, h.fqAbsent, h.fqDepth,
      h.fpuMode, h.cp, h.ctx, h.fav⟩

theorem State.Inv.memoryRead_blocked {s : State} {block} (hb : IsBlock block) (h : (block s false).Inv) (asi fetch isWord a) :
    (block (s.memoryRead asi fetch isWord a).1 false).Inv := by
  have hk := State.memoryRead_keeps s asi fetch isWord a
  rcases hb with rfl | rfl
  all_goals
    have hwf : Memory.wf s.mem = true := h.memory
    rw [State.memoryRead_frame]
    exact h.access (State.memoryRead_wf hwf ..) (hk.fav h.fav) (by rw [hk.ctx]; exact h.ctx) s.lastWriteSync s.storeBarrierPending _ _ _

theorem State.Inv.memoryWrite_blocked {s : State} {block} (hb : IsBlock block) (h : (block s false).Inv) (asi isWord a mask data) :
    (block (s.memoryWrite asi isWord a mask data).1 false).Inv := by
  rcases hb with rfl | rfl
  all_goals
    have hk := State.memoryWrite_keeps s asi isWord a mask data h.ctx
    have hwf : Memory.wf s.mem = true := h.memory
    rw [State.memoryWrite_frame]
    exact h.access (State.memoryWrite_wf hwf ..) (hk.1 h.fav) hk.2 _ _ _ _ _

/-- Every exit of an atomic load-store releases the block signal (R360, R362). -/
theorem State.Inv.atomicAccess {s : State} (h : s.Inv) {block} (hb : IsBlock block) (size rd asi a new) :
    (atomicAccess block size rd asi a new s).Inv := by
  have hr := State.Inv.memoryRead_blocked hb (h.release hb) asi false (size == .word) a
  unfold Machine.atomicAccess
  split
  · rename_i t e heq
    rw [heq] at hr
    exact hr.raise _
  · rename_i t w heq
    rw [heq] at hr
    have hw := State.Inv.memoryWrite_blocked hb hr asi (size == .word) a (storeMask size a) (storeData size a new)
    split <;> rename_i heq' <;> rw [heq'] at hw
    · exact hw.raise _
    · exact hw.deliver ..

theorem State.Inv.loadStoreByte {s : State} (h : s.Inv) (rd asi a) : (loadStoreByte rd asi a s).Inv := h.atomicAccess (.inl rfl) ..

theorem State.Inv.swapWord {s : State} (h : s.Inv) (rd asi a) : (swapWord rd asi a s).Inv :=
  h.ifAligned _ _ fun _ => h.atomicAccess (.inr rfl) ..

/-! The floating-point unit. -/

theorem State.Inv.setFtt {s : State} (h : s.Inv) (t) : (s.setFtt t).Inv := h.setFpu h.ns h.fqAbsent h.fqDepth h.fpuMode

theorem State.Inv.setCexc {s : State} (h : s.Inv) (x) : (s.setCexc x).Inv := h.setFpu h.ns h.fqAbsent h.fqDepth h.fpuMode

theorem State.Inv.completeFsr {s : State} (h : s.Inv) (x) : (s.completeFsr x).Inv := h.setFpu h.ns h.fqAbsent h.fqDepth h.fpuMode

theorem State.Inv.setFcc {s : State} (h : s.Inv) (c) : (s.setFcc c).Inv :=
  State.Inv.of_unmentioned (h.setFpu (x := { s.fsr with fcc := c }) h.ns h.fqAbsent h.fqDepth h.fpuMode) rfl

/-- LDFSR writes NS only where it is implemented (R98, R346). -/
theorem State.Inv.loadFsr {s : State} (h : s.Inv) (w) : (s.loadFsr w).Inv :=
  h.setFpu (fun hn => (Bool.and_eq_true_iff.mp hn).2) h.fqAbsent h.fqDepth h.fpuMode

theorem State.Inv.fccLoaded {s : State} (h : s.Inv) : s.fccLoaded.Inv := h.of_unmentioned rfl

theorem State.Inv.setFp {s : State} (h : s.Inv) (t k v) : (s.setFp t k v).Inv := by
  cases t with
  | single => exact h.setFreg ..
  | double => exact (h.setFreg ..).setFreg ..
  | quad => exact (((h.setFreg ..).setFreg ..).setFreg ..).setFreg ..

theorem State.Inv.raiseFp {s : State} (h : s.Inv) (t) : (raiseFp t s).Inv := (h.setFtt t).raise _

/-- A premise the states of a deferred FPU do not meet (R107). -/
theorem absurd_of_deferred {c : Config} (hd : c.fpTrapsDeferred = true) {p : Prop} (h : c.fpTrapsDeferred = false) : p :=
  Bool.noConfusion (hd.symm.trans h)

/-- The remembered FPop enters the queue only where there is one and it has room (R105, R553). -/
theorem State.Inv.takePendingFp {s : State} (h : s.Inv) (hd : s.cfg.fpTrapsDeferred = true) : (takePendingFp s).Inv := by
  refine State.Inv.raise (h.setFpu h.ns ?_ ?_ (absurd_of_deferred hd)) _
  · intro hq
    simp only [hq, Bool.false_and, Bool.false_eq_true, if_false]
    split <;> exact h.fqAbsent hq
  · split
    · split
      · rename_i hroom
        rw [Bool.and_eq_true, decide_eq_true_eq] at hroom
        rw [List.length_append]
        exact hroom.2
      · exact h.fqDepth
    · exact h.fqDepth

theorem State.Inv.sequenceError {s : State} (h : s.Inv) (hd : s.cfg.fpTrapsDeferred = true) : s.sequenceError.Inv :=
  h.setFpu h.ns h.fqAbsent h.fqDepth (absurd_of_deferred hd)

theorem State.Inv.fpLoadSequenceError {s : State} (h : s.Inv) (hd : s.cfg.fpTrapsDeferred = true) : (fpLoadSequenceError s).Inv := by
  unfold Machine.fpLoadSequenceError
  split
  · exact (h.sequenceError hd).takePendingFp hd
  · exact (h.sequenceError hd).advance

theorem State.Inv.fpReady {s : State} (h : s.Inv) {k : State → State} (hk : (k s).Inv) : (s.fpReady k).Inv := by
  unfold State.fpReady
  split
  · rename_i hd
    split
    · exact hk
    · exact h.takePendingFp hd
    · exact h.fpLoadSequenceError hd
  · exact hk

theorem State.Inv.fpStoreReady {s : State} (h : s.Inv) {k : State → State} (hk : (k s).Inv) : (s.fpStoreReady k).Inv := by
  unfold State.fpStoreReady
  split
  · rename_i hd
    exact h.takePendingFp (Bool.and_eq_true_iff.mp hd).1
  · exact hk

theorem State.Inv.fpopReady {s : State} (h : s.Inv) {k : State → State} (hk : (k s).Inv) : (s.fpopReady k).Inv := by
  unfold State.fpopReady
  split
  · split
    · rename_i hd
      split
      · exact hk
      · exact h.takePendingFp hd
      · exact (h.sequenceError hd).advance
    · exact hk
  · exact h.raise _

theorem State.Inv.fpTrap {s : State} (h : s.Inv) (t) : (fpTrap t s).Inv := by
  unfold Machine.fpTrap
  split
  · rename_i hd
    exact (h.setFpu (x := { s.fsr with ftt := t }) h.ns h.fqAbsent h.fqDepth (absurd_of_deferred hd)).advance
  · exact h.raiseFp t

theorem State.Inv.fpComplete {s : State} (h : s.Inv) (texc) {write : State → State} (hw : ∀ t : State, t.Inv → (write t).Inv) :
    (fpComplete texc write s).Inv := by
  unfold Machine.fpComplete
  split
  · exact (h.setCexc _).fpTrap _
  · exact (hw _ (h.completeFsr _)).advance

theorem State.Inv.fpopBody {s : State} (h : s.Inv) (name misaligned a b texc) {write : State → State}
    (hw : ∀ t : State, t.Inv → (write t).Inv) : (fpopBody name misaligned a b texc write s).Inv := by
  unfold Machine.fpopBody
  split
  · exact h.fpTrap _
  · split
    · exact h.fpTrap _
    · split
      · exact h.fpTrap _
      · exact h.fpComplete _ hw

theorem State.Inv.fpUnary {s : State} (h : s.Inv) (name src dst op rd rs2) : (fpUnary name src dst op rd rs2 s).Inv :=
  h.fpopReady (h.fpopBody _ _ _ _ _ fun _ ht => ht.setFp ..)

theorem State.Inv.fpBinary {s : State} (h : s.Inv) (name src dst op rd rs1 rs2) : (fpBinary name src dst op rd rs1 rs2 s).Inv :=
  h.fpopReady (h.fpopBody _ _ _ _ _ fun _ ht => ht.setFp ..)

theorem State.Inv.fpMove {s : State} (h : s.Inv) (name f rd rs2) : (fpMove name f rd rs2 s).Inv := by
  refine h.fpopReady ?_
  split
  · exact h.fpTrap _
  · exact h.fpComplete _ fun _ ht => ht.setFreg ..

theorem State.Inv.fpCmp {s : State} (h : s.Inv) (name signalsQuiet t rs1 rs2) : (fpCmp name signalsQuiet t rs1 rs2 s).Inv :=
  h.fpopReady (h.fpopBody _ _ _ _ _ fun _ ht => ht.setFcc _)

theorem State.Inv.fpUnassigned {s : State} (h : s.Inv) : (fpUnassigned s).Inv := h.fpopReady (h.fpTrap _)

theorem State.Inv.branchFcc {s : State} (h : s.Inv) (cond a disp22) : (branchFcc cond a disp22 s).Inv := by
  unfold Machine.branchFcc
  split
  · refine h.fpReady ?_
    split
    · exact h.drawn.branch ..
    · split
      · exact h.drawn.branch ..
      · exact h.branch ..
  · exact h.raise _

theorem State.Inv.fpLoad {s : State} (h : s.Inv) (size badReg a) {k : State → State} (hk : (k s).Inv) : (fpLoad size badReg a k s).Inv := by
  unfold Machine.fpLoad
  split
  · refine h.ifAligned _ _ fun _ => ?_
    split
    · exact h.raiseFp _
    · exact h.fpReady hk
  · exact h.raise _

theorem State.Inv.fpStore {s : State} (h : s.Inv) (size badReg a) {k : State → State} (hk : (k s).Inv) : (fpStore size badReg a k s).Inv := by
  unfold Machine.fpStore
  split
  · refine h.ifAligned _ _ fun _ => h.fpStoreReady ?_
    split
    · exact h.raiseFp _
    · exact hk
  · exact h.raise _

theorem State.Inv.loadF {s : State} (h : s.Inv) (rd a) : (loadF rd a s).Inv :=
  h.fpLoad _ _ _ (h.reading _ _ _ fun _ _ ht _ => (ht.setFreg ..).advance)

theorem State.Inv.loadDf {s : State} (h : s.Inv) (rd a) : (loadDf rd a s).Inv :=
  h.fpLoad _ _ _ (h.readingDouble _ _ (fun _ _ ht => ht.setFreg ..) fun _ _ ht => (ht.setFreg ..).advance)

theorem State.Inv.loadFsrWord {s : State} (h : s.Inv) (a) : (loadFsrWord a s).Inv :=
  h.fpLoad _ _ _ (h.reading _ _ _ fun _ _ ht _ => (ht.loadFsr _).fccLoaded.advance)

theorem State.Inv.storeF {s : State} (h : s.Inv) (rd a) : (storeF rd a s).Inv :=
  h.fpStore _ _ _ (h.writing _ _ _ _ fun _ ht _ => ht.advance)

theorem State.Inv.storeDf {s : State} (h : s.Inv) (rd a) : (storeDf rd a s).Inv :=
  h.fpStore _ _ _ (h.writingDouble _ _ _ _ fun _ ht => ht.advance)

theorem State.Inv.storeFsr {s : State} (h : s.Inv) (a) : (storeFsr a s).Inv :=
  h.fpStore _ _ _ (h.writing _ _ _ _ fun _ ht _ => ht.advance)

/-- The queue advanced is no deeper, and the FPU in a state it was in, or in fp_execute (R106, R365). -/
theorem State.Inv.popFq {s : State} (h : s.Inv) : s.popFq.Inv := by
  refine h.setFpu h.ns (fun hq => ?_) ?_ fun hd => ⟨?_, (h.fpuMode hd).2⟩
  · rw [h.fqAbsent hq, List.tail_nil]
  · rw [List.length_tail]
    exact Nat.le_trans (Nat.sub_le ..) h.fqDepth
  · rw [(h.fpuMode hd).1, ite_self]

theorem State.Inv.storeDfq {s : State} (h : s.Inv) (a) : (storeDfq a s).Inv := by
  unfold Machine.storeDfq
  split
  · refine h.fpStore _ _ _ ?_
    split
    · exact h.writingDouble _ _ _ _ fun _ ht => ht.popFq.advance
    · exact h.raiseFp _
  · exact h.raise _

/-! The coprocessor. -/

theorem State.Inv.setCp {s : State} (h : s.Inv) (c) : (s.setCp c).Inv := h.setCoprocessor h.cp

theorem State.Inv.cpReady {s : State} (h : s.Inv) {k : State → State} (hk : (k s).Inv) : (s.cpReady k).Inv := by
  unfold State.cpReady
  split
  · rename_i hp
    exact (h.setCoprocessor fun _ => h.cp hp).raise _
  · exact hk

theorem State.Inv.cpLoad {s : State} (h : s.Inv) (size a) {k : State → State} (hk : (k s).Inv) : (cpLoad size a k s).Inv := by
  unfold Machine.cpLoad
  split
  · refine h.ifAligned _ _ fun _ => h.cpReady ?_
    split
    · exact h.raise _
    · exact hk
  · exact h.raise _

theorem State.Inv.cpStore {s : State} (h : s.Inv) (size a) {k : State → State} (hk : (k s).Inv) : (cpStore size a k s).Inv := by
  unfold Machine.cpStore
  split
  · exact h.ifAligned _ _ fun _ => h.cpReady hk
  · exact h.raise _

theorem State.Inv.loadCplace {s : State} (h : s.Inv) (p a) : (loadCplace p a s).Inv :=
  h.cpLoad _ _ (h.reading _ _ _ fun _ _ ht _ => (ht.setCp _).advance)

theorem State.Inv.storeCplace {s : State} (h : s.Inv) (p a) : (storeCplace p a s).Inv :=
  h.cpStore _ _ (h.writing _ _ _ _ fun _ ht _ => ht.advance)

theorem State.Inv.loadDc {s : State} (h : s.Inv) (rd a) : (loadDc rd a s).Inv :=
  h.cpLoad _ _ (h.readingDouble _ _ (fun _ _ ht => ht.setCp _) fun _ _ ht => (ht.setCp _).advance)

theorem State.Inv.storeDc {s : State} (h : s.Inv) (rd a) : (storeDc rd a s).Inv :=
  h.cpStore _ _ (h.writingDouble _ _ _ _ fun _ ht => ht.advance)

theorem State.Inv.storeDcq {s : State} (h : s.Inv) (a) : (storeDcq a s).Inv := by
  unfold Machine.storeDcq
  split
  · refine h.cpStore _ _ ?_
    split
    · exact h.writingDouble _ _ _ _ fun _ ht => (ht.setCp _).advance
    · exact h.raise _
  · exact h.raise _

/-- Only a deferred cp_exception is left outstanding (R634). -/
theorem State.Inv.cpTrap {s : State} (h : s.Inv) : (cpTrap s).Inv := by
  unfold Machine.cpTrap
  split
  · rename_i hd
    exact (h.setCoprocessor fun _ => hd).advance
  · exact h.raise _

theorem State.Inv.cpOp {s : State} (h : s.Inv) (which name rd rs1 opc rs2) : (cpOp which name rd rs1 opc rs2 s).Inv := by
  unfold Machine.cpOp
  split
  · refine h.cpReady ?_
    split
    · exact h.cpTrap
    · dsimp only
      split
      · exact (h.setCp _).cpTrap
      · exact (h.setCp _).advance
  · exact h.raise _

theorem State.Inv.branchCp {s : State} (h : s.Inv) (cond a disp22) : (branchCp cond a disp22 s).Inv := by
  unfold Machine.branchCp
  split
  · exact h.cpReady (h.branch ..)
  · exact h.raise _

end Sys2Proof.Machine
end

section
/-! Every instruction, and so every step, keeps the invariant of Safety.lean (R14, R700, R750). -/

namespace Sys2Proof.Machine

/-- The invariant holds in the state of an answer, if it is one. -/
def KeepsInv (a : Answer) : Prop := ∀ t, a = .next t → t.Inv

theorem keepsInv_next {u : State} (h : u.Inv) : KeepsInv (.next u) := by
  intro t ht
  cases ht
  exact h

/-- Each of the 200 instructions is one of the shared operations, all of which keep the invariant. -/
theorem exec_keepsInv {s : State} (h : s.Inv) (i : Instr) : KeepsInv (exec i s) := by
  cases i with
  | ldsb _ _ _ | ldsh _ _ _ | ldub _ _ _ | lduh _ _ _ | ld _ _ _ => exact keepsInv_next (h.loadReg ..)
  | ldd _ _ _ => exact keepsInv_next (h.loadRegDouble ..)
  | ldsba _ _ _ | ldsha _ _ _ | lduba _ _ _ | lduha _ _ _ | lda _ _ _ =>
    exact keepsInv_next (h.alternate _ fun _ _ => h.loadReg ..)
  | ldda _ _ _ => exact keepsInv_next (h.alternate _ fun _ _ => h.loadRegDouble ..)
  | ldf _ _ _ => exact keepsInv_next (h.loadF ..)
  | lddf _ _ _ => exact keepsInv_next (h.loadDf ..)
  | ldfsr _ _ => exact keepsInv_next (h.loadFsrWord ..)
  | ldc _ _ _ | ldcsr _ _ => exact keepsInv_next (h.loadCplace ..)
  | lddc _ _ _ => exact keepsInv_next (h.loadDc ..)
  | stb _ _ _ | sth _ _ _ | st _ _ _ => exact keepsInv_next (h.storeReg ..)
  | std _ _ _ => exact keepsInv_next (h.storeRegDouble ..)
  | stba _ _ _ | stha _ _ _ | sta _ _ _ => exact keepsInv_next (h.alternate _ fun _ _ => h.storeReg ..)
  | stda _ _ _ => exact keepsInv_next (h.alternate _ fun _ _ => h.storeRegDouble ..)
  | stf _ _ _ => exact keepsInv_next (h.storeF ..)
  | stdf _ _ _ => exact keepsInv_next (h.storeDf ..)
  | stfsr _ _ => exact keepsInv_next (h.storeFsr ..)
  | stdfq _ _ => exact keepsInv_next (h.storeDfq ..)
  | stc _ _ _ | stcsr _ _ => exact keepsInv_next (h.storeCplace ..)
  | stdc _ _ _ => exact keepsInv_next (h.storeDc ..)
  | stdcq _ _ => exact keepsInv_next (h.storeDcq ..)
  | ldstub _ _ _ => exact keepsInv_next (h.loadStoreByte ..)
  | ldstuba _ _ _ => exact keepsInv_next (h.alternate _ fun _ _ => h.loadStoreByte ..)
  | swap _ _ _ => exact keepsInv_next (h.swapWord ..)
  | swapa _ _ _ => exact keepsInv_next (h.alternate _ fun _ _ => h.swapWord ..)
  | sethi _ _ | and _ _ _ | andn _ _ _ | or _ _ _ | orn _ _ _ | xor _ _ _ | xnor _ _ _ | sll _ _ _ | srl _ _ _ | sra _ _ _
  | add _ _ _ | addx _ _ _ | sub _ _ _ | subx _ _ _ | rdy _ => exact keepsInv_next (h.deliver ..)
  | nop => exact keepsInv_next h.advance
  | unimp _ => exact keepsInv_next (h.raise _)
  | andcc _ _ _ | andncc _ _ _ | orcc _ _ _ | orncc _ _ _ | xorcc _ _ _ | xnorcc _ _ _ | addcc _ _ _ | addxcc _ _ _
  | taddcc _ _ _ | subcc _ _ _ | subxcc _ _ _ | tsubcc _ _ _ => exact keepsInv_next (h.deliverCc ..)
  | taddcctv _ _ _ | tsubcctv _ _ _ => exact keepsInv_next (h.arithTrap ..)
  | mulscc _ _ _ => exact keepsInv_next (h.multiplyStep ..)
  | umul _ _ _ | smul _ _ _ => exact keepsInv_next (h.multiply ..)
  | umulcc _ _ _ | smulcc _ _ _ => exact keepsInv_next (h.multiplyCc ..)
  | udiv _ _ _ | sdiv _ _ _ => exact keepsInv_next (h.divide ..)
  | udivcc _ _ _ | sdivcc _ _ _ => exact keepsInv_next (h.divideCc ..)
  | save _ _ _ => exact keepsInv_next (h.changeWindow (prevWindow_lt ..) ..)
  | restore _ _ _ => exact keepsInv_next (h.changeWindow (nextWindow_lt ..) ..)
  | bn _ _ | be _ _ | ble _ _ | bl _ _ | bleu _ _ | bcs _ _ | bneg _ _ | bvs _ _ | ba _ _ | bne _ _ | bg _ _ | bge _ _ | bgu _ _
  | bcc _ _ | bpos _ _ | bvc _ _ => exact keepsInv_next (h.branch ..)
  | fbn _ _ | fbne _ _ | fblg _ _ | fbul _ _ | fbl _ _ | fbug _ _ | fbg _ _ | fbu _ _ | fba _ _ | fbe _ _ | fbue _ _ | fbge _ _
  | fbuge _ _ | fble _ _ | fbule _ _ | fbo _ _ => exact keepsInv_next (h.branchFcc ..)
  | cbn _ _ | cb123 _ _ | cb12 _ _ | cb13 _ _ | cb1 _ _ | cb23 _ _ | cb2 _ _ | cb3 _ _ | cba _ _ | cb0 _ _ | cb03 _ _ | cb02 _ _
  | cb023 _ _ | cb01 _ _ | cb013 _ _ | cb012 _ _ => exact keepsInv_next (h.branchCp ..)
  | call _ => exact keepsInv_next (h.callLink ..)
  | jmpl _ _ _ => exact keepsInv_next (h.jumpLink ..)
  | rett _ _ => exact keepsInv_next (h.returnTrap ..)
  | tn _ _ | te _ _ | tle _ _ | tl _ _ | tleu _ _ | tcs _ _ | tneg _ _ | tvs _ _ | ta _ _ | tne _ _ | tg _ _ | tge _ _ | tgu _ _
  | tcc _ _ | tpos _ _ | tvc _ _ => exact keepsInv_next (h.trapIcc ..)
  | stbar => exact keepsInv_next (State.Inv.advance (h.of_unmentioned rfl))
  | rdasr _ _ => exact keepsInv_next (h.readAsr ..)
  | rdpsr _ | rdwim _ | rdtbr _ => exact keepsInv_next (h.supervisor (h.deliver ..))
  | wry _ _ => exact keepsInv_next (h.enqueue (w := .y _) trivial).advance
  | wrasr _ _ _ => exact keepsInv_next (h.writeAsr ..)
  | wrpsr _ _ => exact keepsInv_next (h.writePsr ..)
  | wrwim _ _ => exact keepsInv_next (h.supervisor (h.enqueue (legal_wim ..)).advance)
  | wrtbr _ _ => exact keepsInv_next (h.supervisor (h.enqueue (w := .tba _) trivial).advance)
  | flush _ _ => exact keepsInv_next (h.flush ..)
  | fitos _ _ | fitod _ _ | fitoq _ _ | fstoi _ _ | fdtoi _ _ | fqtoi _ _ | fstod _ _ | fstoq _ _ | fdtos _ _ | fdtoq _ _
  | fqtos _ _ | fqtod _ _ | fsqrts _ _ | fsqrtd _ _ | fsqrtq _ _ => exact keepsInv_next (h.fpUnary ..)
  | fmovs _ _ | fnegs _ _ | fabss _ _ => exact keepsInv_next (h.fpMove ..)
  | fadds _ _ _ | faddd _ _ _ | faddq _ _ _ | fsubs _ _ _ | fsubd _ _ _ | fsubq _ _ _ | fmuls _ _ _ | fmuld _ _ _ | fmulq _ _ _
  | fsmuld _ _ _ | fdmulq _ _ _ | fdivs _ _ _ | fdivd _ _ _ | fdivq _ _ _ => exact keepsInv_next (h.fpBinary ..)
  | fcmps _ _ | fcmpd _ _ | fcmpq _ _ | fcmpes _ _ | fcmped _ _ | fcmpeq _ _ => exact keepsInv_next (h.fpCmp ..)
  | fpop1Unassigned _ _ _ _ | fpop2Unassigned _ _ _ _ => exact keepsInv_next h.fpUnassigned
  | cpop1 _ _ _ _ | cpop2 _ _ _ _ => exact keepsInv_next (h.cpOp ..)

/-! The execution loop (R700). -/

theorem State.Inv.finish {s : State} (h : s.Inv) : s.finish.Inv := by
  unfold State.finish
  split
  · exact h
  · exact h.of_unmentioned rfl

theorem finished_keepsInv {a : Answer} (h : KeepsInv a) : KeepsInv (finished a) := by
  cases a with
  | next u => exact keepsInv_next (h u rfl).finish
  | fault f => exact h
  | refused r => exact h

theorem dispatch_keepsInv {s : State} (h : s.Inv) (i : Instr) : KeepsInv (dispatch i s) := by
  unfold dispatch
  split
  · exact keepsInv_next (State.Inv.raise (h.of_unmentioned rfl) _)
  · split
    · exact keepsInv_next (h.raise _)
    · exact finished_keepsInv (exec_keepsInv h i)

theorem runWord_keepsInv {s : State} (h : s.Inv) (w : Word) : KeepsInv (runWord w s) := by
  unfold runWord
  split
  · exact dispatch_keepsInv h _
  · exact keepsInv_next (h.raise _)

theorem fetchExecute_keepsInv {s : State} (h : s.Inv) : KeepsInv (fetchExecute s) := by
  have hr := h.memoryRead s.fetchAsi true true s.pc
  unfold fetchExecute
  split
  rename_i t r heq
  rw [heq] at hr
  split
  · exact keepsInv_next (State.Inv.advance (hr.of_unmentioned rfl))
  · split
    · exact keepsInv_next (hr.raise _)
    · exact runWord_keepsInv (hr.of_unmentioned rfl) _

/-- The reset trap (R751, R753). -/
theorem State.Inv.takeReset {s : State} (h : s.Inv) : (takeReset s).Inv := by
  have e := h.enterTrapWindow
  have hcfg : s.enterTrapWindow.cfg = s.cfg := by rw [State.enterTrapWindow_frame]
  have hctx : s.mmu.ctx &&& contextMask s.enterTrapWindow.cfg = s.mmu.ctx := by rw [hcfg]; exact h.ctx
  have hpc : wordAligned 0#32 := rfl
  have hnpc : wordAligned 4#32 := rfl
  exact ⟨e.memory, hpc, hnpc, e.cwp, e.wim, e.ec, e.ef, e.pending, e.raised, ⟨Bool.noConfusion, Mode.noConfusion⟩, e.blockByte, e.blockWord, e.ns, fun _ => rfl,
    Nat.zero_le _, fun _ => ⟨rfl, rfl⟩, e.cp, hctx, h.fav⟩

theorem State.Inv.boundary {s : State} (h : s.Inv) : s.boundary.Inv := by
  have ha : s.acceptInterrupt.Inv := by
    unfold State.acceptInterrupt
    split <;> exact h.of_unmentioned rfl
  unfold State.boundary
  dsimp only
  split
  · exact ha.takeReset
  · split
    · exact ha.takeTrap _
    · exact ha

theorem executeStep_keepsInv {s : State} (h : s.Inv) : KeepsInv (executeStep s) := by
  unfold executeStep
  dsimp only
  split
  · exact fetchExecute_keepsInv (h.boundary.tickPending.of_unmentioned rfl)
  · exact keepsInv_next h.boundary

/-! The processor modes (R750). -/

theorem State.Inv.settle {s : State} (h : s.Inv) : s.settle.Inv := by
  unfold State.settle
  split
  · rename_i r hr
    split
    · exact h.undoTrap hr
    · exact State.Inv.of_unmentioned (h.setRaised (o := none) fun _ hn => absurd hn.symm (Option.some_ne_none _)) rfl
  · exact h

theorem State.Inv.enterReset {s : State} (h : s.Inv) : s.enterReset.Inv := h.setMode (by decide) s.requests

/-- In reset_mode pb_error is not asserted, and leaving it does not assert it (R750). -/
theorem State.Inv.leaveReset {s : State} (h : s.Inv) (hm : s.mode = .reset) : s.leaveReset.Inv := by
  have hp : s.pbError ≠ true := fun hp => absurd (hm.symm.trans (h.pbError.mp hp)) (by decide)
  exact h.setMode (m := .execute) ⟨fun h => absurd h hp, fun h => absurd h (by decide)⟩ _

theorem settledStep_keepsInv {s : State} (h : s.Inv) : KeepsInv (settledStep s) := by
  unfold settledStep
  cases hm : s.mode with
  | reset =>
    dsimp only
    split
    · exact keepsInv_next h
    · exact keepsInv_next (h.leaveReset hm)
  | error =>
    dsimp only
    split
    · exact keepsInv_next h.enterReset
    · exact keepsInv_next h
  | execute =>
    dsimp only
    split
    · exact keepsInv_next h.enterReset
    · exact executeStep_keepsInv h

end Sys2Proof.Machine

open Sys2Proof Sys2Proof.Machine

/-- Settles O7: a step settles what became of a raised trap, then does as its mode says, and each operation on the way keeps the
invariant. -/
theorem stepKeepsInvariant : Obligations.StepKeepsInvariant := by
  intro s t h hstep
  exact settledStep_keepsInv h.settle t hstep
end

section
/-! Which numbers name one r register (R22, R23), and what operands read (R268, R404). -/

namespace Sys2Proof.Machine

/-- Two numbers that name one register read the same (R22, R23). -/
theorem State.regIn_of_sameRegister (s : State) {w w' : BitVec 5} {n n' : RegNum} (h : sameRegister s.cfg w n w' n') :
    s.regIn w n = s.regIn w' n' := by
  rcases h with ⟨rfl, hglobal⟩ | ⟨h8, h8', hindex⟩
  · unfold State.regIn
    simp only [hglobal, if_true]
  · have hne {m : RegNum} (hm : 8 ≤ m.toNat) : m ≠ 0#5 := by
      rintro rfl
      exact absurd hm (by decide)
    unfold State.regIn
    simp only [hne h8, hne h8', Nat.not_lt.mpr h8, Nat.not_lt.mpr h8', if_false, hindex]

/-- The outs and locals of an implemented window lie in its own sixteen cells, without wrapping around (R23). -/
theorem windowIndex_of_out_or_local {c : Config} {w : BitVec 5} {n : RegNum} (hw : w.toNat < c.nwindows) (h : n.toNat < 24) :
    windowIndex c w n = (n.toNat - 8) + w.toNat * 16 := by
  unfold windowIndex
  exact Nat.mod_eq_of_lt (by omega)

/-- No out or local of an implemented window is one of another's (R23). -/
theorem not_sameRegister_of_ne_window {c : Config} {w w' : BitVec 5} {n n' : RegNum} (hw : w.toNat < c.nwindows)
    (hw' : w'.toNat < c.nwindows) (hne : w ≠ w') (h8 : 8 ≤ n.toNat) (h : n.toNat < 24) (h' : n'.toNat < 24) :
    ¬ sameRegister c w n w' n' := by
  rintro (⟨-, hglobal⟩ | ⟨-, h8', hindex⟩)
  · omega
  · rw [windowIndex_of_out_or_local hw h, windowIndex_of_out_or_local hw' h'] at hindex
    exact hne (BitVec.eq_of_toNat_eq (by omega))

/-- The outs of an implemented window are the ins of the window below it (R23). -/
theorem sameRegister_out_in {c : Config} {w : BitVec 5} {n : RegNum} (hw : w.toNat < c.nwindows) (h8 : 8 ≤ n.toNat) (h : n.toNat < 16) :
    sameRegister c w n (prevWindow c w) (n + 16#5) := by
  have hin : (n + 16#5).toNat = n.toNat + 16 := by
    rw [BitVec.toNat_add, BitVec.toNat_ofNat]
    omega
  have hindex : windowIndex c w n = windowIndex c (prevWindow c w) (n + 16#5) := by
    rw [windowIndex_of_out_or_local hw (by omega)]
    unfold windowIndex
    rw [hin, prevWindow_toNat]
    by_cases h0 : w.toNat = 0
    · have hprev : (w.toNat + (c.nwindows - 1)) % c.nwindows = c.nwindows - 1 := by
        rw [h0, Nat.zero_add]
        exact Nat.mod_eq_of_lt (by omega)
      have hcell : n.toNat + 16 - 8 + (c.nwindows - 1) * 16 = (n.toNat - 8) + 16 * c.nwindows := by omega
      rw [hprev, hcell, Nat.add_mod_right, Nat.mod_eq_of_lt (by omega), h0]
      omega
    · have hprev : (w.toNat + (c.nwindows - 1)) % c.nwindows = w.toNat - 1 := by
        rw [show w.toNat + (c.nwindows - 1) = (w.toNat - 1) + c.nwindows by omega, Nat.add_mod_right]
        exact Nat.mod_eq_of_lt (by omega)
      rw [hprev, Nat.mod_eq_of_lt (by omega)]
      omega
  exact .inr ⟨h8, by omega, hindex⟩

/-- The immediate keeps its signed value (R268). -/
theorem State.operand2_imm_toInt (s : State) (i : BitVec 13) : (s.operand2 (.imm i)).toInt = i.toInt :=
  BitVec.toInt_signExtend_of_le (by decide)

/-- A shift count in a register is its low five bits (R404). -/
theorem State.shiftCount_reg (s : State) (r : RegNum) : s.shiftCount (.reg r) = (s.reg r).toNat % 32 := by
  show ((s.reg r).extractLsb' 0 5).toNat = _
  rw [BitVec.extractLsb'_toNat, Nat.shiftRight_zero]

end Sys2Proof.Machine

open Sys2Proof Sys2Proof.Machine

/-- Settles O21: the laws of the r registers, the overlap of the windows, and the operand forms. -/
theorem registersWindowsAndOperands : Obligations.RegistersWindowsAndOperands := by
  unfold Obligations.RegistersWindowsAndOperands
  refine ⟨fun s w n v => ⟨s.regIn_zero w, rfl, writesReg_setRegIn s w n v⟩, fun s w n w' n' h => s.regIn_of_sameRegister h,
    fun s => ⟨fun _ => rfl, s.operand2_imm_toInt, s.shiftCount_reg, fun _ => rfl⟩, fun c w w' hw hw' => ⟨?_, ?_, ?_⟩⟩
  · exact fun _ _ h => sameRegister_same_window h
  · exact fun _ h8 h => sameRegister_out_in hw h8 h
  · exact fun _ _ hne h8 h _ h' => not_sameRegister_of_ne_window hw hw' hne h8 h h'
end

section
/-! What the writes of the state registers put on the list of delayed writes (R45, R47, R516 to R522). -/

namespace Sys2Proof.Machine

/-- A bit of 2^NWINDOWS - 1 is set exactly for an implemented window (R48). -/
theorem getLsbD_wimMask (c : Config) (n : Nat) : (wimMask c).getLsbD n = decide (n < c.nwindows) := by
  have hle := nwindows_le c
  unfold wimMask
  rw [BitVec.getLsbD_ofNat, Nat.testBit_two_pow_sub_one]
  by_cases h : n < c.nwindows
  · simp [h, show n < 32 by omega]
  · simp [h]

/-- The four condition code bits of a word WRPSR writes (R32, R520). -/
theorem icc_ofBits_extract (v : Word) :
    Icc.ofBits (v.extractLsb' 20 4) = ⟨v.getLsbD 23, v.getLsbD 22, v.getLsbD 21, v.getLsbD 20⟩ := by
  simp [Icc.ofBits]

/-- The CWP field of a word (R32). -/
theorem cwpField_toNat (v : Word) : (v.extractLsb' 0 5).toNat = v.toNat % 32 := by
  rw [BitVec.extractLsb'_toNat, Nat.shiftRight_zero]

/-- In supervisor mode a privileged instruction goes on (R682). -/
theorem State.supervisor_of_supervisor {s : State} (h : s.psr.s = true) (k : State) : s.supervisor k = k := by
  unfold State.supervisor
  rw [if_pos h]

/-- An implemented ancillary register that is not privileged, or is accessed in supervisor mode, is accessed (R512, R518). -/
theorem State.accessAsr_allowed {s : State} {n : RegNum} (hi : s.asrImplemented n = true)
    (hp : s.asrPrivileged n = false ∨ s.psr.s = true) (k : State) : s.accessAsr n k = k := by
  unfold State.accessAsr
  rw [if_neg (by rcases hp with h | h <;> simp [h]), if_pos hi]

/-- One that is not implemented takes illegal_instruction (R54). -/
theorem State.accessAsr_unimplemented {s : State} {n : RegNum} (hi : s.asrImplemented n = false)
    (hp : s.asrPrivileged n = false ∨ s.psr.s = true) (k : State) : s.accessAsr n k = raise .illegalInstruction s := by
  unfold State.accessAsr
  rw [if_neg (by rcases hp with h | h <;> simp [h]), if_neg (by rw [hi]; decide)]

/-- A privileged one in user mode takes privileged_instruction (R54, R682). -/
theorem State.accessAsr_user {s : State} {n : RegNum} (hp : s.asrPrivileged n = true) (hs : s.psr.s = false) (k : State) :
    s.accessAsr n k = raise .privilegedInstruction s := by
  unfold State.accessAsr
  rw [if_pos (by rw [hp, hs]; decide)]

/-- WRPSR with an implemented window (R47, R520). -/
theorem writePsr_legal {s : State} {rs1 : RegNum} {op2 : Operand2} (hs : s.psr.s = true)
    (hw : (s.writeValue rs1 op2).toNat % 32 < s.cfg.nwindows) :
    writePsr rs1 op2 s =
      ((s.setEtPil (s.writeValue rs1 op2)).enqueue (.psr (psrWrite s.cfg (s.writeValue rs1 op2)))).advance := by
  unfold writePsr
  rw [State.supervisor_of_supervisor hs, cwpField_toNat, if_neg (by omega)]

/-- WRPSR with one that is not takes illegal_instruction (R520). -/
theorem writePsr_illegal {s : State} {rs1 : RegNum} {op2 : Operand2} (hs : s.psr.s = true)
    (hw : s.cfg.nwindows ≤ (s.writeValue rs1 op2).toNat % 32) : writePsr rs1 op2 s = raise .illegalInstruction s := by
  unfold writePsr
  rw [State.supervisor_of_supervisor hs, cwpField_toNat, if_pos hw]

/-- WRASR of ASR 16 to 31 goes through the checks of the access (R518). -/
theorem writeAsr_ancillary {s : State} {rd : RegNum} (h : rd.getLsbD 4 = true) (rs1 : RegNum) (op2 : Operand2) :
    writeAsr rd rs1 op2 s = s.accessAsr rd (s.enqueue (.asr (asrIndex rd) (s.writeValue rs1 op2))).advance := by
  unfold writeAsr
  rw [if_pos h]

/-- WRASR of a reserved register writes nothing (U43, log 9). -/
theorem writeAsr_reserved {s : State} {rd : RegNum} (h : rd.getLsbD 4 = false) (rs1 : RegNum) (op2 : Operand2) :
    writeAsr rd rs1 op2 s = s.advance := by
  unfold writeAsr
  rw [if_neg (by rw [h]; decide)]

end Sys2Proof.Machine

open Sys2Proof Sys2Proof.Machine

/-- Settles O41: the checks of each write, passed or failed, and the list of delayed writes after it. -/
theorem stateRegisterWrites : Obligations.StateRegisterWrites := by
  unfold Obligations.StateRegisterWrites
  intro s rd rs1 op2 v delayed
  refine ⟨rfl, fun hs => ⟨⟨v &&& wimMask s.cfg, ?_, fun n => ?_⟩, ?_, fun hw => ?_, fun hw => ?_⟩,
    fun ha => ⟨fun hi hp => ?_, fun hi hp => ?_, fun hp hu => ?_⟩, fun ha => ?_⟩
  · exact congrArg Host.Outcome.next (State.supervisor_of_supervisor hs _)
  · rw [BitVec.getLsbD_and, getLsbD_wimMask]
  · exact congrArg Host.Outcome.next (State.supervisor_of_supervisor hs _)
  · rw [← icc_ofBits_extract]
    exact congrArg Host.Outcome.next (writePsr_legal hs hw)
  · exact congrArg Host.Outcome.next (writePsr_illegal hs hw)
  · exact congrArg Host.Outcome.next ((writeAsr_ancillary ha ..).trans (State.accessAsr_allowed hi hp _))
  · exact congrArg Host.Outcome.next ((writeAsr_ancillary ha ..).trans (State.accessAsr_unimplemented hi hp _))
  · exact congrArg Host.Outcome.next ((writeAsr_ancillary ha ..).trans (State.accessAsr_user hp hu _))
  · exact congrArg Host.Outcome.next (writeAsr_reserved ha ..)
end

section
/-! When delayed writes are applied, and that the last of those to a register stands (R45, R47). -/

namespace Sys2Proof.Machine

/-! A run of writes, applied in program order. -/

theorem State.applyWrites_append (s : State) (ps qs : List PendingWrite) :
    s.applyWrites (ps ++ qs) = (s.applyWrites ps).applyWrites qs := List.foldl_append

theorem writesApplied_nil (s : State) : WritesApplied s s [] :=
  ⟨rfl, rfl, rfl, rfl, fun _ => rfl, rfl⟩

/-- Which writes are pending does not matter to `WritesApplied`. -/
theorem WritesApplied.setPending {s t : State} {ws : List StateWrite} (h : WritesApplied s t ws) (ps : List PendingWrite) :
    WritesApplied s { t with pending := ps } ws :=
  ⟨h.psr, h.wim, h.tba, h.y, h.asr, by rw [h.others]⟩

/-- Delayed writes leave PIL (R47). -/
theorem WritesApplied.psr_pil {s t : State} {ws : List StateWrite} (h : WritesApplied s t ws) : t.psr.pil = s.psr.pil := by
  rw [h.psr]
  split <;> rfl

/-- Delayed writes leave ET (R47). -/
theorem WritesApplied.psr_et {s t : State} {ws : List StateWrite} (h : WritesApplied s t ws) : t.psr.et = s.psr.et := by
  rw [h.psr]
  split <;> rfl

/-- One more write: its register holds what it wrote, every other what it held. -/
theorem WritesApplied.snoc {s t : State} {ws : List StateWrite} (h : WritesApplied s t ws) (w : StateWrite) :
    WritesApplied s (t.applyWrite w) (ws ++ [w]) := by
  have hothers : t.applyWrite w = { s with
      psr := (t.applyWrite w).psr, wim := (t.applyWrite w).wim, tba := (t.applyWrite w).tba, y := (t.applyWrite w).y
      asr := (t.applyWrite w).asr, pending := (t.applyWrite w).pending } := by
    rw [State.applyWrite_frame t w, h.others]
  refine ⟨?_, ?_, ?_, ?_, fun k => ?_, hothers⟩
  all_goals rw [List.filterMap_append]
  · cases w with
    | psr p =>
      simp [State.applyWrite, h.psr_pil, h.psr_et]
    | _ => simpa [State.applyWrite] using h.psr
  · cases w with
    | wim v => simp [State.applyWrite]
    | _ => simpa [State.applyWrite] using h.wim
  · cases w with
    | tba v => simp [State.applyWrite]
    | _ => simpa [State.applyWrite] using h.tba
  · cases w with
    | y v => simp [State.applyWrite]
    | _ => simpa [State.applyWrite] using h.y
  · cases w with
    | asr n v =>
      by_cases hn : n = k
      · subst hn
        simp [State.applyWrite]
      · have hn' : n.toNat ≠ k.toNat := fun e => hn (BitVec.eq_of_toNat_eq e)
        simpa [State.applyWrite, hn, hn', Vector.getElem_set_ne] using h.asr k
    | _ => simpa [State.applyWrite] using h.asr k

/-- Delayed writes, applied in order, leave in each register what the last of them to it wrote (R45). -/
theorem writesApplied_applyWrites (s : State) (ps : List PendingWrite) : WritesApplied s (s.applyWrites ps) (ps.map PendingWrite.write) := by
  induction ps using List.reverseRecOn with
  | nil => exact writesApplied_nil s
  | append_singleton ps p ih =>
    rw [State.applyWrites_append, List.map_append]
    exact ih.snoc p.write

/-! The start of an instruction. -/

/-- The writes not due stay, in their order, counted down. -/
theorem State.tickPending_pending (s : State) :
    s.tickPending.pending = s.pending.filterMap fun p => if p.countdown = 0 then none else some ⟨p.countdown - 1, p.write⟩ := by
  unfold State.tickPending
  dsimp only
  induction s.pending with
  | nil => rfl
  | cons p ps ih =>
    by_cases hp : p.countdown = 0 <;> simp [hp, ih]

/-- A write alone that is not due is counted down. -/
theorem State.tickPending_waiting (s : State) (c : Nat) (w : StateWrite) :
    { s with pending := [⟨c + 1, w⟩] }.tickPending = { s with pending := [⟨c, w⟩] } := rfl

/-- A write alone that is due is applied. -/
theorem State.tickPending_due (s : State) (w : StateWrite) :
    { s with pending := [⟨0, w⟩] }.tickPending = { s.applyWrite w with pending := [] } := by
  cases w <;> rfl

/-- Counted down m times of its delay, a write alone has the rest to wait (R45). -/
theorem State.iterate_tickPending_enqueue {s : State} (h : s.pending = []) (w : StateWrite) {m : Nat} (hm : m ≤ s.cfg.writeStateDelay.val) :
    State.tickPending^[m] (s.enqueue w) = { s with pending := [⟨s.cfg.writeStateDelay.val - m, w⟩] } := by
  induction m with
  | zero => rw [Function.iterate_zero_apply, State.enqueue, h, List.nil_append, Nat.sub_zero]
  | succ m ih =>
    rw [Function.iterate_succ_apply', ih (by omega),
      show s.cfg.writeStateDelay.val - m = (s.cfg.writeStateDelay.val - (m + 1)) + 1 by omega]
    exact State.tickPending_waiting s _ w

/-- The start of the instruction after its delay applies a write alone (R45). -/
theorem State.iterate_tickPending_enqueue_due {s : State} (h : s.pending = []) (w : StateWrite) :
    State.tickPending^[s.cfg.writeStateDelay.val + 1] (s.enqueue w) = s.applyWrite w := by
  have hpending : (s.applyWrite w).pending = [] := by
    rw [State.applyWrite_frame]
    exact h
  rw [Function.iterate_succ_apply', State.iterate_tickPending_enqueue h w (Nat.le_refl _), Nat.sub_self, State.tickPending_due]
  rw [← hpending]

end Sys2Proof.Machine

open Sys2Proof Sys2Proof.Machine

/-- Settles O42: a write alone waits its delay and is then applied; of several, each start of an instruction applies those due and a
drain all, in program order. -/
theorem delayedWriteTiming : Obligations.DelayedWriteTiming := by
  unfold Obligations.DelayedWriteTiming
  refine ⟨fun s w h => ⟨fun m hm => State.iterate_tickPending_enqueue h w hm, ?_⟩, fun s => ⟨fun _ => rfl, ?_, ?_, ?_, rfl⟩⟩
  · rw [State.iterate_tickPending_enqueue_due h w]
    cases w <;> rfl
  · exact (writesApplied_applyWrites s _).setPending _
  · exact s.tickPending_pending
  · exact (writesApplied_applyWrites s s.pending).setPending []
end

section
/-! How an FPop runs: as its row of R560 to R597 says; which trap each check of R553 ends in, and what fp_trap does where traps
are deferred and where they are not. -/

namespace Sys2Proof.Machine

/-! The rows. -/

/-- An FPop of one operand runs as its row says (R560 to R571, R575 to R577). -/
theorem exec_fpUnaryRow {r : FpUnaryRow} (h : r ∈ fpUnaryRows) (rd rs2 : RegNum) (s : State) :
    exec (r.instr rd rs2) s = .next (fpUnary (r.instr rd rs2).mnemonic r.src r.dst r.op rd rs2 s) := by
  unfold fpUnaryRows at h
  fin_cases h <;> rfl

/-- So does one of two operands (R578 to R591). -/
theorem exec_fpBinaryRow {r : FpBinaryRow} (h : r ∈ fpBinaryRows) (rd rs1 rs2 : RegNum) (s : State) :
    exec (r.instr rd rs1 rs2) s = .next (fpBinary (r.instr rd rs1 rs2).mnemonic r.src r.dst r.op rd rs1 rs2 s) := by
  unfold fpBinaryRows at h
  fin_cases h <;> rfl

/-- So does a compare (R592 to R597). -/
theorem exec_fpCompareRow {r : FpCompareRow} (h : r ∈ fpCompareRows) (rs1 rs2 : RegNum) (s : State) :
    exec (r.instr rs1 rs2) s = .next (fpCmp (r.instr rs1 rs2).mnemonic r.signalsQuiet r.fmt rs1 rs2 s) := by
  unfold fpCompareRows at h
  fin_cases h <;> rfl

/-- FMOVs, FNEGs and FABSs run as one move (R572 to R574). -/
theorem exec_fpMove {i : Instr} {rd rs2 : RegNum} (h : i ∈ [Instr.fmovs rd rs2, .fnegs rd rs2, .fabss rd rs2]) (s : State) :
    ∃ f, exec i s = .next (fpMove i.mnemonic f rd rs2 s) := by
  fin_cases h <;> exact ⟨_, rfl⟩

/-- Every FPop begins with the FPU's check (R553 steps 1 and 2). -/
theorem IsFpop.exec_eq {i : Instr} (h : IsFpop i) (s : State) : ∃ k, exec i s = .next (s.fpopReady k) := by
  cases h with
  | unary r hr rd rs2 => exact ⟨_, exec_fpUnaryRow hr rd rs2 s⟩
  | binary r hr rd rs1 rs2 => exact ⟨_, exec_fpBinaryRow hr rd rs1 rs2 s⟩
  | compare r hr rs1 rs2 => exact ⟨_, exec_fpCompareRow hr rs1 rs2 s⟩
  | fmovs | fnegs | fabss | unassigned1 | unassigned2 => exact ⟨_, rfl⟩

/-! The steps of R553. -/

/-- An FPop the implementation lacks (R553 step 3). -/
theorem fpopBody_lacking {name mis a b texc w} {s : State} (h : s.cfg.unimplSet.contains name = true) :
    fpopBody name mis a b texc w s = fpTrap fttUnimplemented s := by
  unfold fpopBody
  rw [if_pos h]

/-- One whose register field is misaligned, where that traps (R553 step 4). -/
theorem fpopBody_misaligned {name mis a b texc w} {s : State} (h1 : s.cfg.unimplSet.contains name = false)
    (h2 : (s.cfg.fpMisalignedRegTraps && mis) = true) : fpopBody name mis a b texc w s = fpTrap fttInvalidRegister s := by
  unfold fpopBody
  rw [h1, if_neg (by decide), if_pos h2]

/-- One that the FPU does not finish (R553 step 6, R613). -/
theorem fpopBody_unfinished {name mis a b texc w} {s : State} (h1 : s.cfg.unimplSet.contains name = false)
    (h2 : (s.cfg.fpMisalignedRegTraps && mis) = false) (h3 : s.unfinished name a b texc = true) :
    fpopBody name mis a b texc w s = fpTrap fttUnfinished s := by
  unfold fpopBody
  rw [h1, h2, if_neg (by decide), if_neg (by decide), if_pos h3]

/-- An enabled exception: the highest goes to cexc and traps (R103, R553 step 7). -/
theorem fpComplete_trapped {s : State} {x : BitVec 5} {w} (h : x &&& s.fsr.tem ≠ 0#5) :
    fpComplete x w s = fpTrap fttIeee (s.setCexc (highestBit (x &&& s.fsr.tem))) := by
  unfold fpComplete
  rw [if_pos (bne_iff_ne.mpr h)]

/-- A ready FPU runs an FPop through those steps. -/
theorem FpopAt.exec_eq {s : State} {i : Instr} {mis : Bool} {a b : Nat} {texc : BitVec 5} (h : FpopAt s i mis a b texc)
    (hr : s.fpuReady) : ∃ w, exec i s = .next (fpopBody i.mnemonic mis a b texc w s) := by
  cases h with
  | unary r hm rd rs2 =>
    exact ⟨_, (exec_fpUnaryRow hm rd rs2 s).trans (congrArg Host.Outcome.next (State.fpopReady_ready hr _))⟩
  | binary r hm rd rs1 rs2 =>
    exact ⟨_, (exec_fpBinaryRow hm rd rs1 rs2 s).trans (congrArg Host.Outcome.next (State.fpopReady_ready hr _))⟩
  | compare r hm rs1 rs2 =>
    exact ⟨_, (exec_fpCompareRow hm rs1 rs2 s).trans (congrArg Host.Outcome.next (State.fpopReady_ready hr _))⟩

/-! The FPops a ready FPU does not complete: each ends in fp_trap, which the two machines do in their own ways. -/

section
variable {s : State} (hr : s.fpuReady)
include hr

/-- An unassigned opf (R556). -/
theorem exec_unassigned (rd rs1 : RegNum) (opf : BitVec 9) (rs2 : RegNum) :
    exec (.fpop1Unassigned rd rs1 opf rs2) s = .next (fpTrap fttUnimplemented s) ∧
    exec (.fpop2Unassigned rd rs1 opf rs2) s = .next (fpTrap fttUnimplemented s) := by
  have h : fpUnassigned s = fpTrap fttUnimplemented s := State.fpopReady_ready hr _
  exact ⟨congrArg Host.Outcome.next h, congrArg Host.Outcome.next h⟩

/-- A move the implementation lacks. -/
theorem exec_fpMove_lacking {i : Instr} {rd rs2 : RegNum} (hi : i ∈ [Instr.fmovs rd rs2, .fnegs rd rs2, .fabss rd rs2])
    (h : s.cfg.unimplSet.contains i.mnemonic = true) : exec i s = .next (fpTrap fttUnimplemented s) := by
  obtain ⟨f, hx⟩ := exec_fpMove hi s
  rw [hx, fpMove, State.fpopReady_ready hr, if_pos h]

variable {i : Instr} {mis : Bool} {a b : Nat} {texc : BitVec 5} (hi : FpopAt s i mis a b texc)
include hi

/-- Any other FPop it lacks. -/
theorem FpopAt.exec_lacking (h : s.cfg.unimplSet.contains i.mnemonic = true) : exec i s = .next (fpTrap fttUnimplemented s) := by
  obtain ⟨w, hx⟩ := hi.exec_eq hr
  rw [hx, fpopBody_lacking h]

/-- One with a misaligned register field, where that traps. -/
theorem FpopAt.exec_misaligned (h1 : s.cfg.unimplSet.contains i.mnemonic = false)
    (h2 : (s.cfg.fpMisalignedRegTraps && mis) = true) : exec i s = .next (fpTrap fttInvalidRegister s) := by
  obtain ⟨w, hx⟩ := hi.exec_eq hr
  rw [hx, fpopBody_misaligned h1 h2]

omit hr

/-- One accepted and not finished. -/
theorem FpopAt.exec_unfinished (h : s.fpopAccepted i mis) (hu : s.unfinished i.mnemonic a b texc = true) :
    exec i s = .next (fpTrap fttUnfinished s) := by
  obtain ⟨hready, hpresent, haligned⟩ := h
  obtain ⟨w, hx⟩ := hi.exec_eq hready
  rw [hx, fpopBody_unfinished hpresent haligned hu]

/-- One accepted and finished, with an exception that is enabled. -/
theorem FpopAt.exec_trapped (h : s.fpopAccepted i mis) (hu : s.unfinished i.mnemonic a b texc = false)
    (ht : texc &&& s.fsr.tem ≠ 0#5) : exec i s = .next (fpTrap fttIeee (s.setCexc (highestBit (texc &&& s.fsr.tem)))) := by
  obtain ⟨hready, hpresent, haligned⟩ := h
  obtain ⟨w, hx⟩ := hi.exec_eq hready
  rw [hx, fpopBody_accepted hpresent haligned hu, fpComplete_trapped ht]

end

/-! fp_trap (R553 step 8). -/

/-- fp_exception is taken at once where traps are not deferred. -/
theorem fpTrap_precise {s : State} (h : s.cfg.fpTrapsDeferred = false) (ftt : BitVec 3) :
    fpTrap ftt s = raise .fpException { s with fsr := { s.fsr with ftt := ftt } } := by
  unfold fpTrap
  rw [h]
  rfl

/-- Where they are, the FPop is remembered and ends as if complete. -/
theorem fpTrap_deferred {s : State} (h : s.cfg.fpTrapsDeferred = true) (ftt : BitVec 3) :
    fpTrap ftt s =
      { s with
        fsr := { s.fsr with ftt := ftt }, fpuMode := .exceptionPending, pendingFp := some (s.pc ++ s.ir)
        pc := s.npc, npc := s.npc + 4#32 } := by
  unfold fpTrap
  rw [if_pos h]
  rfl

end Sys2Proof.Machine

open Sys2Proof Sys2Proof.Machine

/-- Settles O50: each rejected FPop ends in fp_trap, which without deferred traps takes fp_exception at once. -/
theorem rejectedFloatingPointOperations : Obligations.RejectedFloatingPointOperations := by
  unfold Obligations.RejectedFloatingPointOperations
  intro s hen hprecise
  have hr : s.fpuReady := ⟨hen, .inl hprecise⟩
  simp only [← fpTrap_precise hprecise]
  refine ⟨exec_unassigned hr, fun i mis a b texc hi => ⟨hi.exec_lacking hr, fun h1 h2 h3 => ?_, hi.exec_unfinished⟩,
    fun rd rs2 i hi h => exec_fpMove_lacking hr hi h⟩
  exact hi.exec_misaligned hr h1 (by rw [h2, h3]; rfl)
end

section
/-! The deferred FPU (R107, R553): what its checks do in each state with the floating-point instructions that they stop. -/

namespace Sys2Proof.Machine

/-- take_pending_fp_exception: the FPop remembered, if any, enters a queue with room (R553 step 8, log 12). -/
theorem takePendingFp_eq (s : State) :
    takePendingFp s = raise .fpException { s with
      fq := if s.cfg.hasFq = true ∧ s.fq.length < s.cfg.fqDepth then s.fq ++ s.pendingFp.toList else s.fq
      fpuMode := .exception, pendingFp := none } := by
  unfold takePendingFp
  cases s.pendingFp <;> simp

/-- The move out of fp_exception_pending after a sequence_error enters nothing in the queue (R107). -/
theorem takePendingFp_sequenceError (s : State) :
    takePendingFp s.sequenceError =
      raise .fpException { s with fsr := { s.fsr with ftt := 4#3 }, fpuMode := .exception, pendingFp := none } := rfl

/-- An IEEE exception of a remembered FPop is in cexc too (R553 step 7). -/
theorem fpTrap_deferred_ieee {s : State} (h : s.cfg.fpTrapsDeferred = true) (x : BitVec 5) :
    fpTrap fttIeee (s.setCexc x) =
      { s with
        fsr := { s.fsr with ftt := 1#3, cexc := x }, fpuMode := .exceptionPending, pendingFp := some (s.pc ++ s.ir)
        pc := s.npc, npc := s.npc + 4#32 } :=
  fpTrap_deferred (s := s.setCexc x) h _

/-! The checks, state by state. -/

section
variable {s : State} (hd : s.cfg.fpTrapsDeferred = true)
include hd

/-- An FPop finds a pending exception (R553 step 2). -/
theorem State.fpopReady_pending (hen : s.fpEnabled = true) (hm : s.fpuMode = .exceptionPending) (k) :
    s.fpopReady k = takePendingFp s := by
  unfold State.fpopReady
  rw [if_pos hen, if_pos hd, hm]

/-- An FPop finds the fp_exception state (R553 step 2). -/
theorem State.fpopReady_exception (hen : s.fpEnabled = true) (hm : s.fpuMode = .exception) (k) :
    s.fpopReady k = s.sequenceError.advance := by
  unfold State.fpopReady
  rw [if_pos hen, if_pos hd, hm]
  rfl

/-- An FBfcc or a load finds a pending exception (R107, R323, R477). -/
theorem State.fpReady_pending (hm : s.fpuMode = .exceptionPending) (k) : s.fpReady k = takePendingFp s := by
  rw [State.fpReady_cases, hd, hm]
  rfl

/-- An FBfcc or a load finds the fp_exception state: the parameter says which reading holds (log 12). -/
theorem State.fpReady_exception (hm : s.fpuMode = .exception) (k) :
    s.fpReady k = if s.cfg.fpSequenceErrorAtOnce then takePendingFp s.sequenceError else s.sequenceError.advance := by
  rw [State.fpReady_cases, hd, hm]
  rfl

/-- A store finds a pending exception (R325). -/
theorem fpStore_pending (hen : s.fpEnabled = true) (hm : s.fpuMode = .exceptionPending) {sz : AccessSize} {a : Word}
    (ha : sz.aligned a = true) (bad : Bool) (k) : fpStore sz bad a k s = takePendingFp s := by
  unfold fpStore State.fpStoreReady
  rw [if_pos hen, State.ifAligned_aligned ha, if_pos (by rw [hd, hm]; rfl)]

end

/-! The instructions that make those checks. -/

/-- An FBfcc is a branch on the floating-point condition (R475, R476). -/
theorem exec_fccRow {r : CcRow} (h : r ∈ fccRows) (a : Bool) (disp22 : BitVec 22) (s : State) :
    ∃ cond, exec (r.branch a disp22) s = .next (branchFcc cond a disp22 s) := by
  unfold fccRows at h
  fin_cases h <;> exact ⟨_, rfl⟩

/-- The checks of a floating-point load before the FPU's, passed (R323). -/
theorem fpLoad_checked {s : State} (hen : s.fpEnabled = true) {sz : AccessSize} {a : Word} (ha : sz.aligned a = true) {bad : Bool}
    (hb : s.cfg.fpMisalignedRegTraps = false ∨ bad = false) (k) : fpLoad sz bad a k s = s.fpReady k := by
  unfold fpLoad
  rw [if_pos hen, State.ifAligned_aligned ha, if_neg (by rcases hb with h | h <;> simp [h])]

/-- An FBfcc, or a load with its address and register as they must be, comes to the FPU's check (R323, R477). -/
theorem LoadsOrBranchesFpu.exec_eq {s : State} {i : Instr} (h : LoadsOrBranchesFpu s i) (hen : s.fpEnabled = true) :
    ∃ k, exec i s = .next (s.fpReady k) := by
  cases h with
  | branch r hr a disp22 =>
    obtain ⟨cond, hx⟩ := exec_fccRow hr a disp22 s
    rw [hx, branchFcc, if_pos hen]
    exact ⟨_, rfl⟩
  | ldf rd rs1 op2 ha =>
    exact ⟨_, congrArg Host.Outcome.next (fpLoad_checked hen ((AccessSize.aligned_word_iff _).mpr ha) (.inr rfl) _)⟩
  | ldfsr rs1 op2 ha =>
    exact ⟨_, congrArg Host.Outcome.next (fpLoad_checked hen ((AccessSize.aligned_word_iff _).mpr ha) (.inr rfl) _)⟩
  | lddf rd rs1 op2 ha hb =>
    exact ⟨_, congrArg Host.Outcome.next (fpLoad_checked hen ((AccessSize.aligned_double_iff _).mpr ha) hb _)⟩

/-- Every floating-point instruction takes a pending exception (R107). -/
theorem ResumesFpu.exec_pending {s : State} {i : Instr} (h : ResumesFpu s i) (hen : s.fpEnabled = true)
    (hd : s.cfg.fpTrapsDeferred = true) (hm : s.fpuMode = .exceptionPending) : exec i s = .next (takePendingFp s) := by
  cases h with
  | fpop _ hi =>
    obtain ⟨k, hx⟩ := hi.exec_eq s
    rw [hx, State.fpopReady_pending hd hen hm]
  | other _ hi =>
    obtain ⟨k, hx⟩ := hi.exec_eq hen
    rw [hx, State.fpReady_pending hd hm]
  | stf rd rs1 op2 ha | stfsr rs1 op2 ha =>
    exact congrArg Host.Outcome.next (fpStore_pending hd hen hm ((AccessSize.aligned_word_iff _).mpr ha) _ _)
  | stdf rd rs1 op2 ha =>
    exact congrArg Host.Outcome.next (fpStore_pending hd hen hm ((AccessSize.aligned_double_iff _).mpr ha) _ _)
  | stdfq rs1 op2 ha hs =>
    exact congrArg Host.Outcome.next
      ((if_pos hs).trans (fpStore_pending hd hen hm ((AccessSize.aligned_double_iff _).mpr ha) _ _))

end Sys2Proof.Machine

open Sys2Proof Sys2Proof.Machine

/-- Settles O51: state by state of the FPU; in fp_execute each rejected or trapping FPop ends in fp_trap, which remembers it. -/
theorem deferredFloatingPointExceptions : Obligations.DeferredFloatingPointExceptions := by
  unfold Obligations.DeferredFloatingPointExceptions
  intro s hen hd
  refine ⟨fun hm => ?_, fun hm i hi => ?_, fun hm => ⟨fun i hi => ?_, fun i hi => ⟨fun hlater => ?_, fun honce => ?_⟩⟩⟩
  · have hr : s.fpuReady := ⟨hen, .inr hm⟩
    have remembered {i : Instr} {ftt : BitVec 3} (h : exec i s = .next (fpTrap ftt s)) := h.trans (by rw [fpTrap_deferred hd])
    refine ⟨fun rd rs1 opf rs2 => ?_, fun rd rs2 i hi h => remembered (exec_fpMove_lacking hr hi h),
      fun i mis a b texc hi => ⟨fun h => remembered (hi.exec_lacking hr h), fun h1 h2 => remembered (hi.exec_misaligned hr h1 h2),
        fun hacc => ?_, fun hacc hfin htrap => ?_⟩⟩
    · exact (exec_unassigned hr rd rs1 opf rs2).imp remembered remembered
    · by_cases hu : s.unfinished i.mnemonic a b texc = true
      · exact ⟨s, by rw [if_pos hu]; exact remembered (hi.exec_unfinished hacc hu)⟩
      · obtain ⟨w, hx⟩ := hi.exec_eq hr
        exact ⟨_, by rw [if_neg hu]; exact hx⟩
    · obtain ⟨hone, hraised, hhighest⟩ := highestBit_spec _ htrap
      refine ⟨_, hone, hraised, hhighest, ?_⟩
      exact (hi.exec_trapped hacc hfin htrap).trans (by rw [fpTrap_deferred_ieee hd])
  · rw [hi.exec_pending hen hd hm, takePendingFp_eq]
  · obtain ⟨k, hx⟩ := hi.exec_eq s
    rw [hx, State.fpopReady_exception hd hen hm]
    rfl
  · obtain ⟨k, hx⟩ := hi.exec_eq hen
    rw [hx, State.fpReady_exception hd hm, if_neg (by rw [hlater]; decide)]
    rfl
  · obtain ⟨k, hx⟩ := hi.exec_eq hen
    rw [hx, State.fpReady_exception hd hm, if_pos honce, takePendingFp_sequenceError]
end

section
/-! Floating-point stores (R358, R359, R364, R365): the fields of the word STFSR stores, and the checks a store that is ready has passed. -/

namespace Sys2Proof.Machine

/-! The fields of a word put together from them. -/

theorem extract_append_above {n m k l : Nat} (hi : BitVec n) (lo : BitVec m) (h : m ≤ k) :
    (hi ++ lo).extractLsb' k l = hi.extractLsb' (k - m) l := BitVec.extractLsb'_append_eq_of_le h

theorem extract_append_low {n m : Nat} (hi : BitVec n) (lo : BitVec m) : (hi ++ lo).extractLsb' 0 m = lo :=
  (BitVec.extractLsb'_append_eq_of_add_le (by omega)).trans BitVec.extractLsb'_eq_self

theorem getLsbD_append_above {n m k : Nat} (hi : BitVec n) (lo : BitVec m) (h : m ≤ k) :
    (hi ++ lo).getLsbD k = hi.getLsbD (k - m) := by
  rw [BitVec.getLsbD_append, if_neg (by omega)]

theorem getLsbD_append_ofBool {n k : Nat} (hi : BitVec n) (b : Bool) (h : k = 0) : (hi ++ BitVec.ofBool b).getLsbD k = b := by
  subst h
  rw [BitVec.getLsbD_append, if_pos (by decide)]
  cases b <;> rfl

/-- The word STFSR stores has each field at its bits (R90). -/
theorem State.fsrWord_fields (s : State) :
    let w := s.fsrWord
    w.extractLsb' 30 2 = s.fsr.rd ∧ w.extractLsb' 28 2 = 0#2 ∧ w.extractLsb' 23 5 = s.fsr.tem ∧
    w.getLsbD 22 = (s.fsr.ns && s.cfg.fsrNsImplemented) ∧ w.extractLsb' 20 2 = 0#2 ∧ w.extractLsb' 17 3 = s.cfg.fsrVer ∧
    w.extractLsb' 14 3 = s.fsr.ftt ∧ w.getLsbD 13 = s.qne ∧ w.getLsbD 12 = false ∧ w.extractLsb' 10 2 = s.fsr.fcc ∧
    w.extractLsb' 5 5 = s.fsr.aexc ∧ w.extractLsb' 0 5 = s.fsr.cexc := by
  dsimp only
  unfold State.fsrWord
  refine ⟨?_, ?_, ?_, ?_, ?_, ?_, ?_, ?_, ?_, ?_, ?_, ?_⟩
  case refine_1 =>
    repeat rw [extract_append_above _ _ (by decide)]
    exact BitVec.extractLsb'_eq_self
  case refine_4 | refine_8 =>
    repeat rw [getLsbD_append_above _ _ (by decide)]
    exact getLsbD_append_ofBool _ _ (by decide)
  case refine_9 =>
    repeat rw [getLsbD_append_above _ _ (by decide)]
    exact getLsbD_append_ofBool _ false (by decide)
  all_goals
    repeat rw [extract_append_above _ _ (by decide)]
    exact extract_append_low _ _

/-! The stores whose address is aligned, the FPU accepting them. -/

section
variable {s : State} (hf : s.fpuStores) {rd rs1 : RegNum} {op2 : Operand2}
include hf

/-- STF (R358). -/
theorem exec_stf (ha : (s.address rs1 op2).toNat % 4 = 0) :
    exec (.stf rd rs1 op2) s = .next (s.writing s.dataAsi .word (s.address rs1 op2) (s.freg rd) State.advance) :=
  congrArg Host.Outcome.next (fpStore_ready hf ((AccessSize.aligned_word_iff _).mpr ha) (.inr rfl))

/-- STFSR (R364). -/
theorem exec_stfsr (ha : (s.address rs1 op2).toNat % 4 = 0) :
    exec (.stfsr rs1 op2) s = .next (s.writing s.dataAsi .word (s.address rs1 op2) s.fsrWord State.advance) :=
  congrArg Host.Outcome.next (fpStore_ready hf ((AccessSize.aligned_word_iff _).mpr ha) (.inr rfl))

/-- STDF of a register it allows (R359). -/
theorem exec_stdf (ha : (s.address rs1 op2).toNat % 8 = 0) (hb : s.cfg.fpMisalignedRegTraps = false ∨ rd.getLsbD 0 = false) :
    exec (.stdf rd rs1 op2) s =
      .next (s.writingDouble s.dataAsi (s.address rs1 op2) (s.freg (evenReg rd)) (s.freg (oddReg rd)) State.advance) :=
  congrArg Host.Outcome.next (fpStore_ready hf ((AccessSize.aligned_double_iff _).mpr ha) hb)

/-- STDF of an odd register, where that traps (R84, R325). -/
theorem exec_stdf_odd (ha : (s.address rs1 op2).toNat % 8 = 0) (hc : s.cfg.fpMisalignedRegTraps = true)
    (hb : rd.getLsbD 0 = true) :
    exec (.stdf rd rs1 op2) s = .next (raise .fpException { s with fsr := { s.fsr with ftt := 6#3 } }) := by
  have hx : storeDf rd (s.address rs1 op2) s = raiseFp fttInvalidRegister s := by
    unfold storeDf fpStore
    rw [if_pos hf.1, State.ifAligned_aligned ((AccessSize.aligned_double_iff _).mpr ha), State.fpStoreReady_ready hf,
      if_pos (by rw [hc, hb]; rfl)]
  exact congrArg Host.Outcome.next hx

/-- STDFQ in supervisor mode comes to its look at the queue (R365). -/
theorem storeDfq_ready {a : Word} (ha : a.toNat % 8 = 0) (hs : s.psr.s = true) :
    storeDfq a s =
      if s.qne then s.writingDouble s.dataAsi a ((s.fq.headD 0#64).extractLsb' 32 32) ((s.fq.headD 0#64).extractLsb' 0 32)
        fun t => t.popFq.advance
      else raiseFp fttSequenceError s := by
  unfold storeDfq
  rw [if_pos hs, fpStore_ready hf ((AccessSize.aligned_double_iff _).mpr ha) (.inr rfl)]

/-- STDFQ of a queue with an entry (R365). -/
theorem exec_stdfq {e : BitVec 64} {rest : List (BitVec 64)} (ha : (s.address rs1 op2).toNat % 8 = 0) (hs : s.psr.s = true)
    (hq : s.cfg.hasFq = true) (he : s.fq = e :: rest) :
    exec (.stdfq rs1 op2) s =
      .next (s.writingDouble s.dataAsi (s.address rs1 op2) (e.extractLsb' 32 32) (e.extractLsb' 0 32)
        fun t => t.popFq.advance) := by
  have hne : s.qne = true := by rw [State.qne, hq, he]; rfl
  have hx := storeDfq_ready hf ha hs
  rw [if_pos hne, he] at hx
  exact congrArg Host.Outcome.next hx

/-- STDFQ of a queue that is absent or empty (R365). -/
theorem exec_stdfq_empty (ha : (s.address rs1 op2).toNat % 8 = 0) (hs : s.psr.s = true)
    (hq : s.cfg.hasFq = false ∨ s.fq = []) :
    exec (.stdfq rs1 op2) s = .next (raise .fpException { s with fsr := { s.fsr with ftt := 4#3 } }) := by
  have hne : s.qne = false := by rw [State.qne]; rcases hq with h | h <;> simp [h]
  have hx := storeDfq_ready hf ha hs
  rw [hne, if_neg (by decide)] at hx
  exact congrArg Host.Outcome.next hx

end

/-- Two words written, the queue advances from its entry (R365). -/
theorem State.popFq_advance {s v : State} {e : BitVec 64} {rest : List (BitVec 64)} (hv : State.Written s v) (he : s.fq = e :: rest) :
    v.popFq.advance =
      { v with fq := rest, fpuMode := if rest.isEmpty then .execute else s.fpuMode, pc := s.npc, npc := s.npc + 4#32 } := by
  have hq : v.fq = e :: rest := by rw [hv]; exact he
  have hn : v.npc = s.npc := by rw [hv]
  have hm : v.fpuMode = s.fpuMode := by rw [hv]
  unfold State.popFq State.advance
  rw [hq, hm]
  dsimp only
  rw [hn]
  rfl

end Sys2Proof.Machine

open Sys2Proof Sys2Proof.Machine

/-- Settles O45: each store, its checks passed, is the write of one word or of two; STDFQ's queue then advances. -/
theorem floatingPointStores : Obligations.FloatingPointStores := by
  unfold Obligations.FloatingPointStores
  intro s rd rs1 op2 hf
  refine ⟨fun ha => ⟨storesAt_writing (exec_stf hf ha) ha, s.fsrWord, storesAt_writing (exec_stfsr hf ha) ha, s.fsrWord_fields⟩,
    fun ha hb => ?_, fun ha hc hb => exec_stdf_odd hf ha hc hb,
    fun ha hs => ⟨fun e rest hq he => ?_, fun hq => exec_stdfq_empty hf ha hs hq⟩⟩
  · exact storesPairAt_writingDouble (exec_stdf hf ha hb) s.advance_eq_finish (fun _ _ _ _ => rfl) (fun _ => rfl) fun _ => rfl
  · exact storesPairAt_writingDouble (exec_stdfq hf ha hs hq he) (fun v hv => State.popFq_advance hv he) (fun _ _ _ _ => rfl)
      (fun _ => rfl) fun _ => rfl
end

section
/-! What a compare delivers (R592): every operand that is no NaN has a place among the integers, in units of the format's least subnormal
number, and the model's order of operands is the order of those places. -/

namespace Sys2Proof.Machine

/-- The places of the infinities, on either side of every number's (R592). -/
def Fmt.infinityPlace (t : Fmt) : Int := 2 ^ (t.bias + 1 + t.leastExponent)

/-- The place of an operand among the integers; a NaN has none. -/
def FpValue.place (t : Fmt) : FpValue → Int
  | .nan _ _ => 0
  | .inf s => if s then -t.infinityPlace else t.infinityPlace
  | .zero _ => 0
  | .num s m e => signedMagnitude s (m * 2 ^ (e + t.leastExponent).toNat)

/-- A number is a multiple of the least subnormal number, and its magnitude below infinity's. -/
def FpValue.Fits (t : Fmt) : FpValue → Prop
  | .num _ m e => -(t.leastExponent : Int) ≤ e ∧ m * 2 ^ (e + t.leastExponent).toNat < 2 ^ (t.bias + 1 + t.leastExponent)
  | _ => True

/-! Operands taken apart (R86 to R88). -/

theorem Fmt.expMax_pos (t : Fmt) : 0 < t.expMax := by cases t <;> decide

/-- What `unpack` answers, by the exponent and fraction fields. -/
theorem unpack_eq (t : Fmt) (a : Nat) :
    unpack t a =
      if a / 2 ^ t.fracBits % 2 ^ t.expBits = t.expMax then
        if a % 2 ^ t.fracBits = 0 then .inf (a.testBit t.signBit) else .nan (a.testBit t.signBit) (a % 2 ^ t.fracBits)
      else if a / 2 ^ t.fracBits % 2 ^ t.expBits = 0 then
        if a % 2 ^ t.fracBits = 0 then .zero (a.testBit t.signBit)
        else .num (a.testBit t.signBit) (a % 2 ^ t.fracBits) (-t.leastExponent)
      else .num (a.testBit t.signBit) (2 ^ t.fracBits + a % 2 ^ t.fracBits)
        ((a / 2 ^ t.fracBits % 2 ^ t.expBits : Nat) - 1 - t.leastExponent) := by
  have hL := t.leastExponent_eq
  unfold unpack
  dsimp only
  rw [Nat.shiftRight_eq_div_pow, show (1 : Int) - t.bias - t.fracBits = -t.leastExponent by omega,
    show ((a / 2 ^ t.fracBits % 2 ^ t.expBits : Nat) : Int) - t.bias - t.fracBits =
      (a / 2 ^ t.fracBits % 2 ^ t.expBits : Nat) - 1 - t.leastExponent by omega]

/-- The NaNs are the patterns with the largest exponent and a fraction that is not 0. -/
theorem unpack_isNan_iff (t : Fmt) (a : Nat) :
    (unpack t a).isNan = true ↔ a / 2 ^ t.fracBits % 2 ^ t.expBits = 2 ^ t.expBits - 1 ∧ a % 2 ^ t.fracBits ≠ 0 := by
  have hpos : 0 < 2 ^ t.expBits - 1 := t.expMax_pos
  rw [unpack_eq, Fmt.expMax]
  split
  · split <;> simp [FpValue.isNan, *]
  · split
    · split <;> simp [FpValue.isNan, hpos.ne, *]
    · simp [FpValue.isNan, *]

/-- The exponent of the least subnormal number, by the fields' widths. -/
theorem Fmt.bias_add_leastExponent (t : Fmt) : t.bias + 1 + t.leastExponent = t.fracBits + (t.expMax - 1) := by cases t <;> rfl

/-- The exact value is the place of the operand. -/
theorem scaledValue_unpack {t : Fmt} {a : Nat} (h : (unpack t a).isNan = false) : scaledValue t a = (unpack t a).place t := by
  have hs : (a / 2 ^ (t.expBits + t.fracBits) % 2 = 1) ↔ a.testBit t.signBit = true := by
    rw [Nat.testBit_eq_decide_div_mod_eq, decide_eq_true_iff]
    rfl
  unfold scaledValue
  rw [unpack_eq] at h ⊢
  simp only [hs]
  by_cases hmax : a / 2 ^ t.fracBits % 2 ^ t.expBits = t.expMax
  · have h0 := t.expMax_pos
    by_cases hfrac : a % 2 ^ t.fracBits = 0
    · rw [if_pos hmax, if_pos hfrac, hmax, hfrac, if_neg h0.ne', Nat.add_zero, ← pow_add, ← t.bias_add_leastExponent]
      unfold FpValue.place Fmt.infinityPlace
      push_cast
      rfl
    · rw [if_pos hmax, if_neg hfrac] at h
      cases h
  · rw [if_neg hmax]
    by_cases hexp : a / 2 ^ t.fracBits % 2 ^ t.expBits = 0
    · by_cases hfrac : a % 2 ^ t.fracBits = 0
      · rw [if_pos hexp, if_pos hfrac, if_pos hexp, hfrac]
        unfold FpValue.place
        simp
      · rw [if_pos hexp, if_neg hfrac, if_pos hexp]
        unfold FpValue.place signedMagnitude
        simp
    · rw [if_neg hexp, if_neg hexp]
      unfold FpValue.place signedMagnitude
      dsimp only
      rw [show ((a / 2 ^ t.fracBits % 2 ^ t.expBits : Nat) - 1 - (t.leastExponent : Int) + t.leastExponent).toNat =
        a / 2 ^ t.fracBits % 2 ^ t.expBits - 1 by omega]

/-- Every operand fits its format. -/
theorem unpack_fits (t : Fmt) (a : Nat) : (unpack t a).Fits t := by
  have hmod := Nat.mod_lt a (Nat.two_pow_pos t.fracBits)
  have hlt := Nat.mod_lt (a / 2 ^ t.fracBits) (Nat.two_pow_pos t.expBits)
  rw [unpack_eq]
  split
  · split <;> trivial
  · next hmax =>
    split
    · split
      · trivial
      · refine ⟨le_rfl, ?_⟩
        rw [show (-(t.leastExponent : Int) + t.leastExponent).toNat = 0 by omega, pow_zero, mul_one, t.bias_add_leastExponent]
        exact hmod.trans_le (Nat.pow_le_pow_right (by decide) (by omega))
    · next hexp =>
      have hbelow : a / 2 ^ t.fracBits % 2 ^ t.expBits < t.expMax := by
        unfold Fmt.expMax at hmax ⊢
        omega
      refine ⟨by omega, ?_⟩
      rw [show ((a / 2 ^ t.fracBits % 2 ^ t.expBits : Nat) - 1 - (t.leastExponent : Int) + t.leastExponent).toNat =
        a / 2 ^ t.fracBits % 2 ^ t.expBits - 1 by omega, t.bias_add_leastExponent]
      calc (2 ^ t.fracBits + a % 2 ^ t.fracBits) * 2 ^ (a / 2 ^ t.fracBits % 2 ^ t.expBits - 1)
          < 2 ^ (t.fracBits + 1) * 2 ^ (a / 2 ^ t.fracBits % 2 ^ t.expBits - 1) :=
            Nat.mul_lt_mul_of_pos_right (by rw [pow_succ]; omega) (Nat.two_pow_pos _)
        _ = 2 ^ (t.fracBits + 1 + (a / 2 ^ t.fracBits % 2 ^ t.expBits - 1)) := (pow_add ..).symm
        _ ≤ 2 ^ (t.fracBits + (t.expMax - 1)) := Nat.pow_le_pow_right (by decide) (by omega)

/-! The order. -/

/-- Where an operand stands: below, among or above the numbers. -/
def FpValue.rank : FpValue → Int
  | .inf s => if s then -1 else 1
  | _ => 0

/-- A number's significand with its sign, and its exponent. -/
def FpValue.part : FpValue → Int × Int
  | .num s m e => (signedMagnitude s m, e)
  | _ => (0, 0)

theorem compareNumbers_eq_rank_part (v1 v2 : FpValue) :
    compareNumbers v1 v2 =
      if v1.rank = 0 && v2.rank = 0 then
        compare (v1.part.1 * 2 ^ (v1.part.2 - min v1.part.2 v2.part.2).toNat)
          (v2.part.1 * 2 ^ (v2.part.2 - min v1.part.2 v2.part.2).toNat)
      else compare v1.rank v2.rank := rfl

/-- Two pairs of integers in the same order compare alike. -/
theorem compare_congr {a b c d : Int} (hlt : a < b ↔ c < d) (hgt : b < a ↔ d < c) : compare a b = compare c d := by
  rcases lt_trichotomy a b with h | h | h
  · rw [compare_lt_iff_lt.mpr h, compare_lt_iff_lt.mpr (hlt.mp h)]
  · have heq : c = d := by omega
    rw [compare_eq_iff_eq.mpr h, compare_eq_iff_eq.mpr heq]
  · rw [compare_gt_iff_gt.mpr h, compare_gt_iff_gt.mpr (hgt.mp h)]

/-- Rank and place agree: the infinities are at either end, everything else strictly between. -/
theorem FpValue.rank_place {t : Fmt} {v : FpValue} (h : v.Fits t) :
    v.rank = -1 ∧ v.place t = -t.infinityPlace ∨ v.rank = 1 ∧ v.place t = t.infinityPlace ∨
      v.rank = 0 ∧ -t.infinityPlace < v.place t ∧ v.place t < t.infinityPlace := by
  have hpos : 0 < t.infinityPlace := by unfold Fmt.infinityPlace; positivity
  cases v with
  | nan | zero => simp [FpValue.rank, FpValue.place, hpos]
  | inf s => cases s <;> simp [FpValue.rank, FpValue.place]
  | num s m e =>
    have hm : ((m * 2 ^ (e + t.leastExponent).toNat : Nat) : Int) < t.infinityPlace := by
      unfold Fmt.infinityPlace
      exact_mod_cast h.2
    refine .inr (.inr ⟨rfl, ?_⟩)
    show -t.infinityPlace < signedMagnitude s _ ∧ signedMagnitude s _ < t.infinityPlace
    unfold signedMagnitude
    split <;> omega

/-- What is no infinity lies at its significand times a power of 2. -/
theorem FpValue.part_place {t : Fmt} {v : FpValue} (h : v.Fits t) (hr : v.rank = 0) :
    -(t.leastExponent : Int) ≤ v.part.2 ∧ v.place t = v.part.1 * 2 ^ (v.part.2 + t.leastExponent).toNat := by
  cases v with
  | nan | zero => simp [FpValue.part, FpValue.place]
  | inf s => cases s <;> simp [FpValue.rank] at hr
  | num s m e =>
    refine ⟨h.1, ?_⟩
    unfold FpValue.part FpValue.place signedMagnitude
    cases s <;> simp

/-- Comparing significands moved to one exponent is comparing places. -/
theorem shifted_lt_iff {n1 n2 e1 e2 L : Int} (h1 : -L ≤ e1) (h2 : -L ≤ e2) :
    n1 * 2 ^ (e1 - min e1 e2).toNat < n2 * 2 ^ (e2 - min e1 e2).toNat ↔ n1 * 2 ^ (e1 + L).toNat < n2 * 2 ^ (e2 + L).toNat := by
  have hmove {e : Int} (h : min e1 e2 ≤ e) : (e + L).toNat = (e - min e1 e2).toNat + (min e1 e2 + L).toNat := by omega
  have hpos : (0 : Int) < 2 ^ (min e1 e2 + L).toNat := by positivity
  rw [hmove (min_le_left ..), hmove (min_le_right ..), pow_add, pow_add, ← mul_assoc, ← mul_assoc, mul_lt_mul_iff_left₀ hpos]

/-- The model orders operands by their places (R592). -/
theorem compareNumbers_eq_compare_place {t : Fmt} {v1 v2 : FpValue} (h1 : v1.Fits t) (h2 : v2.Fits t) :
    compareNumbers v1 v2 = compare (v1.place t) (v2.place t) := by
  rw [compareNumbers_eq_rank_part]
  by_cases hr : v1.rank = 0 ∧ v2.rank = 0
  · obtain ⟨hr1, hr2⟩ := hr
    obtain ⟨he1, hp1⟩ := v1.part_place h1 hr1
    obtain ⟨he2, hp2⟩ := v2.part_place h2 hr2
    rw [if_pos (by rw [hr1, hr2]; rfl), hp1, hp2]
    refine compare_congr (shifted_lt_iff he1 he2) ?_
    rw [min_comm]
    exact shifted_lt_iff he2 he1
  · have hpos : 0 < t.infinityPlace := by unfold Fmt.infinityPlace; positivity
    rw [if_neg (by simpa using hr)]
    have hp1 := FpValue.rank_place h1
    have hp2 := FpValue.rank_place h2
    refine compare_congr ?_ ?_ <;> omega

/-- fcc outside nonstandard mode. -/
theorem fpCompare_fcc (e : Bool) (t : Fmt) {env : FpEnv} (a b : Nat) (hn : env.ns = false) :
    (fpCompare e t env a b).fcc =
      if (unpack t a).isNan || (unpack t b).isNan then 3#2
      else match compareNumbers (unpack t a) (unpack t b) with
        | .eq => 0#2
        | .lt => 1#2
        | .gt => 2#2 := by
  unfold fpCompare
  dsimp only
  rw [flushOperand_standard hn, flushOperand_standard hn]
  split <;> rfl

end Sys2Proof.Machine

open Sys2Proof Sys2Proof.Machine

/-- Settles O49: with no NaN, fcc is the comparison of the operands' places, which are their exact values. -/
theorem compareRelation : Obligations.CompareRelation := by
  unfold Obligations.CompareRelation
  intro e t env a b hn
  dsimp only
  rw [← unpack_isNan_iff, ← unpack_isNan_iff, fpCompare_fcc e t a b hn]
  refine ⟨fun h => if_pos (by simpa using h), fun ha hb => ?_⟩
  rw [Bool.not_eq_true] at ha hb
  rw [if_neg (by rw [ha, hb]; decide), compareNumbers_eq_compare_place (unpack_fits t a) (unpack_fits t b),
    ← scaledValue_unpack ha, ← scaledValue_unpack hb, ← compare_eq_iff_eq (a := scaledValue t a), ← compare_lt_iff_lt,
    ← compare_gt_iff_gt]
  cases compare (scaledValue t a) (scaledValue t b) <;> decide
end

section
/-! The arithmetic on finite operands (R554): what an operand denotes, and that each operation delivers the exact result rounded. -/

namespace Sys2Proof.Machine

/-- The finite operand `v` of format `t` has the sign `s` and the exact value `x` (R86 to R88). -/
inductive FpValue.Denotes (t : Fmt) : FpValue → Bool → ℚ → Prop
  | zero (s : Bool) : Denotes t (.zero s) s 0
  | num (s : Bool) (m : Nat) (e : Int) (hpos : 0 < m) (hwidth : m < 2 ^ (t.fracBits + 1)) (hleast : -(t.leastExponent : Int) ≤ e)
    (hgreatest : e + t.fracBits ≤ t.bias) : Denotes t (.num s m e) s ((if s then -1 else 1) * (m * (2 : ℚ) ^ e))

/-- What a finite bit pattern denotes is its value. -/
theorem unpack_denotes {t : Fmt} {a : Nat} (h : t.finite a) : (unpack t a).Denotes t (a.testBit (t.width - 1)) (t.value a) := by
  rcases unpack_finite h with ⟨hu, hv, -⟩ | ⟨m, e, hu, hm, hw, hlo, hhi, hv⟩
  · rw [hu, hv]
    exact .zero _
  · rw [hu, hv]
    exact .num _ m e hm hw hlo hhi

theorem signed_pos_ne_zero (s : Bool) {m : Nat} (hm : 0 < m) (e : Int) : (if s then -1 else 1 : ℚ) * (m * (2 : ℚ) ^ e) ≠ 0 := by
  have : (m : ℚ) * (2 : ℚ) ^ e ≠ 0 := by positivity
  cases s <;> simpa using this

theorem FpValue.Denotes.negate {t : Fmt} {v : FpValue} {s : Bool} {x : ℚ} (h : v.Denotes t s x) : v.negate.Denotes t (!s) (-x) := by
  cases h with
  | zero => rw [neg_zero]; exact .zero _
  | num _ m e hm hw hlo hhi =>
    have hneg : -((if s then -1 else 1 : ℚ) * (m * (2 : ℚ) ^ e)) = (if !s then -1 else 1) * (m * (2 : ℚ) ^ e) := by
      cases s <;> simp
    rw [hneg]
    exact .num _ m e hm hw hlo hhi

/-! Sum and difference. -/

/-- The sum (R554, R578): rounded; an exact zero has the sign of two zeros of one sign, or the direction's. -/
theorem addNumbers_spec (t : Fmt) {env : FpEnv} (hn : env.ns = false) {v1 v2 : FpValue} {s1 s2 : Bool} {x y : ℚ}
    (h1 : v1.Denotes t s1 x) (h2 : v2.Denotes t s2 y) :
    RoundedFrom t env (x + y : ℚ) (addNumbers t env v1 v2) ∧
    (x + y = 0 → (addNumbers t env v1 v2).bits =
      packBits t (if x = 0 then (if s1 = s2 then s1 else zeroSumSign env.rd) else zeroSumSign env.rd) 0) := by
  cases h1 with
  | zero =>
    cases h2 with
    | zero => exact ⟨.zero (by simp) _, fun _ => by rw [if_pos rfl]; rfl⟩
    | num _ m e hm =>
      rw [zero_add]
      exact ⟨(fpRound_number t env s2 m e hm hn rfl).1, fun h => absurd h (signed_pos_ne_zero s2 hm e)⟩
  | num _ m e hm =>
    cases h2 with
    | zero =>
      rw [add_zero]
      exact ⟨(fpRound_number t env s1 m e hm hn rfl).1, fun h => absurd h (signed_pos_ne_zero s1 hm e)⟩
    | num _ m' e' hm' =>
      rw [if_neg (signed_pos_ne_zero s1 hm e)]
      have hsum : (if s1 then -1 else 1 : ℚ) * (m * (2 : ℚ) ^ e) + (if s2 then -1 else 1) * (m' * (2 : ℚ) ^ e') =
          ((signedMagnitude s1 (m * 2 ^ (e - min e e').toNat) + signedMagnitude s2 (m' * 2 ^ (e' - min e e').toNat) : Int) : ℚ) *
            (2 : ℚ) ^ min e e' := by
        rw [Int.cast_add, signedMagnitude_cast, signedMagnitude_cast, add_mul, mul_assoc, mul_assoc,
          shifted_value _ _ _ (min_le_left ..), shifted_value _ _ _ (min_le_right ..)]
      obtain ⟨hround, hzero⟩ := roundInt_spec t env _ _ hn hsum
      refine ⟨hround, fun h => hzero ?_⟩
      rw [hsum] at h
      have hp : (2 : ℚ) ^ min e e' ≠ 0 := by positivity
      exact_mod_cast (mul_eq_zero.mp h).resolve_right hp

/-! Product. -/

theorem signed_mul (s1 s2 : Bool) (m1 m2 : Nat) (e1 e2 : Int) :
    (if s1 then -1 else 1 : ℚ) * (m1 * (2 : ℚ) ^ e1) * ((if s2 then -1 else 1) * (m2 * (2 : ℚ) ^ e2)) =
      (if s1 ^^ s2 then -1 else 1) * ((m1 * m2 : Nat) * (2 : ℚ) ^ (e1 + e2)) := by
  rw [zpow_add₀ (by norm_num)]
  cases s1 <;> cases s2 <;> simp <;> ring

/-- The product in any format (R584, R587): rounded; its sign is the exclusive or. -/
theorem mulNumbers_spec {t : Fmt} (dst : Fmt) {env : FpEnv} (hn : env.ns = false) {v1 v2 : FpValue} {s1 s2 : Bool} {x y : ℚ}
    (h1 : v1.Denotes t s1 x) (h2 : v2.Denotes t s2 y) :
    RoundedFrom dst env (x * y : ℚ) (mulNumbers dst env v1 v2) ∧
    (mulNumbers dst env v1 v2).bits.testBit (dst.width - 1) = (s1 ^^ s2) := by
  cases h1 with
  | zero => cases h2 <;> exact ⟨.zero (by simp) _, packBits_zero_testBit _ _⟩
  | num _ m1 e1 hm1 =>
    cases h2 with
    | zero => exact ⟨.zero (by simp) _, packBits_zero_testBit _ _⟩
    | num _ m2 e2 hm2 => exact fpRound_number dst env (s1 ^^ s2) (m1 * m2) (e1 + e2) (Nat.mul_pos hm1 hm2) hn (signed_mul ..)

/-! Quotient and root: integers that lie close below the exact magnitude, and a sticky bit. -/

/-- fp_round of a magnitude `y` of which all but a sticky bit is known (R554). -/
theorem fpRound_sticky (t : Fmt) {env : FpEnv} (hn : env.ns = false) (s : Bool) {m : Nat} (e : Int) {y : ℝ} {sticky : Bool}
    (hm : 2 ^ (t.fracBits + 1) ≤ m) (hlo : m * (2 : ℝ) ^ e ≤ y) (hhi : y < (m + 1) * (2 : ℝ) ^ e)
    (hs : sticky = true ↔ y ≠ m * (2 : ℝ) ^ e) :
    RoundedFrom t env ((if s then -1 else 1) * y) (fpRound t env s m e sticky) ∧
    (fpRound t env s m e sticky).bits.testBit (t.width - 1) = s := by
  have hm0 : 0 < m := (Nat.two_pow_pos _).trans_le hm
  have hy : 0 < y := lt_of_lt_of_le (by positivity) hlo
  have hround := (fpRound_roundedFrom t env s m e sticky ((if s then -1 else 1) * y) hm0 hn
    (fun h => by rw [not_not.mp (mt hs.mpr (by simp [h]))])
    (fun h => ⟨(Nat.le_log2 hm0.ne').mpr hm, y, lt_of_le_of_ne hlo (hs.mp h).symm, hhi, rfl⟩)).1
  refine ⟨hround, Bool.eq_iff_iff.mpr ?_⟩
  rw [hround.sign (signed_neg_iff hy).2, (signed_neg_iff hy).1]

/-- The integer quotient of `n` and `d` lies below the exact one, at it exactly when nothing remains. -/
theorem natDiv_bounds {K : Type*} [Field K] [LinearOrder K] [IsStrictOrderedRing K] (n : Nat) {d : Nat} (hd : 0 < d) :
    ((n / d : Nat) : K) ≤ n / d ∧ (n : K) / d < (n / d : Nat) + 1 ∧ ((n % d != 0) = true ↔ (n : K) / d ≠ (n / d : Nat)) := by
  have hd' : (0 : K) < d := by exact_mod_cast hd
  have hdm : (n : K) = d * (n / d : Nat) + (n % d : Nat) := by exact_mod_cast (Nat.div_add_mod n d).symm
  have hlt : ((n % d : Nat) : K) < d := by exact_mod_cast Nat.mod_lt n hd
  have hnn : (0 : K) ≤ (n % d : Nat) := Nat.cast_nonneg _
  refine ⟨?_, ?_, ?_⟩
  · rw [le_div_iff₀ hd']
    linarith
  · rw [div_lt_iff₀ hd']
    linarith
  · have hexact : (n : K) = (n / d : Nat) * d ↔ ((n % d : Nat) : K) = 0 := by
      constructor <;> intro h <;> linarith
    rw [bne_iff_ne, ne_eq, ne_eq, div_eq_iff hd'.ne', hexact, Nat.cast_eq_zero]

/-- The quotient by a nonzero number (R589): rounded; its sign is the exclusive or. -/
theorem divNumbers_spec (t : Fmt) {env : FpEnv} (hn : env.ns = false) {v1 v2 : FpValue} {s1 s2 : Bool} {x y : ℚ}
    (h1 : v1.Denotes t s1 x) (h2 : v2.Denotes t s2 y) (hy : y ≠ 0) :
    RoundedFrom t env (x / y : ℚ) (divNumbers t env v1 v2) ∧
    (divNumbers t env v1 v2).bits.testBit (t.width - 1) = (s1 ^^ s2) := by
  cases h2 with
  | zero => exact absurd rfl hy
  | num _ m2 e2 hm2 hw2 =>
    cases h1 with
    | zero => exact ⟨.zero (by simp) _, packBits_zero_testBit _ _⟩
    | num _ m1 e1 hm1 =>
      unfold divNumbers
      dsimp only
      generalize hk : 2 * t.fracBits + 5 = k
      obtain ⟨hlo, hhi, hs⟩ := natDiv_bounds (K := ℝ) (m1 * 2 ^ k) hm2
      have hlarge : 2 ^ (t.fracBits + 1) ≤ m1 * 2 ^ k / m2 := by
        rw [Nat.le_div_iff_mul_le hm2]
        calc 2 ^ (t.fracBits + 1) * m2 ≤ 2 ^ (t.fracBits + 1) * 2 ^ (t.fracBits + 1) := Nat.mul_le_mul_left _ hw2.le
          _ = 2 ^ (t.fracBits + 1 + (t.fracBits + 1)) := (pow_add ..).symm
          _ ≤ 2 ^ k := Nat.pow_le_pow_right (by decide) (by omega)
          _ ≤ m1 * 2 ^ k := Nat.le_mul_of_pos_left _ hm1
      have hp : (0 : ℝ) < 2 ^ (e1 - k - e2) := by positivity
      have hx : (((if s1 then -1 else 1) * (m1 * (2 : ℚ) ^ e1) / ((if s2 then -1 else 1) * (m2 * (2 : ℚ) ^ e2)) : ℚ) : ℝ) =
          (if s1 ^^ s2 then -1 else 1) * (((m1 * 2 ^ k : Nat) : ℝ) / m2 * 2 ^ (e1 - k - e2)) := by
        have hm2' : (m2 : ℝ) ≠ 0 := by exact_mod_cast hm2.ne'
        rw [zpow_sub₀ (by norm_num), zpow_sub₀ (by norm_num), zpow_natCast]
        cases s1 <;> cases s2 <;> simp <;> field_simp
      rw [hx]
      refine fpRound_sticky t hn _ _ hlarge (mul_le_mul_of_nonneg_right hlo hp.le) (mul_lt_mul_of_pos_right hhi hp) ?_
      rw [hs, ne_eq, ne_eq, mul_left_inj' hp.ne']

/-- The root of a number (R575): rounded. -/
theorem sqrtNumber_spec (t : Fmt) {env : FpEnv} (hn : env.ns = false) {v : FpValue} {s : Bool} {x : ℚ} (h : v.Denotes t s x)
    {z : ℝ} (hz : 0 ≤ z) (hzz : z * z = x) : RoundedFrom t env z (sqrtNumber t env v) := by
  cases h with
  | zero => exact .zero (by simpa using hzz) _
  | num _ m e hm =>
    cases s with
    | true =>
      have hp : (0 : ℝ) < m * 2 ^ e := by positivity
      have hneg : z * z = -(m * 2 ^ e) := by simpa using hzz
      nlinarith
    | false =>
      unfold sqrtNumber
      dsimp only
      generalize hk : (2 * t.fracBits + 10 + if e % 2 = 0 then 0 else 1) = k
      obtain ⟨E, hE⟩ : ∃ E : Int, e - k = E + E := by
        refine ⟨(e - k) / 2, ?_⟩
        split at hk <;> omega
      rw [show (e - k) / 2 = E by omega]
      generalize hn' : m * 2 ^ k = n
      have hp : (0 : ℝ) < 2 ^ E := by positivity
      obtain ⟨w, hw, rfl⟩ : ∃ w : ℝ, 0 ≤ w ∧ z = w * 2 ^ E := ⟨z / 2 ^ E, by positivity, by field_simp⟩
      have hww : w * w = n := by
        have h2 : (2 : ℝ) ^ e = 2 ^ k * (2 ^ E * 2 ^ E) := by
          rw [← zpow_natCast, ← zpow_add₀ (by norm_num), ← zpow_add₀ (by norm_num)]
          congr 1
          omega
        have : w * w * (2 ^ E * 2 ^ E) = n * (2 ^ E * 2 ^ E) := by
          have hsq : w * 2 ^ E * (w * 2 ^ E) = m * 2 ^ e := by simpa using hzz
          rw [← hn', Nat.cast_mul, Nat.cast_pow, Nat.cast_ofNat]
          rw [h2] at hsq
          linarith
        exact mul_right_cancel₀ (by positivity) this
      obtain ⟨hle, hlt⟩ := natSqrt_spec n
      generalize natSqrt n = r at *
      have hleR : (r : ℝ) * r ≤ n := by exact_mod_cast hle
      have hltR : (n : ℝ) < (r + 1) * (r + 1) := by exact_mod_cast hlt
      have hr0 : (0 : ℝ) ≤ r := Nat.cast_nonneg r
      have hlarge : 2 ^ (t.fracBits + 1) ≤ r := by
        by_contra hc
        have hsq : (r + 1) * (r + 1) ≤ 2 ^ (t.fracBits + 1) * 2 ^ (t.fracBits + 1) := Nat.mul_le_mul (by omega) (by omega)
        have hn2 : 2 ^ (t.fracBits + 1) * 2 ^ (t.fracBits + 1) ≤ n := by
          rw [← hn', ← pow_add]
          exact (Nat.pow_le_pow_right (by decide) (by omega)).trans (Nat.le_mul_of_pos_left _ hm)
        omega
      have hround := (fpRound_sticky t hn false E (m := r) (y := w * 2 ^ E) (sticky := r * r != n) hlarge
        (mul_le_mul_of_nonneg_right (by nlinarith) hp.le) (mul_lt_mul_of_pos_right (by nlinarith) hp) ?_).1
      · simpa using hround
      · rw [bne_iff_ne, ne_eq, ne_eq, mul_left_inj' hp.ne', not_iff_not]
        constructor
        · intro h
          have : (r : ℝ) * r = n := by exact_mod_cast h
          nlinarith
        · rintro rfl
          exact_mod_cast hww

/-! Conversions, and results that a wider format holds exactly. -/

/-- Another format's number (R566): rounded, its sign kept. -/
theorem convertNumber_spec {t : Fmt} (dst : Fmt) {env : FpEnv} (hn : env.ns = false) {v : FpValue} {s : Bool} {x : ℚ}
    (h : v.Denotes t s x) :
    RoundedFrom dst env x (convertNumber dst env v) ∧ (convertNumber dst env v).bits.testBit (dst.width - 1) = s := by
  cases h with
  | zero => exact ⟨.zero (by simp) _, packBits_zero_testBit _ _⟩
  | num _ m e hm => exact fpRound_number dst env s m e hm hn rfl

/-- A zero delivered is exact. -/
theorem exactResult_zero (t : Fmt) (s : Bool) : ExactResult t 0 (exactly (packBits t s 0)) := by
  have hp : (0 : Nat) < 2 ^ (t.expBits + t.fracBits) := by positivity
  refine ⟨rfl, (finite_packBits t s 0 hp).mpr t.infinity_pos, ?_⟩
  unfold Fmt.value exactly
  rw [scaledValue_packBits t s 0 hp]
  cases s <;> simp [Fmt.units]

/-- A rounded number that the format holds, and that is not tiny, is exact. -/
theorem RoundedFrom.exact_of_fits {dst : Fmt} {env : FpEnv} {s : Bool} {m : Nat} {e : Int} {r : FpResult} {x : ℚ}
    (h : RoundedFrom dst env x r) (hm : 0 < m) (hwidth : m < 2 ^ (dst.fracBits + 1))
    (hlo : -(dst.leastExponent : Int) + dst.fracBits ≤ e) (hhi : e + dst.fracBits ≤ dst.bias)
    (hx : x = (if s then -1 else 1) * (m * (2 : ℚ) ^ e)) : ExactResult dst x r := by
  obtain ⟨y, hy, hv⟩ := exists_value s hm hwidth (by omega) hhi
  exact h.exact hy (hv.trans hx.symm) (leastNormal_le hm hlo hx)

/-- A wider format has room for a product, and for the exponent of one. -/
theorem Fmt.wider {t dst : Fmt} (h : t.fracBits < dst.fracBits) :
    2 * (t.fracBits + 1) ≤ dst.fracBits + 1 ∧ 2 * t.leastExponent + dst.fracBits ≤ dst.leastExponent ∧
      2 * t.bias + dst.fracBits ≤ dst.bias := by
  cases t <;> cases dst <;> revert h <;> decide

/-- The product in a wider format is exact (R587). -/
theorem mulNumbers_exact {t dst : Fmt} (hd : t.fracBits < dst.fracBits) {env : FpEnv} (hn : env.ns = false) {v1 v2 : FpValue}
    {s1 s2 : Bool} {x y : ℚ} (h1 : v1.Denotes t s1 x) (h2 : v2.Denotes t s2 y) :
    ExactResult dst (x * y) (mulNumbers dst env v1 v2) := by
  have hround := (mulNumbers_spec dst hn h1 h2).1
  obtain ⟨hw, hl, hb⟩ := Fmt.wider hd
  cases h1 with
  | zero =>
    rw [zero_mul]
    cases h2 <;> exact exactResult_zero _ _
  | num _ m1 e1 hm1 hw1 hlo1 hhi1 =>
    cases h2 with
    | zero =>
      rw [mul_zero]
      exact exactResult_zero _ _
    | num _ m2 e2 hm2 hw2 hlo2 hhi2 =>
      have hwidth : m1 * m2 < 2 ^ (dst.fracBits + 1) :=
        calc m1 * m2 < 2 ^ (t.fracBits + 1) * 2 ^ (t.fracBits + 1) := Nat.mul_lt_mul'' hw1 hw2
          _ = 2 ^ (2 * (t.fracBits + 1)) := by rw [← pow_add, two_mul]
          _ ≤ 2 ^ (dst.fracBits + 1) := Nat.pow_le_pow_right (by decide) hw
      exact hround.exact_of_fits (Nat.mul_pos hm1 hm2) hwidth (by omega) (by omega) (signed_mul ..)

/-- So is a number converted to one (R566). -/
theorem convertNumber_exact {t dst : Fmt} (hd : t.fracBits < dst.fracBits) {env : FpEnv} (hn : env.ns = false) {v : FpValue}
    {s : Bool} {x : ℚ} (h : v.Denotes t s x) : ExactResult dst x (convertNumber dst env v) := by
  have hround := (convertNumber_spec dst hn h).1
  obtain ⟨hw, hl, hb⟩ := Fmt.wider hd
  cases h with
  | zero => exact exactResult_zero _ _
  | num _ m e hm hwm hlo hhi =>
    exact hround.exact_of_fits hm (hwm.trans_le (Nat.pow_le_pow_right (by decide) (by omega))) (by omega) (by omega) rfl

/-- A 32-bit integer rounded (R560). -/
theorem fpFromInt_spec (t : Fmt) {env : FpEnv} (hn : env.ns = false) (w : Word) : RoundedFrom t env w.toInt (fpFromInt t env w) := by
  have hround := (roundInt_spec t env w.toInt 0 hn (x := w.toInt) (by simp)).1
  unfold fpFromInt
  split
  · next h => exact .zero (by rw [h]; simp) _
  · exact_mod_cast hround

/-- The formats with 32 significand bits hold every such integer (R561, R562). -/
theorem fpFromInt_exact {t : Fmt} (ht : 32 ≤ t.fracBits) {env : FpEnv} (hn : env.ns = false) (w : Word) :
    ExactResult t w.toInt (fpFromInt t env w) := by
  by_cases h0 : w = 0#32
  · have hz : fpFromInt t env w = exactly (packBits t false 0) := if_pos h0
    rw [hz, h0]
    simpa using exactResult_zero t false
  · have hround : RoundedFrom t env ((w.toInt : ℚ) : ℝ) (fpFromInt t env w) := by exact_mod_cast fpFromInt_spec t hn w
    have hi : w.toInt ≠ 0 := fun h => h0 (by rw [← BitVec.toInt_inj, h]; rfl)
    have hlt : w.toInt.natAbs < 2 ^ (t.fracBits + 1) := by
      have := BitVec.toInt_lt (x := w)
      have := BitVec.le_toInt (x := w)
      exact lt_of_lt_of_le (b := 2 ^ 32) (by omega) (Nat.pow_le_pow_right (by decide) (by omega))
    have hL := t.leastExponent_eq
    have hb : t.fracBits ≤ t.bias := by cases t <;> decide
    refine hround.exact_of_fits (s := decide (w.toInt < 0)) (e := 0) (Int.natAbs_pos.mpr hi) hlt (by omega) (by omega) ?_
    rcases lt_or_ge w.toInt 0 with h | h
    · rw [decide_eq_true h, if_pos rfl, ← Int.cast_natCast, Int.ofNat_natAbs_of_nonpos h.le]
      push_cast
      ring
    · rw [decide_eq_false (not_lt.mpr h), if_neg (by decide), ← Int.cast_natCast, Int.natAbs_of_nonneg h]
      simp

/-! The instructions on operands that are no NaN, outside nonstandard mode. -/

section
variable {env : FpEnv} (hn : env.ns = false)
include hn

/-- One of two operands. -/
theorem binaryOp_numbers (op : Fmt → FpEnv → FpValue → FpValue → FpResult) {src : Fmt} (dst : Fmt) {a b : Nat} {v1 v2 : FpValue}
    (ha : unpack src a = v1) (hb : unpack src b = v2) (h1 : v1.isNan = false) (h2 : v2.isNan = false) :
    binaryOp op src dst env a b = op dst env v1 v2 := by
  unfold binaryOp
  dsimp only
  rw [ha, hb, h1, h2, flushOperand_standard hn, flushOperand_standard hn, hn]
  simp [Texc.withFlush_false]

theorem fpSqrt_number {t : Fmt} {a : Nat} {v : FpValue} (ha : unpack t a = v) (h : v.isNan = false) :
    fpSqrt t env a = sqrtNumber t env v := by
  unfold fpSqrt
  dsimp only
  rw [ha, h, flushOperand_standard hn, hn]
  simp [Texc.withFlush_false]

theorem fpConvert_number {t : Fmt} (dst : Fmt) {a : Nat} {v : FpValue} (ha : unpack t a = v) (h : v.isNan = false) :
    fpConvert t dst env a = convertNumber dst env v := by
  unfold fpConvert
  dsimp only
  rw [ha, h, flushOperand_standard hn, hn]
  simp [Texc.withFlush_false]

theorem fpToInt_eq (t : Fmt) (a : Nat) : fpToInt t env a = toIntNumber (unpack t a) := by
  unfold fpToInt
  dsimp only
  rw [flushOperand_standard hn, hn]
  simp [Texc.withFlush_false]

end

/-- The root of a zero is that zero (R575). -/
theorem fpSqrt_zero {t : Fmt} {env : FpEnv} (hn : env.ns = false) {a : Nat} (ha : t.finite a) (h : t.value a = 0) :
    (fpSqrt t env a).bits = a := by
  rw [fpSqrt_number hn rfl (unpack_isNan_finite ha)]
  rcases unpack_finite ha with ⟨hu, -, hbits⟩ | ⟨m, e, hu, hm, -, -, -, hv⟩
  · rw [hu]
    exact hbits.symm
  · rw [hv] at h
    exact absurd h (signed_pos_ne_zero _ hm e)

end Sys2Proof.Machine

open Sys2Proof Sys2Proof.Machine

/-- Settles O52: each operation on what its operands denote. -/
theorem floatingPointRounding : Obligations.FloatingPointRounding := by
  unfold Obligations.FloatingPointRounding
  intro env hn
  refine ⟨fun t a b ha hb => ?_, fun w => ⟨fpFromInt_spec .single hn w, fpFromInt_exact (by decide) hn w,
    fpFromInt_exact (by decide) hn w, fun h t => ?_⟩⟩
  · have hx := unpack_denotes ha
    have hy := unpack_denotes hb
    have hadd := addNumbers_spec t hn hx hy
    have hsub := addNumbers_spec t hn hx hy.negate
    rw [← sub_eq_add_neg] at hsub
    dsimp only
    simp only [fpAdd, fpSub, fpMul, fpDiv, binaryOp_finite hn ha hb, subNumbers,
      fpConvert_number hn _ rfl (unpack_isNan_finite ha)]
    refine ⟨?_, ?_, fun h => ?_, fun h => ?_, fun h => ?_, fun z hz hzz => ⟨fun h => fpSqrt_zero hn ha h, ?_⟩,
      fun dst => ⟨?_, (mulNumbers_spec dst hn hx hy).2, (convertNumber_spec dst hn hx).1, (convertNumber_spec dst hn hx).2,
        fun hd => ⟨mulNumbers_exact hd hn hx hy, convertNumber_exact hd hn hx⟩⟩⟩
    · exact_mod_cast hadd.1
    · exact_mod_cast hsub.1
    · rw [hadd.2 h]
      split <;> rfl
    · rw [hsub.2 h]
      split <;> rfl
    · exact_mod_cast divNumbers_spec t hn hx hy h
    · rw [fpSqrt_number hn rfl (unpack_isNan_finite ha)]
      exact sqrtNumber_spec t hn hx hz hzz
    · exact_mod_cast (mulNumbers_spec dst hn hx hy).1
  · subst h
    rfl
end

section
/-! Results that are not rounded (R554, R563, R604 to R608, R611): operations on infinities and zeros, NaN operands, conversions to
integer. -/

namespace Sys2Proof.Machine

/-! Operands that are no NaN. -/

/-- A finite operand is a zero, or a number that is none, of its sign bit's sign. -/
theorem unpack_finite_cases {t : Fmt} {b : Nat} (h : t.finite b) :
    (unpack t b = .zero (b.testBit (t.width - 1)) ∧ t.value b = 0) ∨ ∃ m e, unpack t b = .num (b.testBit (t.width - 1)) m e := by
  rcases unpack_finite h with ⟨hu, hv, -⟩ | ⟨m, e, hu, -⟩
  · exact .inl ⟨hu, hv⟩
  · exact .inr ⟨m, e, hu⟩

/-- The infinity of a quotient by zero (R589). -/
theorem infBits_xor (t : Fmt) (x y : Bool) :
    infBits t (x ^^ y) = (if x = y then 0 else 2 ^ (t.width - 1)) + (2 ^ t.expBits - 1) * 2 ^ t.fracBits := by
  cases x <;> cases y <;> rfl

/-- An infinity and a finite operand (R554, R589): sums, differences and quotients are exact; so are products, but by zero. -/
theorem numbers_inf_finite (t dst : Fmt) (env : FpEnv) (x : Bool) {b : Nat} (h : t.finite b) :
    let v := unpack t b
    let y := b.testBit (t.width - 1)
    (addNumbers t env (.inf x) v = exactly (infBits t x) ∧ addNumbers t env v (.inf x) = exactly (infBits t x)) ∧
    (subNumbers t env (.inf x) v = exactly (infBits t x) ∧ subNumbers t env v (.inf x) = exactly (infBits t (!x))) ∧
    (divNumbers t env (.inf x) v = exactly (infBits t (x ^^ y)) ∧ divNumbers t env v (.inf x) = exactly (packBits t (x ^^ y) 0)) ∧
    (t.value b ≠ 0 → mulNumbers dst env (.inf x) v = exactly (infBits dst (x ^^ y)) ∧
      mulNumbers dst env v (.inf x) = exactly (infBits dst (x ^^ y))) := by
  intro v y
  rw [Bool.xor_comm x y]
  rcases unpack_finite_cases h with ⟨hv, hzero⟩ | ⟨m, e, hv⟩
  · rw [show v = .zero y from hv]
    exact ⟨⟨rfl, rfl⟩, ⟨rfl, rfl⟩, ⟨by rw [Bool.xor_comm]; rfl, rfl⟩, fun h => absurd hzero h⟩
  · rw [show v = .num y m e from hv]
    exact ⟨⟨rfl, rfl⟩, ⟨rfl, rfl⟩, ⟨by rw [Bool.xor_comm]; rfl, rfl⟩, fun _ => ⟨by rw [Bool.xor_comm]; rfl, rfl⟩⟩

/-! NaN operands (R604 to R608). -/

/-- The signaling NaNs are those with a quiet bit of 0 (R86). -/
theorem isSignaling_unpack_iff (t : Fmt) (x : Nat) :
    isSignaling t (unpack t x) = true ↔ (unpack t x).isNan = true ∧ x.testBit (t.fracBits - 1) = false := by
  by_cases h : (unpack t x).isNan = true
  · obtain ⟨hexp, hfrac⟩ := (unpack_isNan_iff t x).mp h
    have hpos := t.fracBits_pos
    have hbit : (x % 2 ^ t.fracBits).testBit (t.fracBits - 1) = x.testBit (t.fracBits - 1) := by
      rw [Nat.testBit_mod_two_pow, decide_eq_true (by omega), Bool.true_and]
    rw [unpack_nan hexp hfrac]
    simp [isSignaling, FpValue.isNan, hbit]
  · have hnot : isSignaling t (unpack t x) = false := by
      cases hu : unpack t x with
      | nan => rw [hu] at h; exact absurd rfl h
      | _ => rfl
    simp [h, hnot]

theorem isSignaling_fields_iff (t : Fmt) (x : Nat) :
    isSignaling t (unpack t x) = true ↔
      (x / 2 ^ t.fracBits % 2 ^ t.expBits = 2 ^ t.expBits - 1 ∧ x % 2 ^ t.fracBits ≠ 0) ∧ x.testBit (t.fracBits - 1) = false := by
  rw [isSignaling_unpack_iff, unpack_isNan_iff]

/-- The result on a NaN is that NaN made quiet, with invalid where it is signaling (R604, R605). -/
theorem nanResult1_unpack (src dst : Fmt) {x : Nat} (h : (unpack src x).isNan = true) :
    Quieted src dst x (nanResult1 src dst (unpack src x)).bits ∧
      (nanResult1 src dst (unpack src x)).texc = { nv := isSignaling src (unpack src x) } := by
  obtain ⟨hexp, hfrac⟩ := (unpack_isNan_iff src x).mp h
  rw [unpack_nan hexp hfrac]
  exact ⟨nanBits_quieted src dst x, rfl⟩

/-- Invalid alone raised, or nothing. -/
theorem invalid_or_nothing {x : Texc} {b : Bool} {p : Prop} (h : x = { nv := b }) (hb : b = true ↔ p) :
    (x = { nv := true } ∧ p) ∨ (x = {} ∧ ¬ p) := by
  cases b
  · exact .inr ⟨h, fun hp => Bool.noConfusion (hb.mpr hp)⟩
  · exact .inl ⟨h, hb.mp rfl⟩

/-- What a conversion or root delivers of a NaN. -/
theorem fpConvert_nan {src : Fmt} (dst : Fmt) (env : FpEnv) {a : Nat} (h : (unpack src a).isNan = true) :
    fpConvert src dst env a = nanResult1 src dst (unpack src a) := if_pos h

theorem fpSqrt_nan {t : Fmt} (env : FpEnv) {a : Nat} (h : (unpack t a).isNan = true) :
    fpSqrt t env a = nanResult1 t t (unpack t a) := if_pos h

section
variable {env : FpEnv} (hn : env.ns = false) {src : Fmt} {a b : Nat}
  (h : (unpack src a).isNan = true ∨ (unpack src b).isNan = true)
include hn h

/-- Every two-operand instruction delivers the same of a NaN (R607, R608). -/
theorem binaryOp_nan (op : Fmt → FpEnv → FpValue → FpValue → FpResult) (dst : Fmt) :
    binaryOp op src dst env a b = nanResult2 src dst (unpack src a) (unpack src b) := by
  unfold binaryOp
  dsimp only
  rw [if_pos (by simpa using h), hn]
  simp [Texc.withFlush_false]

/-- It raises invalid alone, where an operand is signaling. -/
theorem binaryOp_nan_texc (op : Fmt → FpEnv → FpValue → FpValue → FpResult) (dst : Fmt) :
    (binaryOp op src dst env a b).texc = { nv := isSignaling src (unpack src a) || isSignaling src (unpack src b) } := by
  rw [binaryOp_nan hn h]
  rfl

/-- It takes rs2's NaN, unless rs1's alone is signaling (R608). -/
theorem binaryOp_nan_second (op : Fmt → FpEnv → FpValue → FpValue → FpResult) (dst : Fmt)
    (hb : isSignaling src (unpack src b) = true ∨ (unpack src b).isNan = true ∧ ¬ isSignaling src (unpack src a) = true) :
    Quieted src dst b (binaryOp op src dst env a b).bits := by
  have hnan : (unpack src b).isNan = true := by
    rcases hb with hb | hb
    · exact ((isSignaling_unpack_iff src b).mp hb).1
    · exact hb.1
  have hbits : (binaryOp op src dst env a b).bits = (nanResult1 src dst (unpack src b)).bits := by
    rw [binaryOp_nan hn h]
    unfold nanResult2
    rcases hb with hb | ⟨-, ha⟩
    · simp only [hb, if_true]
    · simp only [ha, hnan, Bool.false_eq_true, if_false, if_true, ite_self]
  rw [hbits]
  exact (nanResult1_unpack src dst hnan).1

/-- Otherwise rs1's (R608). -/
theorem binaryOp_nan_first (op : Fmt → FpEnv → FpValue → FpValue → FpResult) (dst : Fmt)
    (ha : ¬ (unpack src b).isNan = true ∨ isSignaling src (unpack src a) = true ∧ ¬ isSignaling src (unpack src b) = true) :
    Quieted src dst a (binaryOp op src dst env a b).bits := by
  have hnan : (unpack src a).isNan = true := by
    rcases ha with hb | ha
    · exact h.resolve_right hb
    · exact ((isSignaling_unpack_iff src a).mp ha.1).1
  have hbits : (binaryOp op src dst env a b).bits = (nanResult1 src dst (unpack src a)).bits := by
    rw [binaryOp_nan hn h]
    unfold nanResult2
    rcases ha with hb | ⟨hs, hb⟩
    · have hquiet : isSignaling src (unpack src b) = false := by
        rw [← Bool.not_eq_true, isSignaling_unpack_iff]
        exact fun hs => hb hs.1
      simp only [hb, hquiet, Bool.false_eq_true, if_false, ite_self]
    · simp only [hs, hb, Bool.false_eq_true, if_false, if_true]
  rw [hbits]
  exact (nanResult1_unpack src dst hnan).1

/-- So the NaN chosen is delivered quiet, invalid alone raised for a signaling one (R607, R608). -/
theorem binaryOp_nan_spec (op : Fmt → FpEnv → FpValue → FpValue → FpResult) (dst : Fmt) :
    let r := binaryOp op src dst env a b
    let signaling (x : Nat) : Prop := isSignaling src (unpack src x) = true
    let raised : Prop := (r.texc = { nv := true } ∧ (signaling a ∨ signaling b)) ∨ (r.texc = {} ∧ ¬ (signaling a ∨ signaling b))
    (signaling b ∨ (unpack src b).isNan = true ∧ ¬ signaling a → Quieted src dst b r.bits ∧ raised) ∧
    (¬ (unpack src b).isNan = true ∨ signaling a ∧ ¬ signaling b → Quieted src dst a r.bits ∧ raised) := by
  intro r signaling raised
  have hraised : raised := invalid_or_nothing (binaryOp_nan_texc hn h op dst) Bool.or_eq_true_iff
  exact ⟨fun hb => ⟨binaryOp_nan_second hn h op dst hb, hraised⟩, fun ha => ⟨binaryOp_nan_first hn h op dst ha, hraised⟩⟩

end

/-! Conversions to integer (R563, R611). -/

/-- The integer part of a magnitude m * 2^e, as `toIntNumber` computes it. -/
def truncated (m : Nat) (e : Int) : Nat := if 0 ≤ e then m * 2 ^ e.toNat else m / 2 ^ (-e).toNat

/-- Whether that leaves something out. -/
def truncationInexact (m : Nat) (e : Int) : Bool := !(decide (0 ≤ e)) && m % 2 ^ (-e).toNat != 0

theorem toIntNumber_num (s : Bool) (m : Nat) (e : Int) :
    toIntNumber (.num s m e) =
      if (if s then 2 ^ 31 + 1 else 2 ^ 31) ≤ truncated m e then intOverflow s
      else ⟨if s then (2 ^ 32 - truncated m e) % 2 ^ 32 else truncated m e, { nx := truncationInexact m e }⟩ := rfl

/-- The integer part is the floor, exact where the magnitude is an integer. -/
theorem truncated_spec (m : Nat) (e : Int) :
    ⌊(m : ℚ) * 2 ^ e⌋ = truncated m e ∧ (truncationInexact m e = true ↔ (m : ℚ) * 2 ^ e ≠ truncated m e) := by
  unfold truncated truncationInexact
  by_cases he : 0 ≤ e
  · obtain ⟨k, rfl⟩ := Int.eq_ofNat_of_zero_le he
    have hx : (m : ℚ) * 2 ^ (k : Int) = (m * 2 ^ k : Nat) := by
      rw [zpow_natCast]
      push_cast
      rfl
    rw [if_pos he, Int.toNat_natCast, hx]
    exact ⟨Int.floor_natCast _, by simp⟩
  · obtain ⟨k, hk⟩ : ∃ k : Nat, e = -k := ⟨(-e).toNat, by omega⟩
    obtain ⟨hlo, hhi, hs⟩ := natDiv_bounds (K := ℚ) m (Nat.two_pow_pos k)
    have hx : (m : ℚ) * 2 ^ e = m / (2 ^ k : Nat) := by
      rw [hk, zpow_neg, zpow_natCast]
      push_cast
      rfl
    have hkN : (-e).toNat = k := by omega
    rw [if_neg he, decide_eq_false he, hkN, hx]
    exact ⟨Int.floor_eq_iff.mpr ⟨by exact_mod_cast hlo, by exact_mod_cast hhi⟩, by rw [← hs]; rfl⟩

/-- A number in range is truncated, one out of it is not converted (R611). -/
theorem toIntNumber_spec (s : Bool) {m : Nat} (hm : 0 < m) (e : Int) {x : ℚ} (hx : x = (if s then -1 else 1) * (m * (2 : ℚ) ^ e)) :
    (-2147483649 < x ∧ x < 2147483648 →
      toIntNumber (.num s m e) =
        ⟨(BitVec.ofInt 32 (if 0 ≤ x then ⌊x⌋ else ⌈x⌉)).toNat, { nx := decide (((if 0 ≤ x then ⌊x⌋ else ⌈x⌉ : Int) : ℚ) ≠ x) }⟩) ∧
    (¬ (-2147483649 < x ∧ x < 2147483648) → toIntNumber (.num s m e) = intOverflow s) := by
  obtain ⟨hfloor, hinexact⟩ := truncated_spec m e
  have hpos : (0 : ℚ) < m * 2 ^ e := by positivity
  rw [toIntNumber_num]
  generalize truncated m e = M at *
  generalize (m : ℚ) * 2 ^ e = X at *
  have hreach (k : Nat) : k ≤ M ↔ (k : ℚ) ≤ X := by
    have := Int.le_floor (a := X) (z := k)
    rw [hfloor] at this
    exact_mod_cast this
  cases s with
  | false =>
    obtain rfl : x = X := by simpa using hx
    have hin : (-2147483649 < x ∧ x < 2147483648) ↔ ¬ 2 ^ 31 ≤ M := by
      rw [hreach, not_le]
      constructor
      · intro h; push_cast; linarith [h.2]
      · intro h; push_cast at h; constructor <;> linarith
    rw [hin, if_pos hpos.le, hfloor]
    refine ⟨fun h => ?_, fun h => if_pos (not_not.mp h)⟩
    have hbits : (BitVec.ofInt 32 M).toNat = M := by
      rw [BitVec.ofInt_natCast, BitVec.toNat_ofNat]
      omega
    have hnx : truncationInexact m e = decide (((M : Int) : ℚ) ≠ x) := by
      rw [Bool.eq_iff_iff, hinexact, decide_eq_true_iff, ne_comm]
      rfl
    rw [if_neg (by simpa using h), hbits, hnx]
    rfl
  | true =>
    obtain rfl : x = -X := by simpa using hx
    have hin : (-2147483649 < -X ∧ -X < 2147483648) ↔ ¬ 2 ^ 31 + 1 ≤ M := by
      rw [hreach, not_le]
      constructor
      · intro h; push_cast; linarith [h.1]
      · intro h; push_cast at h; constructor <;> linarith
    rw [hin, if_neg (show ¬ 0 ≤ -X by linarith), Int.ceil_neg, hfloor]
    refine ⟨fun h => ?_, fun h => if_pos (not_not.mp h)⟩
    have hbits : (BitVec.ofInt 32 (-M)).toNat = (2 ^ 32 - M) % 2 ^ 32 := by
      rw [BitVec.toNat_ofInt]
      omega
    have hnx : truncationInexact m e = decide (((-M : Int) : ℚ) ≠ -X) := by
      rw [Bool.eq_iff_iff, hinexact, decide_eq_true_iff, ne_comm]
      push_cast
      rw [ne_eq, ne_eq, neg_inj]
    rw [if_neg (by simpa using h), hbits, hnx]
    rfl

/-- A bit pattern that is not finite is a NaN or an infinity, which is not converted (R611). -/
theorem toIntNumber_not_finite {t : Fmt} {a : Nat} (hw : a < 2 ^ t.width) (h : ¬ t.finite a) :
    toIntNumber (unpack t a) = intOverflow (a.testBit (t.width - 1)) := by
  have hmax : a / 2 ^ t.fracBits % 2 ^ t.expBits = t.expMax := not_not.mp fun hne => h ⟨hw, hne⟩
  rw [unpack_eq, if_pos hmax]
  split <;> rfl

/-- What a conversion to integer delivers (R563, R611). -/
theorem fpToInt_spec (t : Fmt) {env : FpEnv} (hn : env.ns = false) {a : Nat} (hw : a < 2 ^ t.width) :
    let x := t.value a
    let n : Int := if 0 ≤ x then ⌊x⌋ else ⌈x⌉
    (t.finite a ∧ -2147483649 < x ∧ x < 2147483648 →
      fpToInt t env a = ⟨(BitVec.ofInt 32 n).toNat, { nx := decide ((n : ℚ) ≠ x) }⟩) ∧
    (¬ (t.finite a ∧ -2147483649 < x ∧ x < 2147483648) → fpToInt t env a = intOverflow (a.testBit (t.width - 1))) := by
  rw [fpToInt_eq hn]
  by_cases hf : t.finite a
  · simp only [hf, true_and]
    rcases unpack_finite hf with ⟨hu, hv, -⟩ | ⟨m, e, hu, hm, -, -, -, hv⟩
    · rw [hu, hv]
      refine ⟨fun _ => ?_, fun h => absurd (by norm_num) h⟩
      simp [toIntNumber, exactly]
    · rw [hu]
      exact toIntNumber_spec _ hm e hv
  · exact ⟨fun h => absurd h.1 hf, fun _ => toIntNumber_not_finite hw hf⟩

end Sys2Proof.Machine

open Sys2Proof Sys2Proof.Machine

/-- Settles O53: the arms of each operation for infinities and zeros, the choice of a NaN, and the truncation. -/
theorem floatingPointSpecialResults : Obligations.FloatingPointSpecialResults := by
  unfold Obligations.FloatingPointSpecialResults
  refine ⟨fun t env a b hn => ⟨fun x y ha hb => ?_, fun x y ha hb => ?_, fun m e ha => ?_, fun x m e y ha hb => ?_⟩,
    fun t dst env a b hn x ha => ⟨?_, ?_, fun y hb => ⟨?_, ?_⟩, fun y hb => ⟨?_, ?_, ?_⟩, fun hf => ?_⟩,
    fun src dst env a b hn => ⟨fun ha => ⟨?_, ?_⟩, fun h => ?_⟩, fun t env a hn hw => fpToInt_spec t hn hw⟩
  · exact binaryOp_numbers hn divNumbers t ha hb rfl rfl
  · exact binaryOp_numbers hn divNumbers t ha hb rfl rfl
  · exact fpSqrt_number hn ha rfl
  · rw [← infBits_xor]
    exact binaryOp_numbers hn divNumbers t ha hb rfl rfl
  · rw [fpSqrt_number hn ha rfl]
    cases x <;> rfl
  · exact fpConvert_number hn dst ha rfl
  · exact binaryOp_numbers hn mulNumbers dst ha hb rfl rfl
  · exact binaryOp_numbers hn mulNumbers dst hb ha rfl rfl
  · exact binaryOp_numbers hn addNumbers t ha hb rfl rfl
  · refine (binaryOp_numbers hn subNumbers t ha hb rfl rfl).trans ?_
    cases x <;> cases y <;> rfl
  · exact binaryOp_numbers hn mulNumbers dst ha hb rfl rfl
  · obtain ⟨⟨hadd, hadd'⟩, ⟨hsub, hsub'⟩, ⟨hdiv, hdiv'⟩, hmul⟩ := numbers_inf_finite t dst env x hf
    have hb := unpack_isNan_finite hf
    exact ⟨(binaryOp_numbers hn _ t ha rfl rfl hb).trans hadd, (binaryOp_numbers hn _ t rfl ha hb rfl).trans hadd',
      (binaryOp_numbers hn _ t ha rfl rfl hb).trans hsub, (binaryOp_numbers hn _ t rfl ha hb rfl).trans hsub',
      (binaryOp_numbers hn _ t ha rfl rfl hb).trans hdiv, (binaryOp_numbers hn _ t rfl ha hb rfl).trans hdiv',
      fun hne => ⟨(binaryOp_numbers hn _ dst ha rfl rfl hb).trans (hmul hne).1,
        (binaryOp_numbers hn _ dst rfl ha hb rfl).trans (hmul hne).2⟩⟩
  · obtain ⟨hquieted, htexc⟩ := nanResult1_unpack src dst ((unpack_isNan_iff src a).mpr ha)
    rw [fpConvert_nan dst env ((unpack_isNan_iff src a).mpr ha)]
    exact ⟨hquieted, invalid_or_nothing htexc (isSignaling_fields_iff src a)⟩
  · obtain ⟨hquieted, htexc⟩ := nanResult1_unpack src src ((unpack_isNan_iff src a).mpr ha)
    rw [fpSqrt_nan env ((unpack_isNan_iff src a).mpr ha)]
    exact ⟨hquieted, invalid_or_nothing htexc (isSignaling_fields_iff src a)⟩
  · simp only [← unpack_isNan_iff] at h
    simp only [← unpack_isNan_iff, ← isSignaling_unpack_iff]
    exact ⟨binaryOp_nan_spec hn h addNumbers src, binaryOp_nan_spec hn h subNumbers src, binaryOp_nan_spec hn h divNumbers src,
      binaryOp_nan_spec hn h mulNumbers dst⟩
end

section
/-! Misaligned addresses (R124, R322, R323, R325, R484): the alignment check of each access comes before the access. -/

namespace Sys2Proof.Machine

/-- i = 0 in supervisor mode: an alternate-space instruction does what its access does (R322). -/
theorem exec_alternate {i : Instr} {s t : State} {asi : BitVec 8} {rs2 : RegNum} {k : BitVec 8 → RegNum → State}
    (hx : exec i s = .next (s.alternate (.reg asi rs2) k)) (hs : s.psr.s = true) (h : k asi rs2 = t) : exec i s = .next t := by
  rw [hx, State.alternate_reg hs, h]

theorem traps_alternate {i : Instr} {s : State} {asi : BitVec 8} {rs2 : RegNum} {k : BitVec 8 → RegNum → State} {e : Trap}
    (hx : exec i s = .next (s.alternate (.reg asi rs2) k)) (hs : s.psr.s = true) (h : k asi rs2 = raise e s) : Traps i s e :=
  exec_alternate hx hs h

theorem not_aligned_half {a : Word} (h : a.toNat % 2 ≠ 0) : ¬ AccessSize.half.aligned a = true :=
  mt (AccessSize.aligned_half_iff a).mp h

theorem not_aligned_word {a : Word} (h : a.toNat % 4 ≠ 0) : ¬ AccessSize.word.aligned a = true :=
  mt (AccessSize.aligned_word_iff a).mp h

theorem not_aligned_double {a : Word} (h : a.toNat % 8 ≠ 0) : ¬ AccessSize.double.aligned a = true :=
  mt (AccessSize.aligned_double_iff a).mp h

section
variable {s : State} {a : Word}

theorem loadReg_misaligned {size : AccessSize} (h : ¬ size.aligned a = true) (signed : Bool) (rd : RegNum) (asi : BitVec 8) :
    loadReg size signed rd asi a s = raise .memAddressNotAligned s :=
  State.ifAligned_misaligned h

theorem storeReg_misaligned {size : AccessSize} (h : ¬ size.aligned a = true) (rd : RegNum) (asi : BitVec 8) :
    storeReg size rd asi a s = raise .memAddressNotAligned s :=
  State.ifAligned_misaligned h

theorem swapWord_misaligned (h : ¬ AccessSize.word.aligned a = true) (rd : RegNum) (asi : BitVec 8) :
    swapWord rd asi a s = raise .memAddressNotAligned s :=
  State.ifAligned_misaligned h

/-- LDD and LDDA look at rd before the address (R323, R331). -/
theorem loadRegDouble_misaligned {rd : RegNum} (hodd : s.oddRdTraps rd = false) (h : ¬ AccessSize.double.aligned a = true)
    (asi : BitVec 8) : loadRegDouble rd asi a s = raise .memAddressNotAligned s := by
  unfold loadRegDouble
  rw [hodd, State.ifAligned_misaligned h]
  rfl

/-- So do STD and STDA (R325, R331). -/
theorem storeRegDouble_misaligned {rd : RegNum} (hodd : s.oddRdTraps rd = false) (h : ¬ AccessSize.double.aligned a = true)
    (asi : BitVec 8) : storeRegDouble rd asi a s = raise .memAddressNotAligned s := by
  unfold storeRegDouble
  rw [hodd, State.ifAligned_misaligned h]
  rfl

/-- An enabled FPU's load looks at the address before the FPU's state (R323). -/
theorem fpLoad_misaligned {size : AccessSize} (he : s.fpEnabled = true) (h : ¬ size.aligned a = true) (bad : Bool)
    (k : State → State) : fpLoad size bad a k s = raise .memAddressNotAligned s := by
  unfold fpLoad
  rw [if_pos he, State.ifAligned_misaligned h]

/-- So does its store (R325). -/
theorem fpStore_misaligned {size : AccessSize} (he : s.fpEnabled = true) (h : ¬ size.aligned a = true) (bad : Bool)
    (k : State → State) : fpStore size bad a k s = raise .memAddressNotAligned s := by
  unfold fpStore
  rw [if_pos he, State.ifAligned_misaligned h]

/-- An enabled coprocessor's load looks at the address before the coprocessor's state (R323). -/
theorem cpLoad_misaligned {size : AccessSize} (he : s.cpEnabled = true) (h : ¬ size.aligned a = true) (k : State → State) :
    cpLoad size a k s = raise .memAddressNotAligned s := by
  unfold cpLoad
  rw [if_pos he, State.ifAligned_misaligned h]

/-- So does its store (R325). -/
theorem cpStore_misaligned {size : AccessSize} (he : s.cpEnabled = true) (h : ¬ size.aligned a = true) (k : State → State) :
    cpStore size a k s = raise .memAddressNotAligned s := by
  unfold cpStore
  rw [if_pos he, State.ifAligned_misaligned h]

/-- STDFQ in supervisor mode (R365). -/
theorem storeDfq_misaligned (hs : s.psr.s = true) (he : s.fpEnabled = true) (h : ¬ AccessSize.double.aligned a = true) :
    storeDfq a s = raise .memAddressNotAligned s := by
  unfold storeDfq
  rw [if_pos hs, fpStore_misaligned he h]

/-- STDCQ in supervisor mode (R369). -/
theorem storeDcq_misaligned (hs : s.psr.s = true) (he : s.cpEnabled = true) (h : ¬ AccessSize.double.aligned a = true) :
    storeDcq a s = raise .memAddressNotAligned s := by
  unfold storeDcq
  rw [if_pos hs, cpStore_misaligned he h]

/-- JMPL's target is a word address, or nothing is written (R484). -/
theorem jumpLink_misaligned {rs1 : RegNum} {op2 : Operand2} (h : ¬ AccessSize.word.aligned (s.address rs1 op2) = true) (rd : RegNum) :
    jumpLink rd rs1 op2 s = raise .memAddressNotAligned s :=
  State.ifAligned_misaligned h

end

end Sys2Proof.Machine

open Sys2Proof Sys2Proof.Machine

/-- Settles O20: the checks before the alignment check are passed by hypothesis, and a misaligned address ends the instruction there. -/
theorem misalignedAddressesTrap : Obligations.MisalignedAddressesTrap := by
  unfold Obligations.MisalignedAddressesTrap
  intro s rd rs1 rs2 op2 asi
  refine ⟨fun hs => ⟨fun h2 => ?_, fun h4 => ?_, fun h8 hodd => ?_, fun h8 => ?_⟩, fun h2 => ?_, fun h4 => ?_, fun h8 => ?_⟩
  · have h := not_aligned_half h2
    exact ⟨traps_alternate rfl hs (loadReg_misaligned h ..), traps_alternate rfl hs (loadReg_misaligned h ..),
      traps_alternate rfl hs (storeReg_misaligned h ..)⟩
  · have h := not_aligned_word h4
    exact ⟨traps_alternate rfl hs (loadReg_misaligned h ..), traps_alternate rfl hs (storeReg_misaligned h ..),
      traps_alternate rfl hs (swapWord_misaligned h ..)⟩
  · have h := not_aligned_double h8
    have hrd := State.oddRdTraps_false hodd
    exact ⟨traps_alternate rfl hs (loadRegDouble_misaligned hrd h _), traps_alternate rfl hs (storeRegDouble_misaligned hrd h _)⟩
  · have h := not_aligned_double h8
    exact ⟨fun he => congrArg Host.Outcome.next (storeDfq_misaligned hs he h),
      fun he => congrArg Host.Outcome.next (storeDcq_misaligned hs he h)⟩
  · have h := not_aligned_half h2
    exact ⟨congrArg Host.Outcome.next (loadReg_misaligned h ..), congrArg Host.Outcome.next (loadReg_misaligned h ..),
      congrArg Host.Outcome.next (storeReg_misaligned h ..)⟩
  · have h := not_aligned_word h4
    refine ⟨congrArg Host.Outcome.next (loadReg_misaligned h ..), congrArg Host.Outcome.next (storeReg_misaligned h ..),
      congrArg Host.Outcome.next (swapWord_misaligned h ..), congrArg Host.Outcome.next (jumpLink_misaligned h rd), fun he => ?_,
      fun he => ?_⟩
    · exact ⟨congrArg Host.Outcome.next (fpLoad_misaligned he h ..), congrArg Host.Outcome.next (fpStore_misaligned he h ..),
        congrArg Host.Outcome.next (fpLoad_misaligned he h ..), congrArg Host.Outcome.next (fpStore_misaligned he h ..)⟩
    · exact ⟨congrArg Host.Outcome.next (cpLoad_misaligned he h _), congrArg Host.Outcome.next (cpStore_misaligned he h _),
        congrArg Host.Outcome.next (cpLoad_misaligned he h _), congrArg Host.Outcome.next (cpStore_misaligned he h _)⟩
  · have h := not_aligned_double h8
    refine ⟨fun hodd => ?_, fun he => ?_, fun he => ?_⟩
    · have hrd := State.oddRdTraps_false hodd
      exact ⟨congrArg Host.Outcome.next (loadRegDouble_misaligned hrd h _),
        congrArg Host.Outcome.next (storeRegDouble_misaligned hrd h _)⟩
    · exact ⟨congrArg Host.Outcome.next (fpLoad_misaligned he h ..), congrArg Host.Outcome.next (fpStore_misaligned he h ..)⟩
    · exact ⟨congrArg Host.Outcome.next (cpLoad_misaligned he h _), congrArg Host.Outcome.next (cpStore_misaligned he h _)⟩
end

section
/-! Doubleword loads of the integer unit, and what an odd rd does to a doubleword access (R329, R331, R337, R343). -/

namespace Sys2Proof.Machine

/-! An odd rd where that traps (R331). -/

theorem State.oddRdTraps_true {s : State} {rd : RegNum} (hc : s.cfg.lddOddRdTraps = true) (hrd : rd.getLsbD 0 = true) :
    s.oddRdTraps rd = true := by
  unfold State.oddRdTraps
  rw [hc, hrd]
  rfl

theorem loadRegDouble_odd {s : State} {rd : RegNum} (h : s.oddRdTraps rd = true) (asi : BitVec 8) (a : Word) :
    loadRegDouble rd asi a s = raise .illegalInstruction s :=
  if_pos h

theorem storeRegDouble_odd {s : State} {rd : RegNum} (h : s.oddRdTraps rd = true) (asi : BitVec 8) (a : Word) :
    storeRegDouble rd asi a s = raise .illegalInstruction s :=
  if_pos h

/-! Doubleword loads. -/

/-- Both reads answering, LDD delivers the first word before the second is read (R329, R337). -/
theorem loadRegDouble_ok {s u v : State} {rd : RegNum} {asi : BitVec 8} {a w0 w1 : Word} (hodd : s.oddRdTraps rd = false)
    (ha : AccessSize.double.aligned a = true) (h0 : s.memoryRead asi false false a = (u, .ok w0))
    (h1 : (u.setReg (evenReg rd) w0).memoryRead asi false false (a + 4#32) = (v, .ok w1)) :
    loadRegDouble rd asi a s = (v.setReg (oddReg rd) w1).advance := by
  unfold loadRegDouble State.readingDouble
  rw [hodd, State.ifAligned_aligned ha, State.reading_ok (sz := .double) h0, State.reading_ok (sz := .double) h1]
  rfl

/-- What a data read that answers may change. -/
theorem State.memoryRead_changes {s u : State} {asi : BitVec 8} {fetch isWord : Bool} {a w : Word}
    (h : s.memoryRead asi fetch isWord a = (u, .ok w)) :
    u = { s with mem := u.mem, mmu := u.mmu, ibuf := u.ibuf, io := u.io, freeCtr := u.freeCtr } := by
  have hf := State.memoryRead_frame s asi fetch isWord a
  rwa [h] at hf

/-- The odd half of a pair is never r[0] (R331). -/
theorem oddReg_ne_zero (n : RegNum) : oddReg n ≠ 0#5 := by
  intro h
  have := congrArg (fun x : RegNum => x.getLsbD 0) h
  simp [oddReg] at this

/-- The two reads of a doubleword load, the first delivered before the second is made, and what they may change (R128, R329). -/
theorem State.memoryRead_twice_changes {s u v : State} {asi : BitVec 8} {fetch isWord : Bool} {a a' w0 w1 : Word} {n : RegNum}
    (h0 : s.memoryRead asi fetch isWord a = (u, .ok w0)) (h1 : (u.setReg n w0).memoryRead asi fetch isWord a' = (v, .ok w1)) :
    v = { s with globals := v.globals, windows := v.windows, mem := v.mem, mmu := v.mmu, ibuf := v.ibuf, io := v.io,
                 freeCtr := v.freeCtr } := by
  have hv := State.memoryRead_changes h1
  rw [State.setReg_eq, State.memoryRead_changes h0] at hv
  rw [hv]

/-- Two registers written one after the other, each in a state with the registers of the one before: both hold their values, and every
register that is neither keeps its own. -/
theorem WritesReg.pair {s u u' v t : State} {w : BitVec 5} {n n' : RegNum} {x y : Word} (hne : n ≠ n') (hc : u.cfg = s.cfg)
    (hc' : v.cfg = s.cfg) (hsu : KeepsRegs s u) (h : WritesReg u u' w n x) (huv : KeepsRegs u' v) (h' : WritesReg v t w n' y) :
    t.regIn w n = (if n = 0#5 then 0#32 else x) ∧ t.regIn w n' = (if n' = 0#5 then 0#32 else y) ∧
    ∀ w' m, ¬ sameRegister s.cfg w' m w n → ¬ sameRegister s.cfg w' m w n' → t.regIn w' m = s.regIn w' m := by
  refine ⟨(h'.reg_ne hne).trans ((huv w n).trans h.written), h'.written, fun w' m hm hm' => ?_⟩
  calc t.regIn w' m = v.regIn w' m := h'.others w' m (hc' ▸ hm')
    _ = u'.regIn w' m := huv w' m
    _ = u.regIn w' m := h.others w' m (hc ▸ hm)
    _ = s.regIn w' m := hsu w' m

/-- A read that answers changes no r register. -/
theorem State.memoryRead_keepsRegs {s u : State} {asi : BitVec 8} {fetch isWord : Bool} {a w : Word}
    (h : s.memoryRead asi fetch isWord a = (u, .ok w)) : KeepsRegs s u := by
  have hu := State.memoryRead_changes h
  exact KeepsRegs.of_eq (by rw [hu]) (by rw [hu]) (by rw [hu])

/-- An instruction that is a doubleword load, both reads answering (R329, R337). -/
theorem completes_loadRegDouble {i : Instr} {s u v : State} {rd : RegNum} {asi : BitVec 8} {a w0 w1 : Word}
    (hx : exec i s = .next (loadRegDouble rd asi a s)) (hodd : s.oddRdTraps rd = false) (ha : a.toNat % 8 = 0)
    (h0 : s.memoryRead asi false false a = (u, .ok w0))
    (h1 : (u.setReg (evenReg rd) w0).memoryRead asi false false (a + 4#32) = (v, .ok w1)) :
    Completes i s fun t =>
      t.reg (evenReg rd) = (if evenReg rd = 0#5 then 0#32 else w0) ∧ t.reg (oddReg rd) = w1 ∧
      (∀ w n, ¬ sameRegister s.cfg w n s.psr.cwp (evenReg rd) → ¬ sameRegister s.cfg w n s.psr.cwp (oddReg rd) →
        t.regIn w n = s.regIn w n) ∧
      t = { v with globals := t.globals, windows := t.windows, pc := s.npc, npc := s.npc + 4#32 } ∧
      v = { s with globals := v.globals, windows := v.windows, mem := v.mem, mmu := v.mmu, ibuf := v.ibuf, io := v.io,
                   freeCtr := v.freeCtr } := by
  have hu := State.memoryRead_changes h0
  have hv := State.memoryRead_twice_changes h0 h1
  have hcu : u.cfg = s.cfg := by rw [hu]
  have hpu : u.psr = s.psr := by rw [hu]
  have hcv : v.cfg = s.cfg := by rw [hv]
  have hpv : v.psr = s.psr := by rw [hv]
  have hnv : v.npc = s.npc := by rw [hv]
  have hend := loadRegDouble_ok hodd ((AccessSize.aligned_double_iff a).mpr ha) h0 h1
  refine ⟨_, hx.trans (congrArg Host.Outcome.next hend), ?_⟩
  have hfirst := writesReg_setReg u (evenReg rd) w0
  obtain ⟨hsecond, ⟨hstate, -⟩, hpc, hnpc⟩ := delivered v (oddReg rd) w1
  generalize (v.setReg (oddReg rd) w1).advance = t at hsecond hstate hpc hnpc ⊢
  have hreg (n : RegNum) : t.reg n = t.regIn s.psr.cwp n := by rw [State.reg, hstate, hpv]
  rw [hpu] at hfirst
  rw [hpv] at hsecond
  obtain ⟨heven, hodd', hothers⟩ := WritesReg.pair (evenReg_ne_oddReg rd) hcu hcv (State.memoryRead_keepsRegs h0) hfirst
    (State.memoryRead_keepsRegs h1) hsecond
  rw [if_neg (oddReg_ne_zero rd)] at hodd'
  rw [hpc, hnpc, hnv] at hstate
  exact ⟨(hreg _).trans heven, (hreg _).trans hodd', hothers, hstate, hv⟩

end Sys2Proof.Machine

open Sys2Proof Sys2Proof.Machine

/-- Settles O31: LDDA in supervisor mode is LDD at its own address, and LDD is its two reads, each delivered to its register. -/
theorem doubleLoads : Obligations.DoubleLoads := by
  unfold Obligations.DoubleLoads
  refine ⟨fun s u v rd rs1 rs2 op2 asi w0 w1 hrd => ?_, fun s rd rs1 rs2 op2 asi hc hrd => ?_⟩
  · have hodd := State.oddRdTraps_false hrd
    refine ⟨fun ha h0 h1 => completes_loadRegDouble rfl hodd ha h0 h1, fun hs ha h0 h1 => ?_⟩
    exact completes_loadRegDouble (exec_alternate rfl hs rfl) hodd ha h0 h1
  · have hodd := State.oddRdTraps_true hc hrd
    exact ⟨congrArg Host.Outcome.next (loadRegDouble_odd hodd ..), fun hs => traps_alternate rfl hs (loadRegDouble_odd hodd ..)⟩
end

section
/-! The integer stores (R325, R327, R350 to R357): each is a store of the bytes of its width, or of two words. -/

namespace Sys2Proof.Machine

section
variable {i : Instr} {s : State} {rd : RegNum} {asi : BitVec 8} {a : Word}

/-- A store of the low byte of r[rd] (R350). -/
theorem storesAt_byte (hx : exec i s = .next (storeReg .byte rd asi a s)) : StoresAt i s asi a [(s.reg rd).extractLsb' 0 8] :=
  storesAt_storeReg hx rfl (fun _ k x hm => Memory.read_store_byte hm k a _ x) fun k => deviceStore_byte s asi k a _

/-- A store of the low halfword of r[rd] (R351). -/
theorem storesAt_half (hx : exec i s = .next (storeReg .half rd asi a s)) (ha : a.toNat % 2 = 0) :
    StoresAt i s asi a [(s.reg rd).extractLsb' 8 8, (s.reg rd).extractLsb' 0 8] :=
  storesAt_storeReg hx ((AccessSize.aligned_half_iff a).mpr ha) (fun _ k x hm => Memory.read_store_half hm k a _ ha x)
    fun k => deviceStore_half s asi k a _ ha

/-- A store of r[rd] (R352). -/
theorem storesAt_word (hx : exec i s = .next (storeReg .word rd asi a s)) (ha : a.toNat % 4 = 0) :
    StoresAt i s asi a (bytesOfWord (s.reg rd)) := by
  refine storesAt_storeReg hx ((AccessSize.aligned_word_iff a).mpr ha) (fun m k x hm => ?_) fun k => deviceStore_word s asi k a _ ha
  rw [ha]
  exact Memory.read_store_word hm k _ x

/-- A store of the pair of r[rd], where rd is allowed (R331, R353). -/
theorem storesPairAt_storeRegDouble (hx : exec i s = .next (storeRegDouble rd asi a s)) (hodd : s.oddRdTraps rd = false)
    (ha : a.toNat % 8 = 0) : StoresPairAt i s asi a (s.reg (evenReg rd)) (s.reg (oddReg rd)) id := by
  have hstore : storeRegDouble rd asi a s = s.writingDouble asi a (s.reg (evenReg rd)) (s.reg (oddReg rd)) State.advance := by
    unfold storeRegDouble
    rw [hodd, State.ifAligned_aligned ((AccessSize.aligned_double_iff a).mpr ha)]
    rfl
  exact storesPairAt_writingDouble (hx.trans (congrArg Host.Outcome.next hstore)) s.advance_eq_finish (fun _ _ _ _ => rfl)
    (fun _ => rfl) fun _ => rfl

end

end Sys2Proof.Machine

open Sys2Proof Sys2Proof.Machine

/-- Settles O32: each store is `storeReg` of its width, an alternate-space one in supervisor mode that at its own address. -/
theorem integerStores : Obligations.IntegerStores := by
  unfold Obligations.IntegerStores
  intro s rd rs1 rs2 op2 asi
  refine ⟨storesAt_byte rfl, fun ha => storesAt_half rfl ha, fun ha => storesAt_word rfl ha, fun hs => ?_⟩
  exact ⟨storesAt_byte (exec_alternate rfl hs rfl), fun hb => storesAt_half (exec_alternate rfl hs rfl) hb,
    fun hb => storesAt_word (exec_alternate rfl hs rfl) hb⟩

/-- Settles O33: STD and STDA are two word writes; an odd rd that traps is seen first. -/
theorem doubleStores : Obligations.DoubleStores := by
  unfold Obligations.DoubleStores
  intro s rd rs1 rs2 op2 asi
  refine ⟨fun hrd => ?_, fun hc hrd => ?_⟩
  · have hodd := State.oddRdTraps_false hrd
    refine ⟨fun ha => storesPairAt_storeRegDouble rfl hodd ha, fun hs hb => ?_⟩
    exact storesPairAt_storeRegDouble (exec_alternate rfl hs rfl) hodd hb
  · have hodd := State.oddRdTraps_true hc hrd
    exact ⟨congrArg Host.Outcome.next (storeRegDouble_odd hodd ..), fun hs => traps_alternate rfl hs (storeRegDouble_odd hodd ..)⟩
end

section
/-! The atomic load-stores (R360 to R363): their accesses do not see the block signals, which are released again. -/

namespace Sys2Proof.Machine

/-! The accesses made while a block signal is asserted. -/

/-- An access sees nothing of a block signal. -/
theorem State.SameAccess.block {block : State → Bool → State} (hb : IsBlock block) (s : State) (b : Bool) :
    State.SameAccess s (block s b) := by
  rcases hb with rfl | rfl <;> exact ⟨rfl, rfl, rfl, rfl, rfl⟩

/-- memory_read with a block signal asserted (R360, R362). -/
theorem State.memoryRead_block {block : State → Bool → State} (hb : IsBlock block) (s : State) (b : Bool) (asi : BitVec 8)
    (fetch isWord : Bool) (a : Word) :
    (block s b).memoryRead asi fetch isWord a = (block (s.memoryRead asi fetch isWord a).1 b, (s.memoryRead asi fetch isWord a).2) := by
  have hf := State.memoryRead_frame s asi fetch isWord a
  have hio : (block s b).io = s.io := by rcases hb with rfl | rfl <;> rfl
  rw [State.memoryRead_congr (State.SameAccess.block hb s b) hio]
  generalize s.memoryRead asi fetch isWord a = r at hf ⊢
  rw [hf]
  rcases hb with rfl | rfl <;> rfl

/-- Where a write goes does not depend on a block signal. -/
theorem State.reach_block {block : State → Bool → State} (hb : IsBlock block) (s : State) (b : Bool) (asi : BitVec 8)
    (fetch store : Bool) (a : Word) :
    (block s b).reach asi fetch store a = (block (s.reach asi fetch store a).1 b, (s.reach asi fetch store a).2) := by
  have hf := State.reach_frame s asi fetch store a
  rw [State.reach_congr (State.SameAccess.block hb s b)]
  generalize s.reach asi fetch store a = r at hf ⊢
  rw [hf]
  rcases hb with rfl | rfl <;> rfl

/-- Asserted and released again, a block signal is as it was between instructions (R360, R362). -/
theorem IsBlock.release {block : State → Bool → State} (hb : IsBlock block) {x : State} (hbyte : x.pbBlockByte = false)
    (hword : x.pbBlockWord = false) : block (block x true) false = x := by
  rcases hb with rfl | rfl
  · show { x with pbBlockByte := false } = x
    rw [← hbyte]
  · show { x with pbBlockWord := false } = x
    rw [← hword]

/-- The write part at a key, the block signal asserted. -/
theorem State.memoryWrite_key_block {block : State → Bool → State} (hb : IsBlock block) {u v : State} {asi : BitVec 8} {a : Word}
    {k : Nat} (hm : ¬ u.mmuSpace asi) (hr : u.reach asi false true a = (v, .key k)) (b isWord : Bool) (mask : BitVec 4) (data : Word) :
    (block u b).memoryWrite asi isWord a mask data = (block (u.wroteKey v k mask data) b, none) := by
  have hrb := State.reach_block hb u b asi false true a
  rw [hr] at hrb
  have hmb : ¬ (block u b).mmuSpace asi := by rcases hb with rfl | rfl <;> exact hm
  rw [State.memoryWrite_key hmb hrb]
  rcases hb with rfl | rfl <;> rfl

/-- The write part at a device interface, the block signal asserted. -/
theorem State.memoryWrite_device_block {block : State → Bool → State} (hb : IsBlock block) {u v : State} {asi : BitVec 8} {a : Word}
    {k : Nat} (hm : ¬ u.mmuSpace asi) (hr : u.reach asi false true a = (v, .device k)) (b isWord : Bool) (mask : BitVec 4)
    (data : Word) :
    (block u b).memoryWrite asi isWord a mask data =
      (block { storeSignals u v v.ibuf v.mem with io := v.io ++ [u.deviceWrite asi k a mask data] } b, none) := by
  have hrb := State.reach_block hb u b asi false true a
  rw [hr] at hrb
  have hmb : ¬ (block u b).mmuSpace asi := by rcases hb with rfl | rfl <;> exact hm
  rw [State.memoryWrite_device hmb hrb]
  rcases hb with rfl | rfl <;> rfl

/-! The exchange. -/

/-- Both parts answering, the word read goes to r[rd] after the write, the block signal released (R360, R362, U40). -/
theorem atomicAccess_ok {block : State → Bool → State} (hb : IsBlock block) {size : AccessSize} {rd : RegNum} {asi : BitVec 8}
    {a new w : Word} {s u x : State} (hread : s.memoryRead asi false (size == .word) a = (u, .ok w))
    (hwrite : (block u true).memoryWrite asi (size == .word) a (storeMask size a) (storeData size a new) = (block x true, none))
    (hbyte : x.pbBlockByte = false) (hword : x.pbBlockWord = false) :
    atomicAccess block size rd asi a new s = (x.setReg rd (loadValue size false w a)).advance := by
  have hr := State.memoryRead_block hb s true asi false (size == .word) a
  rw [hread] at hr
  unfold atomicAccess
  rw [hr]
  dsimp only
  rw [hwrite]
  dsimp only
  rw [hb.release hbyte hword]

/-- Where the read part of an access has been and the write part then goes, only what translation and a device's answer change differs. -/
theorem State.reach_after_memoryRead {s u v : State} {asi : BitVec 8} {isWord : Bool} {a w : Word} {r : Reach}
    (hread : s.memoryRead asi false isWord a = (u, .ok w)) (hr : u.reach asi false true a = (v, r)) :
    v = { s with mem := v.mem, mmu := v.mmu, ibuf := v.ibuf, io := v.io, freeCtr := v.freeCtr } := by
  have hu := State.memoryRead_changes hread
  have hf := State.reach_frame u asi false true a
  rw [hr] at hf
  dsimp only at hf
  unfold State.withAccess at hf
  rw [hu] at hf
  rw [hf]

theorem State.wf_after_memoryRead {s u v : State} {asi : BitVec 8} {isWord : Bool} {a w : Word} {r : Reach}
    (hwf : Memory.wf s.mem = true) (hread : s.memoryRead asi false isWord a = (u, .ok w))
    (hr : u.reach asi false true a = (v, r)) : Memory.wf v.mem = true := by
  have hu := State.memoryRead_wf hwf asi false isWord a
  rw [hread] at hu
  have hv := State.reach_wf hu asi false true a
  rwa [hr] at hv

/-- A store leaves what it may change and nothing else changed, whatever translation and a device's answer changed before it. -/
theorem State.Written.storeSignals {s v : State}
    (hv : v = { s with mem := v.mem, mmu := v.mmu, ibuf := v.ibuf, io := v.io, freeCtr := v.freeCtr }) (u : State)
    (ibuf : List IBufEvent) (mem : Memory) (io : List IoAccess) :
    State.Written s { Machine.storeSignals u v ibuf mem with io := io } := by
  unfold State.Written Machine.storeSignals
  rw [hv]

/-- Delivering a value to r[rd] and advancing, after a write (R14, R43). -/
theorem State.Written.delivered {s x : State} (h : State.Written s x) (rd : RegNum) (y : Word) :
    WritesReg s (x.setReg rd y).advance s.psr.cwp rd y ∧
    (x.setReg rd y).advance =
      { x with globals := (x.setReg rd y).advance.globals, windows := (x.setReg rd y).advance.windows
               pc := s.npc, npc := s.npc + 4#32 } := by
  unfold State.Written at h
  have hcfg : x.cfg = s.cfg := by rw [h]
  have hpsr : x.psr = s.psr := by rw [h]
  have hnpc : x.npc = s.npc := by rw [h]
  have hkeeps : KeepsRegs s x := KeepsRegs.of_eq hcfg (by rw [h]) (by rw [h])
  obtain ⟨⟨hwritten, hothers⟩, ⟨hstate, -⟩, hpc, hnpc'⟩ := Machine.delivered x rd y
  rw [hpsr] at hwritten hothers
  rw [hpc, hnpc', hnpc] at hstate
  exact ⟨⟨hwritten, fun w n hn => (hothers w n (hcfg ▸ hn)).trans (hkeeps w n)⟩, hstate⟩

/-- An instruction that is an atomic access, both parts answering: from the state `x` its write part leaves, the word read is delivered. -/
theorem completes_atomicAccess {i : Instr} {block : State → Bool → State} (hb : IsBlock block) {s u x : State} {rd : RegNum}
    {asi : BitVec 8} {a new w : Word} {size : AccessSize} (hx : exec i s = .next (atomicAccess block size rd asi a new s))
    (hbyte : s.pbBlockByte = false) (hword : s.pbBlockWord = false)
    (hread : s.memoryRead asi false (size == .word) a = (u, .ok w)) (hwritten : State.Written s x)
    (hwrite : (block u true).memoryWrite asi (size == .word) a (storeMask size a) (storeData size a new) = (block x true, none)) :
    Completes i s fun t =>
      WritesReg s t s.psr.cwp rd (loadValue size false w a) ∧
      t = { x with globals := t.globals, windows := t.windows, pc := s.npc, npc := s.npc + 4#32 } := by
  have hbyte' : x.pbBlockByte = false := by
    unfold State.Written at hwritten
    rw [hwritten, hbyte]
  have hword' : x.pbBlockWord = false := by
    unfold State.Written at hwritten
    rw [hwritten, hword]
  exact ⟨_, hx.trans (congrArg Host.Outcome.next (atomicAccess_ok hb hread hwrite hbyte' hword')), hwritten.delivered rd _⟩

/-- An atomic access of `size` exchanges `bytes`, where they are what its write part stores, for the datum its read part loads. -/
theorem exchanges_atomicAccess {i : Instr} {block : State → Bool → State} (hb : IsBlock block) {s : State} {rd : RegNum}
    {asi : BitVec 8} {a new : Word} {size : AccessSize} {bytes : List Byte}
    (hx : exec i s = .next (atomicAccess block size rd asi a new s)) (hbyte : s.pbBlockByte = false) (hword : s.pbBlockWord = false)
    (hstore : ∀ m k x, Memory.wf m = true →
      Memory.read (Memory.writeMasked m k (storeMask size a) (storeData size a new)) x =
        storedByte (k + a.toNat % 4) bytes x (Memory.read m x))
    (hdevice : ∀ (u : State) (k : Nat), DeviceStore (u.deviceWrite asi k a (storeMask size a) (storeData size a new)) u asi k a bytes) :
    Exchanges i s rd asi (size == .word) a bytes (fun w => loadValue size false w a) := by
  intro u v w k hm hread
  have hcfg : u.cfg = s.cfg := by rw [State.memoryRead_changes hread]
  have hmu : ¬ u.mmuSpace asi := by
    unfold State.mmuSpace
    rwa [hcfg]
  constructor
  · intro hr hwf
    have hv := State.reach_after_memoryRead hread hr
    have hwfv := State.wf_after_memoryRead hwf hread hr
    have hwritten : State.Written s (u.wroteKey v k (storeMask size a) (storeData size a new)) :=
      State.Written.storeSignals hv u _ _ v.io
    obtain ⟨t, ht, hreg, hstate⟩ :=
      completes_atomicAccess hb hx hbyte hword hread hwritten (State.memoryWrite_key_block hb hmu hr ..)
    have hibuf : t.ibuf = if s.cfg.hasIbuf then v.ibuf ++ [.store k (Memory.readWord v.mem k)] else v.ibuf := by
      rw [hstate, ← hcfg]
      rfl
    have hmem : t.mem = Memory.writeMasked v.mem k (storeMask size a) (storeData size a new) := by
      rw [hstate]
      rfl
    refine ⟨t, ht, ?_, hv, hibuf, hreg, fun x => ?_⟩
    · rw [hibuf, hmem, ← hcfg]
      exact hstate
    · rw [hmem]
      exact hstore _ k x hwfv
  · intro hr
    have hv := State.reach_after_memoryRead hread hr
    obtain ⟨t, ht, hreg, hstate⟩ := completes_atomicAccess hb hx hbyte hword hread
      (State.Written.storeSignals hv u v.ibuf v.mem _) (State.memoryWrite_device_block hb hmu hr ..)
    exact ⟨t, ht, hv, hreg, _, hdevice u k, hstate⟩

section
variable {i : Instr} {s : State} {rd : RegNum} {asi : BitVec 8} {a : Word} (hbyte : s.pbBlockByte = false)
  (hword : s.pbBlockWord = false)
include hbyte hword

/-- LDSTUB's access: the old byte goes to r[rd], 0xFF to memory (R360). -/
theorem exchanges_loadStoreByte (hx : exec i s = .next (loadStoreByte rd asi a s)) :
    Exchanges i s rd asi false a [0xFF#8] fun w => (w.extractLsb' (24 - 8 * (a.toNat % 4)) 8).zeroExtend 32 := by
  have hold : (fun w : Word => (w.extractLsb' (24 - 8 * (a.toNat % 4)) 8).zeroExtend 32) = fun w => loadValue .byte false w a :=
    funext fun w => congrArg (BitVec.zeroExtend 32) (byteLane_eq w a).symm
  rw [hold]
  exact exchanges_atomicAccess (.inl rfl) hx hbyte hword (fun _ k x hm => Memory.read_store_byte hm k a _ x)
    fun u k => deviceStore_byte u asi k a _

/-- SWAP's access: the old word goes to r[rd], the word of r[rd] to memory (R362). -/
theorem exchanges_swapWord (hx : exec i s = .next (swapWord rd asi a s)) (ha : a.toNat % 4 = 0) :
    Exchanges i s rd asi true a (bytesOfWord (s.reg rd)) id := by
  have hx' : exec i s = .next (atomicAccess State.blockWord .word rd asi a (s.reg rd) s) :=
    hx.trans (congrArg Host.Outcome.next (State.ifAligned_aligned ((AccessSize.aligned_word_iff a).mpr ha)))
  refine exchanges_atomicAccess (.inr rfl) hx' hbyte hword (fun m k x hm => ?_) fun u k => deviceStore_word u asi k a _ ha
  rw [ha]
  exact Memory.read_store_word hm k _ x

end

end Sys2Proof.Machine

open Sys2Proof Sys2Proof.Machine

/-- Settles O34: LDSTUB and SWAP are one atomic access each, of a byte and of a word; the alternate-space forms in supervisor mode
are those at their own address. -/
theorem atomicLoadStores : Obligations.AtomicLoadStores := by
  unfold Obligations.AtomicLoadStores
  intro s rd rs1 rs2 op2 asi hbyte hword
  refine ⟨exchanges_loadStoreByte hbyte hword rfl, fun ha => exchanges_swapWord hbyte hword rfl ha, fun hs => ⟨?_, fun hb => ?_⟩⟩
  · exact exchanges_loadStoreByte hbyte hword (exec_alternate rfl hs rfl)
  · exact exchanges_swapWord hbyte hword (exec_alternate rfl hs rfl) hb
end

section
/-! The MMU's permission table (R209, R210, R214). -/

open Sys2Proof Sys2Proof.Machine

/-- Settles O56: the 64 entries of the permission table, each checked against the rights its ACC grants. -/
theorem permissionTableGrants : Obligations.PermissionTableGrants := by
  unfold Obligations.PermissionTableGrants
  decide
end

section
/-! The table walk and the probes (R204, R205, R207, R212, R240, R244, R245): what a walk does with each type of entry, and that `Descends`
names the entries it comes to. -/

namespace Sys2Proof.Machine

/-! The fields of entries and addresses as numbers. -/

/-- ET is the remainder of an entry by 4 (R208). -/
theorem entryType_eq_iff (e : Word) (t : BitVec 2) : entryType e = t ↔ e.toNat % 4 = t.toNat := by
  rw [← BitVec.toNat_inj, entryType, BitVec.extractLsb'_toNat]
  rfl

theorem entryType_eq_ptd (e : Word) : entryType e = 1#2 ↔ e.toNat % 4 = 1 := entryType_eq_iff e 1#2

theorem entryType_eq_pte (e : Word) : entryType e = 2#2 ↔ e.toNat % 4 = 2 := entryType_eq_iff e 2#2

/-- PTP ++ 000000 (R207). -/
theorem tableBase_eq (e : Word) : tableBase e = e.toNat / 4 * 64 := by
  have h : (e.extractLsb' 2 30).toNat = e.toNat / 4 := by
    rw [BitVec.extractLsb'_toNat, Nat.shiftRight_eq_div_pow]
    omega
  rw [tableBase, BitVec.toNat_append, h, Nat.shiftLeft_eq]
  exact Nat.or_zero _

/-- The root pointer is the context table's entry of the current context (R205). -/
theorem State.rootAddress_eq (s : State) : s.rootAddress = (s.mmu.ctp.toNat * 64 + s.mmu.ctx.toNat * 4) % 2 ^ 36 := by
  have h : (s.mmu.ctp ++ 0#6 : BitVec 36).toNat = s.mmu.ctp.toNat * 64 := by
    rw [BitVec.toNat_append, Nat.shiftLeft_eq]
    exact Nat.or_zero _
  rw [State.rootAddress, h]

/-- The indexes are address bits 31:24, 23:18 and 17:12 (R204). -/
theorem tableIndexes_eq (va : Word) : tableIndexes va = [va.toNat / 2 ^ 24, va.toNat / 2 ^ 18 % 64, va.toNat / 2 ^ 12 % 64] := by
  have h : va.toNat / 2 ^ 24 % 2 ^ 8 = va.toNat / 2 ^ 24 := by omega
  simp only [tableIndexes, BitVec.extractLsb'_toNat, Nat.shiftRight_eq_div_pow, h]

/-- The index of a level is the first of those still to be used there. -/
theorem tableIndexes_drop {va : Word} {level index : Nat}
    (h : (level, index) ∈ [(0, va.toNat / 2 ^ 24), (1, va.toNat / 2 ^ 18 % 64), (2, va.toNat / 2 ^ 12 % 64)]) :
    level < 3 ∧ (tableIndexes va).drop level = index :: (tableIndexes va).drop (level + 1) := by
  rw [tableIndexes_eq]
  simp only [List.mem_cons, Prod.mk.injEq, List.not_mem_nil, or_false] at h
  obtain ⟨rfl, rfl⟩ | ⟨rfl, rfl⟩ | ⟨rfl, rfl⟩ := h <;> exact ⟨by decide, rfl⟩

/-- A walk at level 3 has no index left. -/
theorem tableIndexes_drop_eq_nil {va : Word} {level : Nat} (h : level = 3) : (tableIndexes va).drop level = [] := by
  rw [h]
  rfl

/-! The walk, by the entry it comes to. -/

section
variable {s : State} {address level : Nat} {e : Word}

theorem State.tableWord_none (h : s.busOutcome false address ≠ .ok) : s.tableWord address = none := if_neg h

theorem State.tableWord_some (h : s.busOutcome false address = .ok) : s.tableWord address = some (Memory.readWord s.mem address) :=
  if_pos h

theorem State.eq_readWord_of_tableWord (h : s.tableWord address = some e) : e = Memory.readWord s.mem address := by
  by_cases hb : s.busOutcome false address = .ok
  · rw [State.tableWord_some hb] at h
    exact (Option.some.inj h).symm
  · rw [State.tableWord_none hb] at h
    cases h

theorem State.walk_of_none (h : s.tableWord address = none) (is : List Nat) : s.walk address level is = .busError level := by
  cases is <;> simp only [State.walk, h]

variable (h : s.tableWord address = some e)
include h

theorem State.walk_of_pte (he : entryType e = 2#2) (is : List Nat) : s.walk address level is = .pte address e level := by
  cases is <;> simp only [State.walk, h, he, if_true]

theorem State.walk_of_ptd (he : entryType e = 1#2) (i : Nat) (rest : List Nat) :
    s.walk address level (i :: rest) = s.walk ((tableBase e + i * 4) % 2 ^ 36) (level + 1) rest := by
  have hne : entryType e ≠ 2#2 := by rw [he]; decide
  rw [State.walk, h]
  exact (if_neg hne).trans (if_pos he)

/-- No PTE, and no PTD that a level below follows. -/
theorem State.walk_of_stopped {is : List Nat} (he : entryType e ≠ 2#2) (hp : entryType e ≠ 1#2 ∨ is = []) :
    s.walk address level is = .stopped e level := by
  cases is with
  | nil =>
    rw [State.walk, h]
    exact if_neg he
  | cons i rest =>
    have hne : entryType e ≠ 1#2 := hp.resolve_right (List.cons_ne_nil i rest)
    rw [State.walk, h]
    exact (if_neg he).trans (if_neg hne)

end

/-- A walk that ends in a PTE has read it, at a level for which it had the indexes. -/
theorem State.walk_eq_pte {s : State} {is : List Nat} {start level address l : Nat} {e : Word}
    (h : s.walk start level is = .pte address e l) : s.tableWord address = some e ∧ l ≤ level + is.length := by
  induction is generalizing start level with
  | nil =>
    rw [State.walk] at h
    split at h
    · cases h
    · split at h
      · cases h
        exact ⟨‹_›, Nat.le_refl _⟩
      · cases h
  | cons i rest ih =>
    rw [State.walk] at h
    split at h
    · cases h
    · split at h
      · cases h
        exact ⟨‹_›, Nat.le_add_right ..⟩
      · split at h
        · obtain ⟨hw, hl⟩ := ih h
          exact ⟨hw, by rw [List.length_cons]; omega⟩
        · cases h

/-! The probes of types 0 to 3, by the entry they come to. -/

section
variable {s : State} {address level down : Nat} {e : Word}

theorem State.probeDown_of_none (h : s.tableWord address = none) (is : List Nat) :
    s.probeDown address level down is = .busError level := by
  cases is <;> simp only [State.probeDown, h]

variable (h : s.tableWord address = some e)
include h

theorem State.probeDown_zero (is : List Nat) : s.probeDown address level 0 is = .value (probeEntry e level) := by
  cases is <;> simp only [State.probeDown, h, if_true]

variable (hd : down ≠ 0) (i : Nat) (rest : List Nat)
include hd

theorem State.probeDown_of_ptd (he : entryType e = 1#2) :
    s.probeDown address level down (i :: rest) = s.probeDown ((tableBase e + i * 4) % 2 ^ 36) (level + 1) (down - 1) rest := by
  rw [State.probeDown, h]
  exact (if_neg hd).trans (if_pos he)

theorem State.probeDown_of_stopped (he : entryType e ≠ 1#2) : s.probeDown address level down (i :: rest) = .stopped e level := by
  rw [State.probeDown, h]
  exact (if_neg hd).trans (if_neg he)

end

/-! Walk and probes come to the entries that `Descends` names. -/

section
variable {s : State} {va : Word} {level address : Nat}

theorem State.Descends.level_le (h : s.Descends va level address) : level ≤ 3 := by
  cases h with
  | root => exact Nat.zero_le 3
  | next level address index h hb he hi => exact (tableIndexes_drop hi).1

theorem State.Descends.walk_eq (h : s.Descends va level address) :
    s.walk s.rootAddress 0 (tableIndexes va) = s.walk address level ((tableIndexes va).drop level) := by
  induction h with
  | root => rw [State.rootAddress_eq, List.drop_zero]
  | next level address index h hb he hi ih =>
    rw [ih, (tableIndexes_drop hi).2, State.walk_of_ptd (State.tableWord_some hb) ((entryType_eq_ptd _).mpr he), tableBase_eq]

theorem State.Descends.probeDown_eq (h : s.Descends va level address) {target : Nat} (ht : level ≤ target) :
    s.probeDown s.rootAddress 0 target (tableIndexes va) =
      s.probeDown address level (target - level) ((tableIndexes va).drop level) := by
  induction h with
  | root => rw [State.rootAddress_eq, List.drop_zero, Nat.sub_zero]
  | next level address index h hb he hi ih =>
    rw [ih (Nat.le_of_succ_le ht), (tableIndexes_drop hi).2,
      State.probeDown_of_ptd (State.tableWord_some hb) (Nat.sub_ne_zero_of_lt ht) _ _ ((entryType_eq_ptd _).mpr he), tableBase_eq,
      Nat.sub_sub]

end

/-! The probes by their type (R240, R245). -/

/-- The type of a probe is in address bits 11:8 (R240). -/
theorem probeType_toNat (va : Word) : (va.extractLsb' 8 4).toNat = va.toNat / 256 % 16 := by
  rw [BitVec.extractLsb'_toNat, Nat.shiftRight_eq_div_pow]

theorem probeType_eq {va : Word} {n : Nat} (h : va.toNat / 256 % 16 = n) : va.extractLsb' 8 4 = BitVec.ofNat 4 n := by
  rw [← h, ← probeType_toNat, BitVec.ofNat_toNat, BitVec.setWidth_eq]

theorem State.probeWalk_level {s : State} {va : Word} (h : va.toNat / 256 % 16 < 4) :
    s.probeWalk va = s.probeDown s.rootAddress 0 (3 - va.toNat / 256 % 16) (tableIndexes va) := by
  unfold State.probeWalk
  generalize hn : va.toNat / 256 % 16 = n at h ⊢
  rw [probeType_eq hn]
  interval_cases n <;> rfl

/-- What a probe of type 4 finds where the walk of a translation ends so (R245). -/
def Walk.probe : Walk → Probe
  | .pte _ e _ => .value e
  | .stopped e level => .stopped e level
  | .busError level => .busError level

theorem State.probeWalk_entire {s : State} {va : Word} (h : va.toNat / 256 % 16 = 4) :
    s.probeWalk va = (s.walk s.rootAddress 0 (tableIndexes va)).probe := by
  unfold State.probeWalk
  rw [probeType_eq h]
  rfl

theorem State.probeWalk_other {s : State} {va : Word} (h : 4 < va.toNat / 256 % 16) : s.probeWalk va = .value 0#32 := by
  unfold State.probeWalk
  generalize hn : va.toNat / 256 % 16 = n at h
  rw [probeType_eq hn]
  have hlt : n < 16 := by omega
  interval_cases n <;> rfl

section
variable {s : State} {va : Word} {level address : Nat}

/-- A table word that the memory map does not accept, on the way of a probe. -/
theorem State.Descends.probeWalk_busError (h : s.Descends va level address) (hb : s.busOutcome false address ≠ .ok)
    (ht : va.toNat / 256 % 16 = 4 ∨ va.toNat / 256 % 16 < 4 ∧ level ≤ 3 - va.toNat / 256 % 16) : s.probeWalk va = .busError level := by
  obtain ht | ⟨ht, hl⟩ := ht
  · rw [State.probeWalk_entire ht, h.walk_eq, State.walk_of_none (State.tableWord_none hb)]
    rfl
  · rw [State.probeWalk_level ht, h.probeDown_eq hl, State.probeDown_of_none (State.tableWord_none hb)]

/-- An entry that is no PTD, above the level of a probe. -/
theorem State.Descends.probeWalk_above (h : s.Descends va level address) (hb : s.busOutcome false address = .ok)
    (he : entryType (Memory.readWord s.mem address) ≠ 1#2) (ht : va.toNat / 256 % 16 < 4) (hl : level < 3 - va.toNat / 256 % 16) :
    s.probeWalk va = .stopped (Memory.readWord s.mem address) level := by
  have hd : (tableIndexes va).drop level ≠ [] := by
    rw [Ne, List.drop_eq_nil_iff, tableIndexes_eq]
    exact Nat.not_le.mpr (Nat.lt_of_lt_of_le hl (Nat.sub_le ..))
  obtain ⟨i, rest, hi⟩ := List.exists_cons_of_ne_nil hd
  rw [State.probeWalk_level ht, h.probeDown_eq hl.le, hi,
    State.probeDown_of_stopped (State.tableWord_some hb) (Nat.sub_ne_zero_of_lt hl) _ _ he]

/-- The entry at the level of a probe. -/
theorem State.Descends.probeWalk_target (h : s.Descends va level address) (hb : s.busOutcome false address = .ok)
    (ht : va.toNat / 256 % 16 < 4) (hl : level = 3 - va.toNat / 256 % 16) :
    s.probeWalk va = .value (probeEntry (Memory.readWord s.mem address) level) := by
  rw [State.probeWalk_level ht, h.probeDown_eq hl.le, ← hl, Nat.sub_self, State.probeDown_zero (State.tableWord_some hb)]

end

/-! What a load of ASI 3 answers, by what its probe finds (R244). -/

/-- A load of ASI 3 at `s`, of whatever kind and width, answers `w` and leaves `u`. -/
def State.Probes (s : State) (va : Word) (u : State) (w : Word) : Prop :=
  ∀ fetch isWord, s.memoryRead 0x03#8 fetch isWord va = (u, .ok w)

/-- A load of ASI 3 at `s` answers 0 and records a fault of class `c`, of which `p` holds. -/
def State.ProbeFails (s : State) (va : Word) (c : FaultClass) (level : Nat) (p : FaultInfo → Prop) : Prop :=
  ∃ i, s.Probes va { s with mmu := s.mmu.record c i, freeCtr := s.freeCtr + 1 } 0#32 ∧ i.l = BitVec.ofNat 2 level ∧ i.va = va ∧ p i

section
variable {s : State} {va : Word} (hm : s.cfg.hasRefMmu = true)
include hm

theorem State.probes_mmuProbe : s.Probes va (s.mmuProbe va).1 (s.mmuProbe va).2 := by
  intro fetch isWord
  unfold State.memoryRead
  rw [hm]
  rfl

theorem State.probes_value {w : Word} (h : s.probeWalk va = .value w) : s.Probes va s w := by
  have hp : s.mmuProbe va = (s, w) := by rw [State.mmuProbe, h]
  have hr := State.probes_mmuProbe (va := va) hm
  rwa [hp] at hr

theorem State.probeFails_stopped {e : Word} {level : Nat} (h : s.probeWalk va = .stopped e level) :
    s.ProbeFails va .data level fun i => i.ft = s.probeFt e := by
  refine ⟨⟨0#8, BitVec.ofNat 2 level, Config.freeFaultAt s.freeCtr, s.probeFt e, va⟩, ?_, rfl, rfl, rfl⟩
  have hr := State.probes_mmuProbe (va := va) hm
  rwa [State.mmuProbe, h] at hr

theorem State.probeFails_busError {level : Nat} (h : s.probeWalk va = .busError level) :
    s.ProbeFails va .translation level fun i => i.ft = 4#3 := by
  refine ⟨⟨s.busErrorBits, BitVec.ofNat 2 level, Config.freeFaultAt s.freeCtr, 4#3, va⟩, ?_, rfl, rfl, rfl⟩
  have hr := State.probes_mmuProbe (va := va) hm
  rwa [State.mmuProbe, h] at hr

end

theorem State.ProbeFails.imp {s : State} {va : Word} {c : FaultClass} {level : Nat} {p q : FaultInfo → Prop}
    (h : s.ProbeFails va c level p) (hpq : ∀ i, p i → q i) : s.ProbeFails va c level q := by
  obtain ⟨i, hr, hl, hva, hp⟩ := h
  exact ⟨i, hr, hl, hva, hpq i hp⟩

/-- FT of an entry that ends a translation: 1 for an invalid one, 4 for the others (R212, R237). -/
theorem stoppedFt_eq (e : Word) : stoppedFt e = if e.toNat % 4 = 0 then 1#3 else 4#3 := by
  unfold stoppedFt
  rw [if_congr (entryType_eq_iff e 0#2) rfl rfl]
  rfl

theorem State.probeFt_eq {s : State} {e : Word} (h : entryType e ≠ 2#2) :
    s.probeFt e = if e.toNat % 4 = 0 then 1#3 else 4#3 := by
  rw [State.probeFt, if_neg h, stoppedFt_eq]

/-- A probe of an entry's own level answers a reserved entry, and a PTD at level 3, with 0 (R245). -/
theorem probeEntry_eq (e : Word) (level : Nat) :
    probeEntry e level = if e.toNat % 4 = 3 ∨ level = 3 ∧ e.toNat % 4 = 1 then 0#32 else e := by
  unfold probeEntry
  refine if_congr ?_ rfl rfl
  rw [Bool.or_eq_true, Bool.and_eq_true, decide_eq_true_iff, decide_eq_true_iff, decide_eq_true_iff, entryType_eq_iff, entryType_eq_iff]
  rfl

end Sys2Proof.Machine

open Sys2Proof Sys2Proof.Machine

/-- Settles O59: at each entry that `Descends` names, what the walk and the probes of each type do with it. -/
theorem mmuTableWalkAndProbes : Obligations.MmuTableWalkAndProbes := by
  unfold Obligations.MmuTableWalkAndProbes
  intro s va hm
  refine ⟨fun level address h => ⟨fun hb => ⟨?_, fun ht => ?_⟩, fun hb => ?_⟩, fun ht => ?_⟩
  · rw [h.walk_eq, State.walk_of_none (State.tableWord_none hb)]
  · exact State.probeFails_busError hm (h.probeWalk_busError hb ht)
  · have hw := State.tableWord_some hb
    refine ⟨fun he => ?_, fun he => ?_, fun ht hl => ?_⟩
    · have hpte := (entryType_eq_pte _).mpr he
      have hwalk := h.walk_eq.trans (State.walk_of_pte hw hpte _)
      refine ⟨hwalk, fun ht => State.probes_value hm ?_, fun ht hl => ?_⟩
      · rw [State.probeWalk_entire ht, hwalk]
        rfl
      · have hne : entryType (Memory.readWord s.mem address) ≠ 1#2 := by rw [hpte]; decide
        exact (State.probeFails_stopped hm (h.probeWalk_above hb hne ht hl)).imp fun _ _ => trivial
    · have hne : entryType (Memory.readWord s.mem address) ≠ 2#2 := by
        rw [Ne, entryType_eq_pte]
        omega
      have hptd : entryType (Memory.readWord s.mem address) ≠ 1#2 ∨ level = 3 := by
        rw [Ne, entryType_eq_ptd]
        omega
      have hwalk := h.walk_eq.trans (State.walk_of_stopped hw hne (hptd.imp_right tableIndexes_drop_eq_nil))
      have hfails (hp : s.probeWalk va = .stopped (Memory.readWord s.mem address) level) :=
        (State.probeFails_stopped hm hp).imp fun _ hft => hft.trans (State.probeFt_eq hne)
      refine ⟨hwalk, ?_⟩
      rintro (ht | ⟨ht, hl⟩)
      · refine hfails ?_
        rw [State.probeWalk_entire ht, hwalk]
        rfl
      · exact hfails (h.probeWalk_above hb (hptd.resolve_right (by omega)) ht hl)
    · have hp := State.probes_value hm (h.probeWalk_target hb ht hl)
      rwa [probeEntry_eq] at hp
  · exact State.probes_value hm (State.probeWalk_other ht)
end

section
/-! Translated accesses (R209 to R218, R233, R237 to R239): what a fault records, how it ends the access, and where an access goes that its
page grants. -/

namespace Sys2Proof.Machine

/-! What is recorded (R238, R239). -/

/-- A fault does not displace one of a class of higher rank. -/
def FaultClass.rank : FaultClass → Nat
  | .instruction => 0
  | .data => 1
  | .translation => 2

theorem Mmu.record_outranked {m : Mmu} {c held : FaultClass} (hh : m.cls = some held) (h : c.rank < held.rank) (i : FaultInfo) :
    m.record c i = m := by
  unfold Mmu.record
  rw [hh]
  cases held with
  | instruction => exact absurd h (Nat.not_lt_zero _)
  | data =>
    cases c with
    | instruction => rfl
    | data | translation => exact absurd h (by decide)
  | translation =>
    cases c with
    | instruction | data => rfl
    | translation => exact absurd h (by decide)

theorem Mmu.record_latched {m : Mmu} {c : FaultClass} (h : ∀ held, m.cls = some held → held.rank ≤ c.rank) (i : FaultInfo) :
    m.record c i =
      { m with ebe := i.ebe, l := i.l, accType := i.accType, ft := i.ft, far := i.va, fav := true,
               ow := decide (m.cls = some c), cls := some c } := by
  unfold Mmu.record
  cases hh : m.cls with
  | none => rfl
  | some held =>
    have hle := h held hh
    cases held with
    | instruction => cases c <;> rfl
    | data =>
      cases c with
      | instruction => exact absurd hle (by decide)
      | data | translation => rfl
    | translation =>
      cases c with
      | instruction | data => exact absurd hle (by decide)
      | translation => rfl

/-! How a fault ends the access (R218, R233). -/

/-- The place of an access that an MMU fault of type `ft` ends. -/
def State.faultReach (s : State) (asi : BitVec 8) (ft : BitVec 3) : Reach :=
  if s.mmu.nf = true ∧ asi ≠ 0x09#8 then .suppressed else if ft = 5#3 then .failed .accessError else .failed .mae

/-- FT 6, an access error too (R237), is none that the model records. -/
theorem State.mmuFault_eq {s : State} {asi : BitVec 8} {c : FaultClass} {i : FaultInfo} (h : i.ft ≠ 6#3) :
    s.mmuFault asi c i = ({ s with mmu := s.mmu.record c i }, s.faultReach asi i.ft) := by
  unfold State.mmuFault State.faultReach
  refine congrArg _ (if_congr ?_ rfl (if_congr ?_ rfl rfl))
  · rw [Bool.and_eq_true, bne_iff_ne]
  · rw [Bool.or_eq_true, decide_eq_true_iff, decide_eq_true_iff, or_iff_left h]

theorem State.mmuBusFault_eq {s : State} {asi : BitVec 8} {c : FaultClass} {i : FaultInfo} (h : i.ft ≠ 6#3) :
    s.mmuBusFault asi c i =
      ({ s with mmu := s.mmu.record c { i with ebe := s.busErrorBits }, freeCtr := s.freeCtr + 1 }, s.faultReach asi i.ft) :=
  State.mmuFault_eq (s := s.drawn) (i := { i with ebe := s.busErrorBits }) h

/-- The EBE bits of a bus error are among those an implementation has (R237). -/
theorem State.busErrorBits_masked (s : State) : s.busErrorBits &&& s.cfg.mmuEbeBits = s.busErrorBits := by
  rw [State.busErrorBits, BitVec.and_assoc, BitVec.and_self]

theorem permissionFault_ne_six : ∀ accType acc : BitVec 3, permissionFault accType acc ≠ 6#3 := by decide

theorem stoppedFt_ne_six (e : Word) : stoppedFt e ≠ 6#3 := by
  unfold stoppedFt
  split <;> decide

/-! The class and type of an access (R237, R238), and the physical address (R211). -/

theorem faultClass_eq (asi : BitVec 8) (fetch : Bool) :
    faultClass asi fetch = if fetch = true ∧ (asi = 0x08#8 ∨ asi = 0x09#8) then .instruction else .data := by
  unfold faultClass
  refine if_congr ?_ rfl rfl
  rw [Bool.and_eq_true, Bool.or_eq_true, beq_iff_eq, beq_iff_eq]

theorem accessType_eq {asi : BitVec 8} (h : asi ∈ [0x08#8, 0x09#8, 0x0A#8, 0x0B#8]) (store : Bool) :
    accessType asi store = BitVec.ofNat 3 ((if store then 4 else 0) + (if asi = 0x08#8 ∨ asi = 0x09#8 then 2 else 0) +
      (if asi = 0x09#8 ∨ asi = 0x0B#8 then 1 else 0)) := by
  revert store asi
  decide

theorem regionBits_eq (level : Nat) :
    regionBits level = if level = 0 then 32 else if level = 1 then 24 else if level = 2 then 18 else 12 := by
  match level with
  | 0 | 1 | 2 => rfl
  | n + 3 => rfl

/-- PPN ++ 000 or the untranslated bits of the word's address (R211). -/
theorem translated_wordAddress (e va : Word) (level : Nat) :
    translated e (wordAddress va) level =
      (e.toNat / 256 * 4096) ||| ((va.toNat - va.toNat % 4) %
        2 ^ (if level = 0 then 32 else if level = 1 then 24 else if level = 2 then 18 else 12)) := by
  have hppn : (e.extractLsb' 8 24).toNat = e.toNat / 256 := by
    rw [BitVec.extractLsb'_toNat, Nat.shiftRight_eq_div_pow]
    omega
  have hpage : (e.extractLsb' 8 24 ++ 0#12 : BitVec 36).toNat = e.toNat / 256 * 4096 := by
    rw [BitVec.toNat_append, hppn, Nat.shiftLeft_eq]
    exact Nat.or_zero _
  rw [translated, hpage, regionBits_eq, wordAddress_toNat]

/-- An R or M bit that is not yet set has to be (R215). -/
theorem referencedEntry_ne {e : Word} {store : Bool} (h : e.getLsbD 5 = false ∨ store = true ∧ e.getLsbD 6 = false) :
    referencedEntry e store ≠ e := by
  intro heq
  obtain h | ⟨rfl, h⟩ := h
  · have hr : (referencedEntry e store).getLsbD 5 = true := by simp [referencedEntry]
    rw [heq, h] at hr
    exact Bool.false_ne_true hr
  · have hr : (referencedEntry e true).getLsbD 6 = true := by simp [referencedEntry]
    rw [heq, h] at hr
    exact Bool.false_ne_true hr

/-! Access to a page that grants it, by the memory map's answer at the physical address. -/

/-- Memory and devices accept an access (R132, R136). -/
theorem State.reachKey_accepted {s : State} {store : Bool} {k : Nat} (h : s.busOutcome store k ∈ [.ok, .device]) :
    s.reachKey store k = if s.busOutcome store k = .device then .device k else .key k := by
  unfold State.reachKey
  simp only [List.mem_cons, List.not_mem_nil, or_false] at h
  obtain h | h := h <;> rw [h] <;> rfl

section
variable {s : State} {asi : BitVec 8} {c : FaultClass} {store : Bool} {address : Nat} {e : Word} {i : FaultInfo} {k : Nat}
  (hk : translated e (wordAddress i.va) i.l.toNat = k)
include hk

theorem State.accessPage_accessError (h : s.busOutcome store k = .accessError) :
    s.accessPage asi c store address e i = s.mmuBusFault asi c { i with ft := 5#3 } := by
  rw [State.accessPage, hk, State.reachKey, h]

theorem State.accessPage_mae (h : s.busOutcome store k = .mae) : s.accessPage asi c store address e i = (s, .failed .mae) := by
  rw [State.accessPage, hk, State.reachKey, h]

theorem State.accessPage_mmuMiss (h : s.busOutcome store k = .mmuMiss) :
    s.accessPage asi c store address e i = (s, .failed .mmuMiss) := by
  rw [State.accessPage, hk, State.reachKey, h]

theorem State.accessPage_accepted (h : s.busOutcome store k ∈ [.ok, .device]) :
    s.accessPage asi c store address e i =
      if referencedEntry e store = e then (s, s.reachKey store k)
      else if s.busOutcome true address = .ok then (s.storeKey address 0xF#4 (referencedEntry e store), s.reachKey store k)
      else s.mmuBusFault asi .translation { i with ft := 4#3 } := by
  simp only [List.mem_cons, List.not_mem_nil, or_false] at h
  obtain h | h := h <;> rw [State.accessPage, hk, State.reachKey, h]

end

/-! A translated access, by what its walk ends in. -/

theorem State.reach_translate {s : State} {asi : BitVec 8} (hm : s.cfg.hasRefMmu = true) (he : s.mmu.e = true)
    (hasi : asi ∈ [0x08#8, 0x09#8, 0x0A#8, 0x0B#8]) (fetch store : Bool) (va : Word) :
    s.reach asi fetch store va = s.translate asi fetch store va := by
  rw [State.reach, if_pos ((realAsi_iff asi).mpr hasi), hm, he]
  rfl

/-- At `s` the access ends in a fault of class `c`, recorded so, that changes nothing else but the free-value counter (R218, R233, R237). -/
def State.Faults (s : State) (asi : BitVec 8) (fetch store : Bool) (va : Word) (at_ : BitVec 3) (c : FaultClass) (ebe : BitVec 8)
    (level : Nat) (ft : BitVec 3) (n : Nat) : Prop :=
  s.reach asi fetch store va =
    ({ s with mmu := s.mmu.record c ⟨ebe, BitVec.ofNat 2 level, at_, ft, va⟩, freeCtr := n }, s.faultReach asi ft)

/-- The same of a fault that an external bus error causes: EBE's bits are free (R237). -/
def State.BusFaults (s : State) (asi : BitVec 8) (fetch store : Bool) (va : Word) (at_ : BitVec 3) (c : FaultClass) (level : Nat)
    (ft : BitVec 3) : Prop :=
  ∃ ebe, ebe &&& s.cfg.mmuEbeBits = ebe ∧ s.Faults asi fetch store va at_ c ebe level ft (s.freeCtr + 1)

section
variable {s : State} {asi : BitVec 8} {fetch store : Bool} {va : Word} {at_ : BitVec 3} {c : FaultClass} {level : Nat} {ft : BitVec 3}

theorem State.faults_of_mmuFault (h : ft ≠ 6#3)
    (hr : s.reach asi fetch store va = s.mmuFault asi c ⟨0#8, BitVec.ofNat 2 level, at_, ft, va⟩) :
    s.Faults asi fetch store va at_ c 0#8 level ft s.freeCtr :=
  hr.trans (State.mmuFault_eq h)

theorem State.busFaults_of_mmuBusFault (h : ft ≠ 6#3)
    (hr : s.reach asi fetch store va = s.mmuBusFault asi c ⟨0#8, BitVec.ofNat 2 level, at_, ft, va⟩) :
    s.BusFaults asi fetch store va at_ c level ft :=
  ⟨s.busErrorBits, s.busErrorBits_masked, hr.trans (State.mmuBusFault_eq h)⟩

variable (ht : s.reach asi fetch store va = s.translate asi fetch store va) (hat : accessType asi store = at_)
include ht hat

theorem State.busFaults_of_busError (hw : s.walk s.rootAddress 0 (tableIndexes va) = .busError level) :
    s.BusFaults asi fetch store va at_ .translation level 4#3 := by
  refine State.busFaults_of_mmuBusFault (by decide) (ht.trans ?_)
  rw [State.translate, hw, ← hat]

variable (hc : faultClass asi fetch = c)
include hc

theorem State.faults_of_stopped {e : Word} (hw : s.walk s.rootAddress 0 (tableIndexes va) = .stopped e level) :
    s.Faults asi fetch store va at_ c 0#8 level (stoppedFt e) s.freeCtr := by
  refine State.faults_of_mmuFault (stoppedFt_ne_six e) (ht.trans ?_)
  rw [State.translate, hw, ← hat, ← hc]

variable {address : Nat} {e : Word} (hw : s.walk s.rootAddress 0 (tableIndexes va) = .pte address e level)
include hw

theorem State.faults_of_denied (hp : permissionFault at_ (e.extractLsb' 2 3) ≠ 0#3) :
    s.Faults asi fetch store va at_ c 0#8 level (permissionFault at_ (e.extractLsb' 2 3)) s.freeCtr := by
  refine State.faults_of_mmuFault (permissionFault_ne_six at_ _) (ht.trans ?_)
  rw [State.translate, hw, ← hc]
  subst hat
  exact if_neg hp

theorem State.reach_of_granted (hp : permissionFault at_ (e.extractLsb' 2 3) = 0#3) :
    s.reach asi fetch store va = s.accessPage asi c store address e ⟨0#8, BitVec.ofNat 2 level, at_, 0#3, va⟩ := by
  rw [ht, State.translate, hw, ← hc]
  subst hat
  exact if_pos hp

end

/-- Where the page that a walk comes to has the word of an address: a walk's level fits the two bits of L (R204, R237). -/
theorem State.translated_of_walk {s : State} {start : Nat} {va e : Word} {address level : Nat}
    (hw : s.walk start 0 (tableIndexes va) = .pte address e level) :
    translated e (wordAddress va) (BitVec.ofNat 2 level).toNat =
      (e.toNat / 256 * 4096) ||| ((va.toNat - va.toNat % 4) %
        2 ^ (if level = 0 then 32 else if level = 1 then 24 else if level = 2 then 18 else 12)) := by
  have hl : level ≤ 3 := by simpa only [tableIndexes_eq, List.length_cons, List.length_nil] using (State.walk_eq_pte hw).2
  rw [BitVec.toNat_ofNat, Nat.mod_eq_of_lt (Nat.lt_succ_of_le hl), translated_wordAddress]

/-! Setting R and M in an entry (R215). -/

/-- A word of memory written whole is read back; no other byte changes. -/
theorem State.storeKey_word {s : State} (h : Memory.wf s.mem = true) (k : Nat) (w : Word) :
    (∀ x, x < k ∨ k + 4 ≤ x → Memory.read (s.storeKey k 0xF#4 w).mem x = Memory.read s.mem x) ∧
      Memory.readWord (s.storeKey k 0xF#4 w).mem k = w :=
  ⟨fun _ hx => Memory.read_writeMasked_outside s.mem hx 0xF#4 w, Memory.readWord_writeMasked h k w⟩

/-! Suppressed accesses (R233), and pass-through ones that fail (R217, R237). -/

theorem State.memoryRead_suppressed {s t : State} {asi : BitVec 8} {fetch : Bool} {va : Word} (hm : ¬ s.mmuSpace asi)
    (hr : s.reach asi fetch false va = (t, .suppressed)) (isWord : Bool) : s.memoryRead asi fetch isWord va = (t, .ok 0#32) := by
  obtain ⟨h3, h4⟩ := State.not_mmuSpace hm
  rw [State.memoryRead, h3, h4, hr]
  rfl

theorem State.memoryWrite_suppressed {s t : State} {asi : BitVec 8} {va : Word} (hm : ¬ s.mmuSpace asi)
    (hr : s.reach asi false true va = (t, .suppressed)) (isWord : Bool) (mask : BitVec 4) (data : Word) :
    s.memoryWrite asi isWord va mask data = (storeSignals s t t.ibuf t.mem, none) := by
  obtain ⟨h3, h4⟩ := State.not_mmuSpace hm
  unfold State.memoryWrite
  dsimp only
  rw [h3, h4, State.reach_afterBarrier, hr]
  rfl

/-- With the MMU enabled a pass-through access that the map answers with an access error is FT 5. -/
theorem State.reach_passThrough_accessError {s : State} {asi : BitVec 8} {store : Bool} {va : Word} (hm : s.cfg.hasRefMmu = true)
    (he : s.mmu.e = true) (hs : asi.toNat / 16 = 2)
    (hb : s.busOutcome store (asi.toNat % 16 * 2 ^ 32 + (va.toNat - va.toNat % 4)) = .accessError) (fetch : Bool) :
    s.reach asi fetch store va =
      s.mmuBusFault asi .data ⟨0#8, Config.freeFaultLevel s.freeCtr, Config.freeFaultAt s.freeCtr, 5#3, va⟩ := by
  have hr : ¬ realAsi asi = true := by
    rw [realAsi_iff]
    intro hmem
    simp only [List.mem_cons, List.not_mem_nil, or_false] at hmem
    obtain rfl | rfl | rfl | rfl := hmem <;> exact absurd hs (by decide)
  have hk : (asi.extractLsb' 0 4 ++ wordAddress va : BitVec 36).toNat = asi.toNat % 16 * 2 ^ 32 + (va.toNat - va.toNat % 4) := by
    rw [physicalAddress_toNat, BitVec.extractLsb'_toNat]
    rfl
  rw [State.reach, if_neg hr, if_pos ((passThroughSpace_iff _ _).mpr ⟨hm, hs⟩), State.passThrough, hk, State.reachKey, hb]
  exact if_pos he

end Sys2Proof.Machine

open Sys2Proof Sys2Proof.Machine

/-- Settles O57: the access goes to the page's address; the entry is written only where a bit of it has still to be set. -/
theorem translationOfMappedPage : Obligations.TranslationOfMappedPage := by
  unfold Obligations.TranslationOfMappedPage
  intro s asi fetch store va e address level hm he hasi hwf hw hp offset pa marked hb hset
  have hword := State.eq_readWord_of_tableWord (State.walk_eq_pte hw).1
  have hr := State.reach_of_granted (State.reach_translate hm he hasi fetch store va) rfl rfl hw hp
  rw [State.accessPage_accepted (State.translated_of_walk hw) hb, State.reachKey_accepted hb] at hr
  change s.reach asi fetch store va = if marked = e then _ else _ at hr
  by_cases hmarked : marked = e
  · rw [if_pos hmarked] at hr
    exact ⟨s, hr, rfl, fun _ => rfl, (if_neg fun h => h.2 hmarked).symm, fun _ _ => rfl, hword.symm.trans hmarked.symm⟩
  · rw [if_neg hmarked, if_pos (hset.resolve_left hmarked)] at hr
    obtain ⟨hothers, hentry⟩ := State.storeKey_word hwf address marked
    refine ⟨_, hr, rfl, fun h => absurd h hmarked, ?_, hothers, hentry⟩
    rw [hword]
    exact if_congr (and_iff_left (hword ▸ hmarked)).symm rfl rfl

/-- Settles O60: a walk that ends in no PTE, a page that does not grant the access, and the map's answers at the physical address, each
is the fault it should be or none; NF and pass-through accesses apart. -/
theorem mmuFaultRecording : Obligations.MmuFaultRecording := by
  unfold Obligations.MmuFaultRecording
  refine ⟨fun m c i => ?_, fun s asi fetch store va hm he hasi => ?_, fun s t asi fetch isWord va hs hr => ?_,
    fun s t asi isWord va data mask hs hr => ?_, fun s asi fetch store va hm he hs hb => ?_⟩
  · intro rank
    split
    · rename_i h
      obtain ⟨held, hheld, hlt⟩ := h
      exact Mmu.record_outranked hheld hlt i
    · rename_i h
      exact Mmu.record_latched (fun held hheld => Nat.le_of_not_lt fun hlt => h ⟨held, hheld, hlt⟩) i
  · intro c at_ faults busError w
    have ht := State.reach_translate hm he hasi fetch store va
    have hc : faultClass asi fetch = c := faultClass_eq asi fetch
    have hat : accessType asi store = at_ := accessType_eq hasi store
    refine ⟨fun e level hw => ?_, fun level hw => State.busFaults_of_busError ht hat hw, fun address e level hw => ?_⟩
    · have hf := State.faults_of_stopped ht hat hc hw
      rwa [stoppedFt_eq] at hf
    · refine ⟨fun hp => State.faults_of_denied ht hat hc hw hp, fun hp => ?_⟩
      have hr := State.reach_of_granted ht hat hc hw hp
      have hk := State.translated_of_walk hw
      refine ⟨fun hb => ?_, fun hb => ?_, fun hb => ?_, fun hb hbits hentry => ?_⟩
      · exact State.busFaults_of_mmuBusFault (by decide) (hr.trans (State.accessPage_accessError hk hb))
      · exact hr.trans (State.accessPage_mae hk hb)
      · exact hr.trans (State.accessPage_mmuMiss hk hb)
      · refine State.busFaults_of_mmuBusFault (by decide) (hr.trans ?_)
        rw [State.accessPage_accepted hk (by simpa using hb), if_neg (referencedEntry_ne hbits), if_neg hentry]
  · exact State.memoryRead_suppressed hs hr isWord
  · exact State.memoryWrite_suppressed hs hr isWord mask data
  · refine ⟨⟨s.busErrorBits, Config.freeFaultLevel s.freeCtr, Config.freeFaultAt s.freeCtr, 5#3, va⟩, rfl, rfl, s.busErrorBits_masked, ?_⟩
    rw [State.reach_passThrough_accessError hm he hs hb, State.mmuBusFault_eq (show 5#3 ≠ 6#3 by decide), State.faultReach]
    have hne : asi ≠ 0x09#8 := by
      rintro rfl
      exact absurd hs (by decide)
    exact congrArg _ (if_congr (and_iff_left hne) rfl rfl)
end

section
/-! The MMU's registers by word accesses of ASI 4, and flushes by stores to ASI 3 (R213, R230 to R239). -/

namespace Sys2Proof.Machine

/-! The registers, by bits 31:8 of the address (R230). -/

theorem registerIndex_eq {va : Word} {n : Nat} (h : va.toNat / 256 = n) : va.extractLsb' 8 24 = BitVec.ofNat 24 n := by
  have hx : (va.extractLsb' 8 24).toNat = va.toNat / 256 := by
    rw [BitVec.extractLsb'_toNat, Nat.shiftRight_eq_div_pow]
    omega
  rw [← h, ← hx, BitVec.ofNat_toNat, BitVec.setWidth_eq]

section
variable {s : State} {va : Word}

theorem State.mmuRead_control (h : va.toNat / 256 = 0) : s.mmuRead va true = (s, s.mmuControl) := by
  rw [State.mmuRead, registerIndex_eq h]
  rfl

theorem State.mmuRead_contextTable (h : va.toNat / 256 = 1) : s.mmuRead va true = (s, s.mmu.ctp ++ 0#2) := by
  rw [State.mmuRead, registerIndex_eq h]
  rfl

theorem State.mmuRead_context (h : va.toNat / 256 = 2) : s.mmuRead va true = (s, s.mmu.ctx &&& contextMask s.cfg) := by
  rw [State.mmuRead, registerIndex_eq h]
  rfl

/-- The registers after a read of the fault status (R237). -/
def Mmu.statusCleared (m : Mmu) : Mmu :=
  { m with ebe := 0#8, l := 0#2, accType := 0#3, ft := 0#3, fav := false, ow := false, cls := none }

theorem State.mmuRead_status (h : va.toNat / 256 = 3) :
    s.mmuRead va true = ({ s with mmu := s.mmu.statusCleared }, s.mmuStatus) := by
  rw [State.mmuRead, registerIndex_eq h]
  rfl

theorem State.mmuRead_faultAddress (h : va.toNat / 256 = 4) : s.mmuRead va true = (s, s.mmu.far) := by
  rw [State.mmuRead, registerIndex_eq h]
  rfl

variable (data : Word)

theorem State.mmuWrite_control (h : va.toNat / 256 = 0) :
    s.mmuWrite va data true =
      { s with mmu := { s.mmu with
          sc := data.extractLsb' 8 16 &&& s.cfg.mmuScBits, pso := data.getLsbD 7, nf := data.getLsbD 1, e := data.getLsbD 0 } } := by
  rw [State.mmuWrite, registerIndex_eq h]
  rfl

theorem State.mmuWrite_contextTable (h : va.toNat / 256 = 1) :
    s.mmuWrite va data true = { s with mmu := { s.mmu with ctp := data.extractLsb' 2 30 } } := by
  rw [State.mmuWrite, registerIndex_eq h]
  rfl

theorem State.mmuWrite_context (h : va.toNat / 256 = 2) :
    s.mmuWrite va data true = { s with mmu := { s.mmu with ctx := data &&& contextMask s.cfg } } := by
  rw [State.mmuWrite, registerIndex_eq h]
  rfl

/-- The fault registers ignore writes (R237, R239). -/
theorem State.mmuWrite_fault (h : va.toNat / 256 = 3 ∨ va.toNat / 256 = 4) : s.mmuWrite va data true = s := by
  obtain h | h := h <;> rw [State.mmuWrite, registerIndex_eq h] <;> rfl

end

/-- The implemented bits of the context register are its low ones (R236). -/
theorem getLsbD_contextMask (c : Config) (n : Nat) : (contextMask c).getLsbD n = decide (n < c.mmuContextBits.val) := by
  have hle : c.mmuContextBits.val ≤ 32 := Nat.le_of_lt_succ c.mmuContextBits.isLt
  rw [contextMask, BitVec.getLsbD_ofNat, Nat.testBit_two_pow_sub_one, ← Bool.decide_and, decide_eq_decide]
  omega

/-- FT, FAV and OW, the low bits of the fault status, put together first (R237). -/
theorem State.mmuStatus_eq (s : State) :
    s.mmuStatus = 0#14 ++ (s.mmu.ebe &&& s.cfg.mmuEbeBits) ++ s.mmu.l ++ s.mmu.accType ++
      (s.mmu.ft ++ BitVec.ofBool s.mmu.fav ++ BitVec.ofBool s.mmu.ow) := by
  refine BitVec.eq_of_toNat_eq ?_
  simp only [State.mmuStatus, BitVec.toNat_append, Nat.shiftLeft_or_distrib, ← Nat.shiftLeft_add, Nat.or_assoc]

/-! Accesses of ASI 3 and 4, where there is an MMU. -/

/-- A write computes its sync and uses up the store barrier before anything else (R127). -/
def State.afterBarrier (s : State) : State :=
  { s with lastWriteSync := s.storeBarrierPending || !s.psoMode, storeBarrierPending := false }

section
variable {s : State} {a : Word} (hm : s.cfg.hasRefMmu = true)
include hm

theorem State.memoryRead_register (fetch isWord : Bool) :
    s.memoryRead 0x04#8 fetch isWord a = ((s.mmuRead a isWord).1, .ok (s.mmuRead a isWord).2) := by
  rw [State.memoryRead, hm]
  rfl

theorem State.memoryWrite_register (isWord : Bool) (mask : BitVec 4) (data : Word) :
    s.memoryWrite 0x04#8 isWord a mask data = (s.afterBarrier.mmuWrite a data isWord, none) := by
  unfold State.memoryWrite
  dsimp only
  rw [hm]
  rfl

theorem State.memoryWrite_flush (isWord : Bool) (mask : BitVec 4) (data : Word) :
    s.memoryWrite 0x03#8 isWord a mask data = (s.afterBarrier, none) := by
  unfold State.memoryWrite
  dsimp only
  rw [hm]
  rfl

end

/-! LDA and STA at an aligned address in supervisor mode. -/

section
variable {s u : State} {rd rs1 rs2 : RegNum} {asi : BitVec 8} (hs : s.psr.s = true) (ha : (s.reg rs1 + s.reg rs2).toNat % 4 = 0)
include hs ha

theorem exec_lda_ok {w : Word} (hr : s.memoryRead asi false true (s.reg rs1 + s.reg rs2) = (u, .ok w)) :
    exec (.lda rd rs1 (.reg asi rs2)) s = .next (u.setReg rd w).advance :=
  exec_alternate rfl hs <|
    (State.ifAligned_aligned ((AccessSize.aligned_word_iff _).mpr ha)).trans (State.reading_ok (sz := .word) hr)

theorem exec_sta_ok (hw : s.memoryWrite asi true (s.reg rs1 + s.reg rs2) 0xF#4 (s.reg rd) = (u, none)) :
    exec (.sta rd rs1 (.reg asi rs2)) s = .next u.advance :=
  exec_alternate rfl hs <|
    (State.ifAligned_aligned ((AccessSize.aligned_word_iff _).mpr ha)).trans (State.writing_ok (sz := .word) hw)

variable (hm : s.cfg.hasRefMmu = true)
include hm

/-- A store to a register of the MMU leaves what the write of the register does. -/
theorem exec_sta_register {m : Mmu}
    (h : s.afterBarrier.mmuWrite (s.reg rs1 + s.reg rs2) (s.reg rd) true = { s.afterBarrier with mmu := m }) :
    exec (.sta rd rs1 (.reg 0x04#8 rs2)) s =
      .next { s with mmu := m, lastWriteSync := s.storeBarrierPending || !s.psoMode, storeBarrierPending := false,
                     pc := s.npc, npc := s.npc + 4#32 } := by
  rw [exec_sta_ok hs ha (State.memoryWrite_register hm true 0xF#4 (s.reg rd)), h]
  rfl

/-- A load of a register of the MMU whose read changes nothing delivers its word. -/
theorem delivers_lda_register {w : Word} (h : s.mmuRead (s.reg rs1 + s.reg rs2) true = (s, w)) :
    Delivers (.lda rd rs1 (.reg 0x04#8 rs2)) s rd w := by
  have hr := State.memoryRead_register (a := s.reg rs1 + s.reg rs2) hm false true
  rw [h] at hr
  exact ⟨_, exec_lda_ok hs ha hr, delivered s rd w⟩

/-- A load of the fault status delivers it and clears it (R237). -/
theorem completes_lda_status (h : (s.reg rs1 + s.reg rs2).toNat / 256 = 3) :
    Completes (.lda rd rs1 (.reg 0x04#8 rs2)) s fun t =>
      WritesReg s t s.psr.cwp rd s.mmuStatus ∧
      t = { s with globals := t.globals, windows := t.windows, pc := s.npc, npc := s.npc + 4#32, mmu := s.mmu.statusCleared } := by
  have hr := State.memoryRead_register (a := s.reg rs1 + s.reg rs2) hm false true
  rw [State.mmuRead_status h] at hr
  obtain ⟨⟨hwritten, hothers⟩, ⟨hstate, -⟩, hpc, hnpc⟩ := delivered { s with mmu := s.mmu.statusCleared } rd s.mmuStatus
  rw [hpc, hnpc] at hstate
  exact ⟨_, exec_lda_ok hs ha hr, ⟨hwritten, hothers⟩, hstate⟩

end

end Sys2Proof.Machine

open Sys2Proof Sys2Proof.Machine

/-- Settles O58: what a word write and a word read of each register do, as STA and LDA of ASI 4; a flush only uses up the store barrier. -/
theorem mmuRegisterAccess : Obligations.MmuRegisterAccess := by
  unfold Obligations.MmuRegisterAccess
  intro s rd rs1 rs2 hm hs a v ha stored loaded
  refine ⟨fun h => ⟨?_, ?_⟩, fun h => ⟨?_, ?_⟩, fun h => ⟨contextMask s.cfg, getLsbD_contextMask s.cfg, ?_, ?_⟩, fun h => ⟨?_, ?_⟩,
    fun h => ⟨?_, ?_⟩, ?_⟩
  · exact exec_sta_register hs ha hm (State.mmuWrite_control v h)
  · exact delivers_lda_register hs ha hm (State.mmuRead_control h)
  · exact exec_sta_register hs ha hm (State.mmuWrite_contextTable v h)
  · exact delivers_lda_register hs ha hm (State.mmuRead_contextTable h)
  · exact exec_sta_register hs ha hm (State.mmuWrite_context v h)
  · exact delivers_lda_register hs ha hm (State.mmuRead_context h)
  · exact exec_sta_register hs ha hm (State.mmuWrite_fault v (.inl h))
  · rw [← State.mmuStatus_eq]
    exact completes_lda_status hs ha hm h
  · exact exec_sta_register hs ha hm (State.mmuWrite_fault v (.inr h))
  · exact delivers_lda_register hs ha hm (State.mmuRead_faultAddress h)
  · rw [exec_sta_ok hs ha (State.memoryWrite_flush hm true 0xF#4 v)]
    rfl
end

section
/-! The opcode tables read forwards and backwards: the word of a well-formed instruction decodes to it, a decoded instruction is
well-formed, and the words with no row are those with a blank op2 or op3 (R260 to R284). -/

namespace Sys2Proof

/-! Which table a word's fields send it to (R282). -/

section Routes

variable {w : Word}

/-- The four values of op. -/
theorem fieldOp_cases (w : Word) : fieldOp w = 0#2 ∨ fieldOp w = 1#2 ∨ fieldOp w = 2#2 ∨ fieldOp w = 3#2 := by
  generalize fieldOp w = op
  decide +revert

theorem decode_of_op_zero (h : fieldOp w = 0#2) : decode w = decodeFormat2 w := by
  unfold decode; rw [h]; rfl

theorem decode_of_op_one (h : fieldOp w = 1#2) : decode w = .ok (.call (fieldDisp30 w)) := by
  unfold decode; rw [h]; rfl

theorem decode_of_op_two (h : fieldOp w = 2#2) : decode w = decodeArith w := by
  unfold decode; rw [h]; rfl

theorem decode_of_op_three (h : fieldOp w = 3#2) : decode w = decodeMemory w := by
  unfold decode; rw [h]; rfl

theorem decodeFormat2_unimp (h : fieldOp2 w = 0#3) : decodeFormat2 w = .ok (.unimp (fieldImm22 w)) := by
  unfold decodeFormat2; rw [h]; rfl

theorem decodeFormat2_bicc (h : fieldOp2 w = 2#3) : decodeFormat2 w = .ok (decodeBicc w) := by
  unfold decodeFormat2; rw [h]; rfl

/-- op2 = 4: the one word of NOP, and SETHI (R409). -/
theorem decodeFormat2_sethi (h : fieldOp2 w = 4#3) :
    decodeFormat2 w = if w = 0x01000000#32 then .ok .nop else .ok (.sethi (fieldRd w) (fieldImm22 w)) := by
  unfold decodeFormat2; rw [h]; rfl

theorem decodeFormat2_fbfcc (h : fieldOp2 w = 6#3) : decodeFormat2 w = .ok (decodeFBfcc w) := by
  unfold decodeFormat2; rw [h]; rfl

theorem decodeFormat2_cbccc (h : fieldOp2 w = 7#3) : decodeFormat2 w = .ok (decodeCBccc w) := by
  unfold decodeFormat2; rw [h]; rfl

theorem decodeArith_readState (h : fieldOp3 w = 0x28#6) : decodeArith w = .ok (decodeReadState w) := by
  unfold decodeArith; rw [h]; rfl

theorem decodeArith_writeState (h : fieldOp3 w = 0x30#6) : decodeArith w = .ok (decodeWriteState w) := by
  unfold decodeArith; rw [h]; rfl

theorem decodeArith_fpop1 (h : fieldOp3 w = 0x34#6) : decodeArith w = .ok (decodeFPop1 w) := by
  unfold decodeArith; rw [h]; rfl

theorem decodeArith_fpop2 (h : fieldOp3 w = 0x35#6) : decodeArith w = .ok (decodeFPop2 w) := by
  unfold decodeArith; rw [h]; rfl

theorem decodeArith_ticc (h : fieldOp3 w = 0x3A#6) : decodeArith w = .ok (decodeTicc w) := by
  unfold decodeArith; rw [h]; rfl

end Routes

/-! An encoded word, where the row its opcode fields select answers a constructor of its operand fields: the constructor's operands
are read back. -/

section Rows

variable {op : BitVec 2} {op3 : BitVec 6} {rd rs1 rs2 : RegNum} {lo : BitVec 14} {opf : BitVec 9} {a : Bool} {cond : BitVec 4}
  {op2 : BitVec 3} {disp22 : BitVec 22}

theorem decode_format3 {α : Type} {read : Word → α} {x : α} {con : RegNum → RegNum → α → Instr}
    (hrow : ∀ w, fieldOp w = op → fieldOp3 w = op3 → decode w = .ok (con (fieldRd w) (fieldRs1 w) (read w)))
    (hread : read (format3 op rd op3 rs1 lo) = x) : decode (format3 op rd op3 rs1 lo) = .ok (con rd rs1 x) := by
  rw [hrow _ (fieldOp_format3 ..) (fieldOp3_format3 ..), fieldRd_format3, fieldRs1_format3, hread]

/-- The rows that ignore rd. -/
theorem decode_format3_rs1 {con : RegNum → Operand2 → Instr} {opn : Operand2}
    (hrow : ∀ w, fieldOp w = op → fieldOp3 w = op3 → decode w = .ok (con (fieldRs1 w) (fieldOperand2 w))) :
    decode (format3 op rd op3 rs1 opn.encode) = .ok (con rs1 opn) := by
  rw [hrow _ (fieldOp_format3 ..) (fieldOp3_format3 ..), fieldRs1_format3, fieldOperand2_format3]

/-- The rows that read rd alone. -/
theorem decode_format3_rd {con : RegNum → Instr}
    (hrow : ∀ w, fieldOp w = op → fieldOp3 w = op3 → decode w = .ok (con (fieldRd w))) :
    decode (format3 op rd op3 rs1 lo) = .ok (con rd) := by
  rw [hrow _ (fieldOp_format3 ..) (fieldOp3_format3 ..), fieldRd_format3]

theorem decode_cpop {con : RegNum → RegNum → BitVec 9 → RegNum → Instr}
    (hrow : ∀ w, fieldOp w = op → fieldOp3 w = op3 → decode w = .ok (con (fieldRd w) (fieldRs1 w) (fieldOpf w) (fieldRs2 w))) :
    decode (format3 op rd op3 rs1 (opfLow opf rs2)) = .ok (con rd rs1 opf rs2) := by
  rw [hrow _ (fieldOp_format3 ..) (fieldOp3_format3 ..), fieldRd_format3, fieldRs1_format3, fieldOpf_opfLow, fieldRs2_opfLow]

theorem decode_ticc {con : RegNum → TrapOperand → Instr} {opn : TrapOperand}
    (hrow : ∀ w, fieldCond w = cond → decodeTicc w = con (fieldRs1 w) (fieldTrapOperand w)) :
    decode (formatTicc cond rs1 opn.encode) = .ok (con rs1 opn) := by
  rw [formatTicc, decode_of_op_two (fieldOp_format3 ..), decodeArith_ticc (fieldOp3_format3 ..), hrow _ (fieldCond_format3_ticc ..),
    fieldRs1_format3, fieldTrapOperand_format3]

theorem decode_branch {con : Bool → BitVec 22 → Instr} {table : Word → Instr}
    (htable : ∀ w, fieldOp2 w = op2 → decodeFormat2 w = .ok (table w))
    (hrow : ∀ w, fieldCond w = cond → table w = con (fieldAnnul w) (fieldImm22 w)) :
    decode (formatBranch a cond op2 disp22) = .ok (con a disp22) := by
  rw [decode_of_op_zero (fieldOp_formatBranch ..), htable _ (fieldOp2_formatBranch ..), hrow _ (fieldCond_formatBranch ..),
    fieldAnnul_formatBranch, fieldImm22_formatBranch]

theorem decode_fpop1 {con : RegNum → RegNum → RegNum → Instr}
    (hrow : ∀ w, fieldOpf w = opf → decodeFPop1 w = con (fieldRd w) (fieldRs1 w) (fieldRs2 w)) :
    decode (format3 2#2 rd 0x34#6 rs1 (opfLow opf rs2)) = .ok (con rd rs1 rs2) := by
  rw [decode_of_op_two (fieldOp_format3 ..), decodeArith_fpop1 (fieldOp3_format3 ..), hrow _ (fieldOpf_opfLow ..), fieldRd_format3,
    fieldRs1_format3, fieldRs2_opfLow]

/-- The FPop1 rows with one operand, which ignore rs1. -/
theorem decode_fpop1_unary {con : RegNum → RegNum → Instr}
    (hrow : ∀ w, fieldOpf w = opf → decodeFPop1 w = con (fieldRd w) (fieldRs2 w)) :
    decode (format3 2#2 rd 0x34#6 rs1 (opfLow opf rs2)) = .ok (con rd rs2) :=
  decode_fpop1 (con := fun rd _ rs2 => con rd rs2) hrow

/-- The compares, which ignore rd. -/
theorem decode_fpop2_compare {con : RegNum → RegNum → Instr}
    (hrow : ∀ w, fieldOpf w = opf → decodeFPop2 w = con (fieldRs1 w) (fieldRs2 w)) :
    decode (format3 2#2 rd 0x35#6 rs1 (opfLow opf rs2)) = .ok (con rs1 rs2) := by
  rw [decode_of_op_two (fieldOp_format3 ..), decodeArith_fpop2 (fieldOp3_format3 ..), hrow _ (fieldOpf_opfLow ..), fieldRs1_format3,
    fieldRs2_opfLow]

end Rows

/-- A format 2 word is its fields. -/
theorem formatImm22_fields {w : Word} (h : fieldOp w = 0#2) : w = formatImm22 (fieldRd w) (fieldOp2 w) (fieldImm22 w) := by
  refine BitVec.eq_of_getLsbD_eq fun i hi => ?_
  rw [getLsbD_formatImm22, ← h]
  simp only [fieldOp, fieldOp2, fieldRd, fieldImm22, BitVec.getLsbD_extractLsb']
  (repeat' split) <;> simp (disch := omega)
  all_goals omega

/-- NOP is the word of the one SETHI that is not well-formed (R409). -/
theorem formatImm22_eq_nop_iff (rd : RegNum) (imm22 : BitVec 22) :
    formatImm22 rd 4#3 imm22 = 0x01000000#32 ↔ rd = 0#5 ∧ imm22 = 0#22 := by
  constructor
  · intro h
    have hrd := congrArg fieldRd h
    have himm := congrArg fieldImm22 h
    rw [fieldRd_formatImm22] at hrd
    rw [fieldImm22_formatImm22] at himm
    exact ⟨hrd, himm⟩
  · rintro ⟨rfl, rfl⟩
    rfl

/-! The instructions that are not well-formed for every operand. -/

theorem wellFormed_sethi_iff (rd : RegNum) (imm22 : BitVec 22) :
    (Instr.sethi rd imm22).wellFormed = true ↔ ¬ (rd = 0#5 ∧ imm22 = 0#22) := by
  change (!(rd == 0#5 && imm22 == 0#22)) = true ↔ _
  simp only [Bool.not_eq_true', Bool.and_eq_false_iff, beq_eq_false_iff_ne, not_and_or, ne_eq]

theorem wellFormed_rdasr_iff (rd rs1 : RegNum) :
    (Instr.rdasr rd rs1).wellFormed = true ↔ rs1 ≠ 0#5 ∧ ¬ (rs1 = 15#5 ∧ rd = 0#5) := by
  change (rs1 != 0#5 && !(rs1 == 15#5 && rd == 0#5)) = true ↔ _
  simp only [Bool.and_eq_true, bne_iff_ne, Bool.not_eq_true', Bool.and_eq_false_iff, beq_eq_false_iff_ne, not_and_or, ne_eq]

theorem wellFormed_wrasr_iff (rd rs1 : RegNum) (op2 : Operand2) : (Instr.wrasr rd rs1 op2).wellFormed = true ↔ rd ≠ 0#5 :=
  bne_iff_ne

theorem wellFormed_fpop1Unassigned_iff (rd rs1 : RegNum) (opf : BitVec 9) (rs2 : RegNum) :
    (Instr.fpop1Unassigned rd rs1 opf rs2).wellFormed = true ↔ assignedOpf1.contains opf = false :=
  Bool.not_eq_true' _ ▸ Iff.rfl

theorem wellFormed_fpop2Unassigned_iff (rd rs1 : RegNum) (opf : BitVec 9) (rs2 : RegNum) :
    (Instr.fpop2Unassigned rd rs1 opf rs2).wellFormed = true ↔ assignedOpf2.contains opf = false :=
  Bool.not_eq_true' _ ▸ Iff.rfl

/-! From the instruction to its word and back: first the instructions whose tables test for special cases (R282), and those that
have a format to themselves. -/

theorem decode_encode_sethi {rd : RegNum} {imm22 : BitVec 22} (h : (Instr.sethi rd imm22).wellFormed = true) :
    decode (Instr.sethi rd imm22).encode = .ok (.sethi rd imm22) := by
  have hnop : formatImm22 rd 4#3 imm22 ≠ 0x01000000#32 :=
    mt (formatImm22_eq_nop_iff rd imm22).mp ((wellFormed_sethi_iff rd imm22).mp h)
  change decode (formatImm22 rd 4#3 imm22) = _
  rw [decode_of_op_zero (fieldOp_formatImm22 ..), decodeFormat2_sethi (fieldOp2_formatImm22 ..), if_neg hnop, fieldRd_formatImm22,
    fieldImm22_formatImm22]

theorem decode_encode_unimp (const22 : BitVec 22) : decode (Instr.unimp const22).encode = .ok (.unimp const22) := by
  change decode (formatImm22 0#5 0#3 const22) = _
  rw [decode_of_op_zero (fieldOp_formatImm22 ..), decodeFormat2_unimp (fieldOp2_formatImm22 ..), fieldImm22_formatImm22]

theorem decode_encode_call (disp30 : BitVec 30) : decode (Instr.call disp30).encode = .ok (.call disp30) := by
  change decode (formatCall disp30) = _
  rw [decode_of_op_one (fieldOp_formatCall ..), fieldDisp30_formatCall]

theorem decode_encode_rdy (rd : RegNum) : decode (Instr.rdy rd).encode = .ok (.rdy rd) := by
  change decode (format3 2#2 rd 0x28#6 0#5 0#14) = _
  rw [decode_of_op_two (fieldOp_format3 ..), decodeArith_readState (fieldOp3_format3 ..), decodeReadState, fieldRs1_format3,
    fieldRd_format3, if_pos rfl]

theorem decode_encode_rdasr {rd rs1 : RegNum} (h : (Instr.rdasr rd rs1).wellFormed = true) :
    decode (Instr.rdasr rd rs1).encode = .ok (.rdasr rd rs1) := by
  obtain ⟨hrdy, hstbar⟩ := (wellFormed_rdasr_iff rd rs1).mp h
  change decode (format3 2#2 rd 0x28#6 rs1 0#14) = _
  rw [decode_of_op_two (fieldOp_format3 ..), decodeArith_readState (fieldOp3_format3 ..), decodeReadState, fieldRs1_format3,
    fieldRd_format3, if_neg hrdy, if_neg (by simpa using hstbar)]

theorem decode_encode_wry (rs1 : RegNum) (op2 : Operand2) : decode (Instr.wry rs1 op2).encode = .ok (.wry rs1 op2) := by
  change decode (format3 2#2 0#5 0x30#6 rs1 op2.encode) = _
  rw [decode_of_op_two (fieldOp_format3 ..), decodeArith_writeState (fieldOp3_format3 ..), decodeWriteState, fieldRd_format3,
    if_pos rfl, fieldRs1_format3, fieldOperand2_format3]

theorem decode_encode_wrasr {rd rs1 : RegNum} {op2 : Operand2} (h : (Instr.wrasr rd rs1 op2).wellFormed = true) :
    decode (Instr.wrasr rd rs1 op2).encode = .ok (.wrasr rd rs1 op2) := by
  have hwry := (wellFormed_wrasr_iff rd rs1 op2).mp h
  change decode (format3 2#2 rd 0x30#6 rs1 op2.encode) = _
  rw [decode_of_op_two (fieldOp_format3 ..), decodeArith_writeState (fieldOp3_format3 ..), decodeWriteState, fieldRd_format3,
    if_neg hwry, fieldRs1_format3, fieldOperand2_format3]

theorem decode_encode_fpop1Unassigned {rd rs1 : RegNum} {opf : BitVec 9} {rs2 : RegNum}
    (h : (Instr.fpop1Unassigned rd rs1 opf rs2).wellFormed = true) :
    decode (Instr.fpop1Unassigned rd rs1 opf rs2).encode = .ok (.fpop1Unassigned rd rs1 opf rs2) := by
  have hopf := (wellFormed_fpop1Unassigned_iff rd rs1 opf rs2).mp h
  change decode (format3 2#2 rd 0x34#6 rs1 (opfLow opf rs2)) = _
  rw [decode_of_op_two (fieldOp_format3 ..), decodeArith_fpop1 (fieldOp3_format3 ..),
    decodeFPop1_unassigned (by rwa [fieldOpf_opfLow]), fieldRd_format3, fieldRs1_format3, fieldOpf_opfLow, fieldRs2_opfLow]

theorem decode_encode_fpop2Unassigned {rd rs1 : RegNum} {opf : BitVec 9} {rs2 : RegNum}
    (h : (Instr.fpop2Unassigned rd rs1 opf rs2).wellFormed = true) :
    decode (Instr.fpop2Unassigned rd rs1 opf rs2).encode = .ok (.fpop2Unassigned rd rs1 opf rs2) := by
  have hopf := (wellFormed_fpop2Unassigned_iff rd rs1 opf rs2).mp h
  change decode (format3 2#2 rd 0x35#6 rs1 (opfLow opf rs2)) = _
  rw [decode_of_op_two (fieldOp_format3 ..), decodeArith_fpop2 (fieldOp3_format3 ..),
    decodeFPop2_unassigned (by rwa [fieldOpf_opfLow]), fieldRd_format3, fieldRs1_format3, fieldOpf_opfLow, fieldRs2_opfLow]

/-- Each instruction's row, by the shape of its encoding: the opcode fields select the row, the operand fields are read back. -/
theorem decode_encode {i : Instr} (h : i.wellFormed = true) : decode i.encode = .ok i := by
  cases i with
  | sethi => exact decode_encode_sethi h
  | rdasr => exact decode_encode_rdasr h
  | wrasr => exact decode_encode_wrasr h
  | fpop1Unassigned => exact decode_encode_fpop1Unassigned h
  | fpop2Unassigned => exact decode_encode_fpop2Unassigned h
  | nop | stbar => rfl
  | unimp => exact decode_encode_unimp _
  | call => exact decode_encode_call _
  | rdy => exact decode_encode_rdy _
  | wry => exact decode_encode_wry _ _
  -- op3 of a memory instruction (R271)
  | ldsb | ldsh | ldub | lduh | ld | ldd | ldf | lddf | ldc | lddc | stb | sth | st | std | stf | stdf | stc | stdc | ldstub | swap =>
    exact decode_format3 (fun w h h3 => by rw [decode_of_op_three h, decodeMemory, h3]; rfl) (fieldOperand2_format3 ..)
  | ldsba | ldsha | lduba | lduha | lda | ldda | stba | stha | sta | stda | ldstuba | swapa =>
    exact decode_format3 (fun w h h3 => by rw [decode_of_op_three h, decodeMemory, h3]; rfl) (fieldAltAddr_format3 ..)
  | ldfsr | ldcsr | stfsr | stdfq | stcsr | stdcq =>
    exact decode_format3_rs1 fun w h h3 => by rw [decode_of_op_three h, decodeMemory, h3]; rfl
  -- op3 of an arithmetic, logical, shift or control instruction (R270)
  | and | andcc | andn | andncc | or | orcc | orn | orncc | xor | xorcc | xnor | xnorcc
  | add | addcc | addx | addxcc | taddcc | taddcctv | sub | subcc | subx | subxcc | tsubcc | tsubcctv
  | mulscc | umul | smul | umulcc | smulcc | udiv | sdiv | udivcc | sdivcc | save | restore | jmpl =>
    exact decode_format3 (fun w h h3 => by rw [decode_of_op_two h, decodeArith, h3]; rfl) (fieldOperand2_format3 ..)
  | sll | srl | sra =>
    exact decode_format3 (fun w h h3 => by rw [decode_of_op_two h, decodeArith, h3]; rfl) (fieldShiftCount_format3 ..)
  | rett | wrpsr | wrwim | wrtbr | flush =>
    exact decode_format3_rs1 fun w h h3 => by rw [decode_of_op_two h, decodeArith, h3]; rfl
  | rdpsr | rdwim | rdtbr =>
    exact decode_format3_rd fun w h h3 => by rw [decode_of_op_two h, decodeArith, h3]; rfl
  | cpop1 | cpop2 =>
    exact decode_cpop fun w h h3 => by rw [decode_of_op_two h, decodeArith, h3]; rfl
  -- cond of a branch or trap (R274)
  | bn | be | ble | bl | bleu | bcs | bneg | bvs | ba | bne | bg | bge | bgu | bcc | bpos | bvc =>
    exact decode_branch (fun _ => decodeFormat2_bicc) fun w h => by rw [decodeBicc, h]; rfl
  | fbn | fbne | fblg | fbul | fbl | fbug | fbg | fbu | fba | fbe | fbue | fbge | fbuge | fble | fbule | fbo =>
    exact decode_branch (fun _ => decodeFormat2_fbfcc) fun w h => by rw [decodeFBfcc, h]; rfl
  | cbn | cb123 | cb12 | cb13 | cb1 | cb23 | cb2 | cb3 | cba | cb0 | cb03 | cb02 | cb023 | cb01 | cb013 | cb012 =>
    exact decode_branch (fun _ => decodeFormat2_cbccc) fun w h => by rw [decodeCBccc, h]; rfl
  | tn | te | tle | tl | tleu | tcs | tneg | tvs | ta | tne | tg | tge | tgu | tcc | tpos | tvc =>
    exact decode_ticc fun w h => by rw [decodeTicc, h]; rfl
  -- opf of a floating-point operation (R272, R273)
  | fitos | fitod | fitoq | fstoi | fdtoi | fqtoi | fstod | fstoq | fdtos | fdtoq | fqtos | fqtod
  | fmovs | fnegs | fabss | fsqrts | fsqrtd | fsqrtq =>
    exact decode_fpop1_unary fun w h => by rw [decodeFPop1, h]; rfl
  | fadds | faddd | faddq | fsubs | fsubd | fsubq | fmuls | fmuld | fmulq | fsmuld | fdmulq | fdivs | fdivd | fdivq =>
    exact decode_fpop1 fun w h => by rw [decodeFPop1, h]; rfl
  | fcmps | fcmpd | fcmpq | fcmpes | fcmped | fcmpeq =>
    exact decode_fpop2_compare fun w h => by rw [decodeFPop2, h]; rfl

/-! From a word to a well-formed instruction. -/

section Answers

variable (w : Word)

theorem wellFormed_decodeBicc : (decodeBicc w).wellFormed = true := by
  unfold decodeBicc
  split <;> rfl

theorem wellFormed_decodeFBfcc : (decodeFBfcc w).wellFormed = true := by
  unfold decodeFBfcc
  split <;> rfl

theorem wellFormed_decodeCBccc : (decodeCBccc w).wellFormed = true := by
  unfold decodeCBccc
  split <;> rfl

theorem wellFormed_decodeTicc : (decodeTicc w).wellFormed = true := by
  unfold decodeTicc
  split <;> rfl

/-- The row of unassigned opf values is answered only where each assigned one has been tested (R281). -/
theorem wellFormed_decodeFPop1 : (decodeFPop1 w).wellFormed = true := by
  unfold decodeFPop1
  split
  case h_33 =>
    refine (wellFormed_fpop1Unassigned_iff ..).mpr ?_
    simp_all [assignedOpf1]
  all_goals rfl

theorem wellFormed_decodeFPop2 : (decodeFPop2 w).wellFormed = true := by
  unfold decodeFPop2
  split
  case h_7 =>
    refine (wellFormed_fpop2Unassigned_iff ..).mpr ?_
    simp_all [assignedOpf2]
  all_goals rfl

/-- RDASR is answered only where the tests for RDY and STBAR have failed (R282). -/
theorem wellFormed_decodeReadState : (decodeReadState w).wellFormed = true := by
  unfold decodeReadState
  split
  · rfl
  · next hrdy =>
    split
    · rfl
    · next hstbar => exact (wellFormed_rdasr_iff ..).mpr ⟨hrdy, by simpa using hstbar⟩

/-- WRASR is answered only where the test for WRY has failed (R282). -/
theorem wellFormed_decodeWriteState : (decodeWriteState w).wellFormed = true := by
  unfold decodeWriteState
  split
  · rfl
  · next hwry => exact (wellFormed_wrasr_iff ..).mpr hwry

variable {w} {i : Instr}

/-- SETHI is answered only for a word other than NOP's (R409). -/
theorem wellFormed_sethi_fields (hop : fieldOp w = 0#2) (hop2 : fieldOp2 w = 4#3) (hw : w ≠ 0x01000000#32) :
    (Instr.sethi (fieldRd w) (fieldImm22 w)).wellFormed = true := by
  refine (wellFormed_sethi_iff ..).mpr fun h => hw ?_
  rw [formatImm22_fields hop, hop2]
  exact (formatImm22_eq_nop_iff ..).mpr h

theorem wellFormed_of_decodeFormat2 (hop : fieldOp w = 0#2) (h : decodeFormat2 w = .ok i) : i.wellFormed = true := by
  unfold decodeFormat2 at h
  split at h
  case h_1 => cases h; rfl
  case h_2 => cases h; exact wellFormed_decodeBicc w
  case h_3 hop2 =>
    split at h
    · cases h; rfl
    · next hw => cases h; exact wellFormed_sethi_fields hop hop2 hw
  case h_4 => cases h; exact wellFormed_decodeFBfcc w
  case h_5 => cases h; exact wellFormed_decodeCBccc w
  case h_6 => cases h

/-- The rows with operand fields alone are well-formed whatever the fields. -/
theorem wellFormed_of_decodeArith (h : decodeArith w = .ok i) : i.wellFormed = true := by
  unfold decodeArith at h
  split at h
  all_goals cases h
  -- the five op3 values whose words a table of their own tells apart
  case h_37 => exact wellFormed_decodeReadState w
  case h_41 => exact wellFormed_decodeWriteState w
  case h_45 => exact wellFormed_decodeFPop1 w
  case h_46 => exact wellFormed_decodeFPop2 w
  case h_51 => exact wellFormed_decodeTicc w
  all_goals rfl

theorem wellFormed_of_decodeMemory (h : decodeMemory w = .ok i) : i.wellFormed = true := by
  unfold decodeMemory at h
  split at h
  all_goals cases h
  all_goals rfl

theorem wellFormed_of_decode (h : decode w = .ok i) : i.wellFormed = true := by
  rcases fieldOp_cases w with hop | hop | hop | hop
  · rw [decode_of_op_zero hop] at h
    exact wellFormed_of_decodeFormat2 hop h
  · rw [decode_of_op_one hop] at h
    cases h
    rfl
  · rw [decode_of_op_two hop] at h
    exact wellFormed_of_decodeArith h
  · rw [decode_of_op_three hop] at h
    exact wellFormed_of_decodeMemory h

end Answers

end Sys2Proof

open Sys2Proof Sys2Proof.Machine

/-- Settles O1: each row of the tables read back from its own word, and each row's answer seen to be well-formed. -/
theorem decodeAndEncodeAgree : Obligations.DecodeAndEncodeAgree :=
  ⟨fun _ => decode_encode, fun _ _ => wellFormed_of_decode⟩
end

section
/-! The words with no row are those with a blank op2 or op3, and executing one takes illegal_instruction (R267, R270, R271, R280). -/

namespace Sys2Proof

/-- The op2 values R267 leaves blank. -/
def unassignedOp2 : List (BitVec 3) := [1#3, 3#3, 5#3]

/-- The op3 values R270 leaves blank, with op = 2. -/
def unassignedArithOp3 : List (BitVec 6) :=
  [0x09#6, 0x0D#6, 0x19#6, 0x1D#6, 0x2C#6, 0x2D#6, 0x2E#6, 0x2F#6, 0x3E#6, 0x3F#6]

/-- The op3 values R271 leaves blank, with op = 3. -/
def unassignedMemoryOp3 : List (BitVec 6) :=
  [0x08#6, 0x0B#6, 0x0C#6, 0x0E#6, 0x18#6, 0x1B#6, 0x1C#6, 0x1E#6, 0x22#6, 0x28#6, 0x29#6,
   0x2A#6, 0x2B#6, 0x2C#6, 0x2D#6, 0x2E#6, 0x2F#6, 0x32#6, 0x38#6, 0x39#6, 0x3A#6, 0x3B#6, 0x3C#6, 0x3D#6, 0x3E#6, 0x3F#6]

variable (w : Word)

/-- The word's op2 or op3 is one the tables leave blank. -/
def UnassignedOpcode : Prop :=
  fieldOp w = 0#2 ∧ fieldOp2 w ∈ unassignedOp2 ∨ fieldOp w = 2#2 ∧ fieldOp3 w ∈ unassignedArithOp3 ∨
    fieldOp w = 3#2 ∧ fieldOp3 w ∈ unassignedMemoryOp3

theorem isOk_decodeFormat2 : (decodeFormat2 w).isOk = !unassignedOp2.contains (fieldOp2 w) := by
  unfold decodeFormat2
  split
  case h_6 =>
    generalize fieldOp2 w = op2 at *
    decide +revert
  case h_3 h =>
    rw [h]
    split <;> rfl
  all_goals next h => rw [h]; rfl

/-- The 64 values of op3, each looked up in the table. -/
theorem isOk_decodeArith : (decodeArith w).isOk = !unassignedArithOp3.contains (fieldOp3 w) := by
  unfold decodeArith
  generalize fieldOp3 w = op3
  obtain ⟨k⟩ := op3
  fin_cases k <;> rfl

theorem isOk_decodeMemory : (decodeMemory w).isOk = !unassignedMemoryOp3.contains (fieldOp3 w) := by
  unfold decodeMemory
  generalize fieldOp3 w = op3
  obtain ⟨k⟩ := op3
  fin_cases k <;> rfl

theorem isOk_decode_eq_false_iff : (decode w).isOk = false ↔ UnassignedOpcode w := by
  unfold UnassignedOpcode
  rcases fieldOp_cases w with hop | hop | hop | hop
  · simp [decode_of_op_zero hop, isOk_decodeFormat2, hop]
  · simp [decode_of_op_one hop, hop, Except.isOk, Except.toBool]
  · simp [decode_of_op_two hop, isOk_decodeArith, hop]
  · simp [decode_of_op_three hop, isOk_decodeMemory, hop]

variable {w}

theorem isOk_decode_eq_false_iff_ne : (decode w).isOk = false ↔ ∀ i, decode w ≠ .ok i := by
  cases decode w <;> simp [Except.isOk, Except.toBool]

/-- A word that is no instruction runs as illegal_instruction (R280). -/
theorem Machine.runWord_of_no_instruction {s : Machine.State} (h : (decode w).isOk = false) :
    Machine.runWord w s = .next (Machine.raise .illegalInstruction s) := by
  unfold Machine.runWord
  split
  · next i hi => rw [hi] at h; cases h
  · rfl

end Sys2Proof

open Sys2Proof Sys2Proof.Machine

/-- Settles O2: the blank values are those for which a table has no answer, and then the run raises illegal_instruction. -/
theorem unassignedWordsAreIllegal : Obligations.UnassignedWordsAreIllegal := by
  intro w
  refine (isOk_decode_eq_false_iff w).symm.trans ⟨fun h s => ?_, fun h => ?_⟩
  · exact ⟨runWord_of_no_instruction h, isOk_decode_eq_false_iff_ne.mp h⟩
  · exact isOk_decode_eq_false_iff_ne.mpr (h State.reset).2

/-- Settles O3, by running the decoder on each word. -/
theorem sampleWordsDecode : Obligations.SampleWordsDecode := by
  unfold Obligations.SampleWordsDecode
  decide
end

section
/-! Privileged instructions in user mode, and i = 1 in supervisor mode (R322, R486, R510, R682): the check comes before everything else. -/

namespace Sys2Proof.Machine

section
variable {i : Instr} {s : State}

/-- In user mode an alternate-space instruction ends at its first check, whatever its operand (R322). -/
theorem traps_alternate_user {alt : AltAddr} {k : BitVec 8 → RegNum → State} (hx : exec i s = .next (s.alternate alt k))
    (hs : s.psr.s = false) : Traps i s .privilegedInstruction := by
  refine hx.trans (congrArg Host.Outcome.next ?_)
  unfold State.alternate
  rw [hs]
  rfl

/-- In supervisor mode i = 1 ends an alternate-space instruction at its second check (R322). -/
theorem traps_alternate_imm {imm : BitVec 13} {k : BitVec 8 → RegNum → State} (hx : exec i s = .next (s.alternate (.imm imm) k))
    (hs : s.psr.s = true) : Traps i s .illegalInstruction := by
  refine hx.trans (congrArg Host.Outcome.next ?_)
  unfold State.alternate
  rw [hs]
  rfl

/-- In user mode an instruction of the state registers that is privileged does nothing else (R510, R682). -/
theorem traps_supervisor_user {k : State} (hx : exec i s = .next (s.supervisor k)) (hs : s.psr.s = false) :
    Traps i s .privilegedInstruction := by
  refine hx.trans (congrArg Host.Outcome.next ?_)
  unfold State.supervisor
  rw [hs]
  rfl

end

variable {s : State} (hs : s.psr.s = false)
include hs

/-- STDFQ checks the privilege before the FPU (R325, R365). -/
theorem storeDfq_user (a : Word) : storeDfq a s = raise .privilegedInstruction s :=
  if_neg (by rw [hs]; decide)

/-- STDCQ checks the privilege before the coprocessor (R325, R369). -/
theorem storeDcq_user (a : Word) : storeDcq a s = raise .privilegedInstruction s :=
  if_neg (by rw [hs]; decide)

/-- RETT with ET = 1 in user mode (R486). -/
theorem returnTrap_user (het : s.psr.et = true) (rs1 : RegNum) (op2 : Operand2) :
    returnTrap rs1 op2 s = raise .privilegedInstruction s := by
  unfold returnTrap
  rw [if_pos het, hs]
  rfl

end Sys2Proof.Machine

open Sys2Proof Sys2Proof.Machine

/-- Settles O18: each of these instructions tests S, and the alternate-space ones then i, before it does anything. -/
theorem privilegeChecks : Obligations.PrivilegeChecks := by
  unfold Obligations.PrivilegeChecks
  refine ⟨fun s hs => ⟨fun rd rs1 alt => ?_, fun rs1 op2 => ?_, fun rd => ?_⟩, fun s rd rs1 imm hs => ?_⟩
  case refine_1 => refine ⟨?_, ?_, ?_, ?_, ?_, ?_, ?_, ?_, ?_, ?_, ?_, ?_⟩ <;> exact traps_alternate_user rfl hs
  case refine_2 =>
    exact ⟨congrArg Host.Outcome.next (storeDfq_user hs _), congrArg Host.Outcome.next (storeDcq_user hs _),
      traps_supervisor_user rfl hs, traps_supervisor_user rfl hs, traps_supervisor_user rfl hs,
      fun het => congrArg Host.Outcome.next (returnTrap_user hs het rs1 op2)⟩
  case refine_3 => exact ⟨traps_supervisor_user rfl hs, traps_supervisor_user rfl hs, traps_supervisor_user rfl hs⟩
  case refine_4 => refine ⟨?_, ?_, ?_, ?_, ?_, ?_, ?_, ?_, ?_, ?_, ?_, ?_⟩ <;> exact traps_alternate_imm rfl hs
end

section
/-! What a load or store of the integer unit is once its checks are passed, and the integer loads (R323, R327, R332 to R342). -/

namespace Sys2Proof.Machine

section
variable {s : State} {rd : RegNum} {asi : BitVec 8} {a : Word}

/-- A load of an aligned address is its read (R323). -/
theorem loadReg_aligned {size : AccessSize} (h : size.aligned a = true) (signed : Bool) :
    loadReg size signed rd asi a s =
      s.reading asi size a fun w t => (t.setReg rd (loadValue size signed w a)).advance :=
  State.ifAligned_aligned h

/-- A store to an aligned address is its write (R325). -/
theorem storeReg_aligned {size : AccessSize} (h : size.aligned a = true) :
    storeReg size rd asi a s = s.writing asi size a (s.reg rd) State.advance :=
  State.ifAligned_aligned h

/-- A doubleword load of an aligned address into a pair it may name is its two reads (R331, R337). -/
theorem loadRegDouble_aligned (hodd : s.oddRdTraps rd = false) (ha : a.toNat % 8 = 0) :
    loadRegDouble rd asi a s =
      s.readingDouble asi a (fun w0 t => t.setReg (evenReg rd) w0) fun w1 t => (t.setReg (oddReg rd) w1).advance := by
  unfold loadRegDouble
  rw [hodd, State.ifAligned_aligned ((AccessSize.aligned_double_iff a).mpr ha)]
  rfl

/-- A doubleword store to an aligned address of a pair it may name is its two writes (R331, R353). -/
theorem storeRegDouble_aligned (hodd : s.oddRdTraps rd = false) (ha : a.toNat % 8 = 0) :
    storeRegDouble rd asi a s = s.writingDouble asi a (s.reg (evenReg rd)) (s.reg (oddReg rd)) State.advance := by
  unfold storeRegDouble
  rw [hodd, State.ifAligned_aligned ((AccessSize.aligned_double_iff a).mpr ha)]
  rfl

end

section
variable {i : Instr} {s : State} {rd : RegNum} {asi : BitVec 8} {a : Word}

/-- A load whose read answers delivers the value of its width, whatever translation and a device's answer have changed (R327). -/
theorem loads_loadReg {size : AccessSize} {signed : Bool} (hx : exec i s = .next (loadReg size signed rd asi a s))
    (ha : size.aligned a = true) : Loads i s rd asi (size == .word) a fun w => loadValue size signed w a := by
  intro u w hread
  have hu := State.memoryRead_changes hread
  have hend : exec i s = .next (u.setReg rd (loadValue size signed w a)).advance := by
    rw [hx, loadReg_aligned ha, State.reading_ok hread]
  obtain ⟨hwritten, honly, hpc, hnpc⟩ := delivered u rd (loadValue size signed w a)
  have hpsr : u.psr = s.psr := by rw [hu]
  have hnpcu : u.npc = s.npc := by rw [hu]
  exact ⟨_, hend, hpsr ▸ hwritten, honly, ⟨hpc.trans hnpcu, hnpc.trans (congrArg (· + 4#32) hnpcu)⟩, hu⟩

/-- LDSB, LDSBA (R332, R338). -/
theorem loads_signedByte (hx : exec i s = .next (loadReg .byte true rd asi a s)) :
    Loads i s rd asi false a fun w => (w.extractLsb' (24 - 8 * (a.toNat % 4)) 8).signExtend 32 := by
  simp only [← byteLane_eq]
  exact loads_loadReg hx rfl

/-- LDUB, LDUBA (R334, R340). -/
theorem loads_unsignedByte (hx : exec i s = .next (loadReg .byte false rd asi a s)) :
    Loads i s rd asi false a fun w => (w.extractLsb' (24 - 8 * (a.toNat % 4)) 8).zeroExtend 32 := by
  simp only [← byteLane_eq]
  exact loads_loadReg hx rfl

/-- LDSH, LDSHA (R333, R339). -/
theorem loads_signedHalf (hx : exec i s = .next (loadReg .half true rd asi a s)) (ha : a.toNat % 2 = 0) :
    Loads i s rd asi false a fun w => (w.extractLsb' (16 - 8 * (a.toNat % 4)) 16).signExtend 32 := by
  simp only [← halfLane_eq _ a ha]
  exact loads_loadReg hx ((AccessSize.aligned_half_iff a).mpr ha)

/-- LDUH, LDUHA (R335, R341). -/
theorem loads_unsignedHalf (hx : exec i s = .next (loadReg .half false rd asi a s)) (ha : a.toNat % 2 = 0) :
    Loads i s rd asi false a fun w => (w.extractLsb' (16 - 8 * (a.toNat % 4)) 16).zeroExtend 32 := by
  simp only [← halfLane_eq _ a ha]
  exact loads_loadReg hx ((AccessSize.aligned_half_iff a).mpr ha)

/-- LD, LDA (R336, R342). -/
theorem loads_word (hx : exec i s = .next (loadReg .word false rd asi a s)) (ha : a.toNat % 4 = 0) :
    Loads i s rd asi true a id :=
  loads_loadReg hx ((AccessSize.aligned_word_iff a).mpr ha)

end

end Sys2Proof.Machine

open Sys2Proof Sys2Proof.Machine

/-- Settles O30: each load is `loadReg` of its width and sign, an alternate-space one in supervisor mode that at its own address. -/
theorem integerLoads : Obligations.IntegerLoads := by
  unfold Obligations.IntegerLoads
  intro s rd rs1 rs2 op2 asi
  refine ⟨loads_signedByte rfl, loads_unsignedByte rfl, fun ha => loads_signedHalf rfl ha, fun ha => loads_unsignedHalf rfl ha,
    fun ha => loads_word rfl ha, fun hs => ?_⟩
  exact ⟨loads_signedByte (exec_alternate rfl hs rfl), loads_unsignedByte (exec_alternate rfl hs rfl),
    fun hb => loads_signedHalf (exec_alternate rfl hs rfl) hb, fun hb => loads_unsignedHalf (exec_alternate rfl hs rfl) hb,
    fun hb => loads_word (exec_alternate rfl hs rfl) hb⟩
end

section
/-! Floating-point loads (R323, R344 to R346): what each is once its checks are passed, and what its reads leave. -/

namespace Sys2Proof.Machine

/-! The loads whose address is aligned, the FPU accepting them. -/

section
variable {s : State} (hf : s.fpuReady) {rd rs1 : RegNum} {op2 : Operand2}
include hf

/-- LDF (R344). -/
theorem exec_ldf (ha : (s.address rs1 op2).toNat % 4 = 0) :
    exec (.ldf rd rs1 op2) s =
      .next (s.reading s.dataAsi .word (s.address rs1 op2) fun w t => (t.setFreg rd w).advance) :=
  congrArg Host.Outcome.next (fpLoad_ready hf ((AccessSize.aligned_word_iff _).mpr ha) (.inr rfl))

/-- LDFSR (R346). -/
theorem exec_ldfsr (ha : (s.address rs1 op2).toNat % 4 = 0) :
    exec (.ldfsr rs1 op2) s =
      .next (s.reading s.dataAsi .word (s.address rs1 op2) fun w t => (t.loadFsr w).fccLoaded.advance) :=
  congrArg Host.Outcome.next (fpLoad_ready hf ((AccessSize.aligned_word_iff _).mpr ha) (.inr rfl))

/-- LDDF of a register it allows (R345). -/
theorem exec_lddf (ha : (s.address rs1 op2).toNat % 8 = 0) (hb : s.cfg.fpMisalignedRegTraps = false ∨ rd.getLsbD 0 = false) :
    exec (.lddf rd rs1 op2) s =
      .next (s.readingDouble s.dataAsi (s.address rs1 op2) (fun w0 t => t.setFreg (evenReg rd) w0)
        fun w1 t => (t.setFreg (oddReg rd) w1).advance) :=
  congrArg Host.Outcome.next (fpLoad_ready hf ((AccessSize.aligned_double_iff _).mpr ha) hb)

end

/-- LDDF of an odd register, where that traps, whatever state an enabled FPU is in (R84, R323). -/
theorem exec_lddf_odd {s : State} {rd rs1 : RegNum} {op2 : Operand2} (hen : s.fpEnabled = true)
    (ha : (s.address rs1 op2).toNat % 8 = 0) (hc : s.cfg.fpMisalignedRegTraps = true) (hb : rd.getLsbD 0 = true) :
    exec (.lddf rd rs1 op2) s = .next (raise .fpException { s with fsr := { s.fsr with ftt := 6#3 } }) := by
  have hx : loadDf rd (s.address rs1 op2) s = raiseFp fttInvalidRegister s := by
    unfold loadDf fpLoad
    rw [if_pos hen, State.ifAligned_aligned ((AccessSize.aligned_double_iff _).mpr ha), if_pos (by rw [hc, hb]; rfl)]
  exact congrArg Host.Outcome.next hx

/-! Two reads, each followed by its delivery. -/

/-- Both reads of a doubleword answering, the second is made from the state the first word's delivery leaves (R128, R329). -/
theorem State.readingDouble_ok {s u v : State} {asi : BitVec 8} {a w0 w1 : Word} {first second : Word → State → State}
    (h0 : s.memoryRead asi false false a = (u, .ok w0))
    (h1 : (first w0 u).memoryRead asi false false (a + 4#32) = (v, .ok w1)) :
    s.readingDouble asi a first second = second w1 v :=
  (State.reading_ok (sz := .double) h0).trans (State.reading_ok (sz := .double) h1)

/-! What the loads leave. -/

section
variable {s u v : State} {asi : BitVec 8} {isWord : Bool} {a a' w0 w1 : Word} {n n' : RegNum}

/-- A word read and delivered to f[n] (R344). -/
theorem setFreg_advance_after_memoryRead (h : s.memoryRead asi false isWord a = (u, .ok w0)) :
    (u.setFreg n w0).advance = { u with f := (u.setFreg n w0).advance.f, pc := s.npc, npc := s.npc + 4#32 } ∧
    (u.setFreg n w0).advance.freg n = w0 ∧ ∀ m, m ≠ n → (u.setFreg n w0).advance.freg m = s.freg m := by
  have hu := State.memoryRead_changes h
  have hnpc : u.npc = s.npc := by rw [hu]
  have hkeeps (m : RegNum) : u.freg m = s.freg m := State.freg_congr (by rw [hu]) m
  refine ⟨?_, u.freg_setFreg_same n w0, fun m hm => (u.freg_setFreg_ne w0 hm).trans (hkeeps m)⟩
  rw [← hnpc]
  rfl

/-- A word read and delivered to the writable fields of the FSR (R346). -/
theorem loadFsr_advance_after_memoryRead (h : s.memoryRead asi false isWord a = (u, .ok w0)) :
    (u.loadFsr w0).fccLoaded.advance =
      { u with
        pc := s.npc, npc := s.npc + 4#32, hzLdfsr := 4
        fsr := { rd := w0.extractLsb' 30 2, tem := w0.extractLsb' 23 5, ns := w0.getLsbD 22 && s.cfg.fsrNsImplemented,
                 ftt := s.fsr.ftt, fcc := w0.extractLsb' 10 2, aexc := w0.extractLsb' 5 5, cexc := w0.extractLsb' 0 5 } } := by
  have hu := State.memoryRead_changes h
  have hnpc : u.npc = s.npc := by rw [hu]
  have hftt : u.fsr.ftt = s.fsr.ftt := by rw [hu]
  have hcfg : u.cfg = s.cfg := by rw [hu]
  rw [← hnpc, ← hftt, ← hcfg]
  rfl

/-- The two reads of a doubleword load into f registers, and what they may change (R128, R329). -/
theorem State.memoryRead_setFreg_changes (h0 : s.memoryRead asi false isWord a = (u, .ok w0))
    (h1 : (u.setFreg n w0).memoryRead asi false isWord a' = (v, .ok w1)) :
    v = { s with f := v.f, mem := v.mem, mmu := v.mmu, ibuf := v.ibuf, io := v.io, freeCtr := v.freeCtr } := by
  have hv := State.memoryRead_changes h1
  rw [State.memoryRead_changes h0] at hv
  rw [hv]
  rfl

/-- Two words read, the first delivered to f[n] before the second is read and delivered to f[n'] (R345). -/
theorem freg_after_two_reads (hne : n ≠ n') (h0 : s.memoryRead asi false isWord a = (u, .ok w0))
    (h1 : (u.setFreg n w0).memoryRead asi false isWord a' = (v, .ok w1)) :
    (v.setFreg n' w1).advance.freg n = w0 ∧ (v.setFreg n' w1).advance.freg n' = w1 ∧
    ∀ m, m ≠ n → m ≠ n' → (v.setFreg n' w1).advance.freg m = s.freg m := by
  obtain ⟨-, hfirst, hkept⟩ := setFreg_advance_after_memoryRead (n := n) h0
  obtain ⟨-, hsecond, hkept'⟩ := setFreg_advance_after_memoryRead (n := n') h1
  exact ⟨(hkept' n hne).trans hfirst, hsecond, fun m hm hm' => (hkept' m hm').trans (hkept m hm)⟩

end

end Sys2Proof.Machine

open Sys2Proof Sys2Proof.Machine

/-- Settles O44: each load, its checks passed, is one read and its delivery, or two; the check of LDDF's rd precedes the FPU's state. -/
theorem floatingPointLoads : Obligations.FloatingPointLoads := by
  unfold Obligations.FloatingPointLoads
  refine ⟨fun s u v rd rs1 op2 w0 w1 hf => ⟨fun ha h0 => ?_, fun ha hb h0 h1 => ?_⟩,
    fun s rd rs1 op2 hen ha hc hb => exec_lddf_odd hen ha hc hb⟩
  · refine ⟨State.memoryRead_changes h0, ⟨_, ?_, setFreg_advance_after_memoryRead h0⟩,
      ⟨_, ?_, loadFsr_advance_after_memoryRead h0⟩⟩
    · exact (exec_ldf hf ha).trans (congrArg Host.Outcome.next (State.reading_ok (sz := .word) h0))
    · exact (exec_ldfsr hf ha).trans (congrArg Host.Outcome.next (State.reading_ok (sz := .word) h0))
  · have hv := State.memoryRead_setFreg_changes h0 h1
    have hend : exec (.lddf rd rs1 op2) s = .next (v.setFreg (oddReg rd) w1).advance :=
      (exec_lddf hf ha hb).trans (congrArg Host.Outcome.next (State.readingDouble_ok h0 h1))
    have hnpc : v.npc = s.npc := by rw [hv]
    refine ⟨_, hend, ?_, hv, freg_after_two_reads (evenReg_ne_oddReg rd) h0 h1⟩
    rw [← hnpc]
    rfl
end

section
/-! Coprocessor loads and stores (R347 to R349, R366 to R369, R633): what each is once its checks are passed. -/

namespace Sys2Proof.Machine

/-! The loads whose address is aligned, the coprocessor accepting them. -/

/-- A load's checks before the coprocessor's own, passed: a sequence error decides (R347). -/
theorem cpLoad_checked {s : State} {size : AccessSize} {a : Word} (hc : s.cpAccepts) (hp : s.cfg.cpExceptionsPossible = true)
    (ha : size.aligned a = true) (k : State → State) :
    cpLoad size a k s = if Config.cpSequenceError s.cp.state = true then raise .cpException s else k s := by
  unfold cpLoad State.cpSequenceError
  rw [if_pos hc.1, State.ifAligned_aligned ha, State.cpReady_ready hc, hp]
  rfl

/-- So an instruction that is a coprocessor load takes cp_exception exactly where there is one (R347, R633). -/
theorem exec_cpLoad_checked {i : Instr} {s : State} {size : AccessSize} {a : Word} {k : State → State}
    (hx : exec i s = .next (cpLoad size a k s)) (hc : s.cpAccepts) (hp : s.cfg.cpExceptionsPossible = true)
    (ha : size.aligned a = true) :
    ∃ t, exec i s = .next (if Config.cpSequenceError s.cp.state = true then raise .cpException s else t) :=
  ⟨k s, hx.trans (congrArg Host.Outcome.next (cpLoad_checked hc hp ha k))⟩

section
variable {s : State} (hc : s.cpAccepts) (hq : s.cfg.cpExceptionsPossible = false ∨ Config.cpSequenceError s.cp.state = false)
  {rd rs1 : RegNum} {op2 : Operand2}
include hc hq

/-- LDC (R347). -/
theorem exec_ldc (ha : (s.address rs1 op2).toNat % 4 = 0) :
    exec (.ldc rd rs1 op2) s =
      .next (s.reading s.dataAsi .word (s.address rs1 op2) fun w t => (t.setCplace (.register rd) w).advance) :=
  congrArg Host.Outcome.next (cpLoad_ready hc hq ((AccessSize.aligned_word_iff _).mpr ha))

/-- LDCSR (R349). -/
theorem exec_ldcsr (ha : (s.address rs1 op2).toNat % 4 = 0) :
    exec (.ldcsr rs1 op2) s =
      .next (s.reading s.dataAsi .word (s.address rs1 op2) fun w t => (t.setCplace .status w).advance) :=
  congrArg Host.Outcome.next (cpLoad_ready hc hq ((AccessSize.aligned_word_iff _).mpr ha))

/-- LDDC (R348). -/
theorem exec_lddc (ha : (s.address rs1 op2).toNat % 8 = 0) :
    exec (.lddc rd rs1 op2) s =
      .next (s.readingDouble s.dataAsi (s.address rs1 op2) (fun w0 t => t.setCplace (.register (evenReg rd)) w0)
        fun w1 t => (t.setCplace (.register (oddReg rd)) w1).advance) :=
  congrArg Host.Outcome.next (cpLoad_ready hc hq ((AccessSize.aligned_double_iff _).mpr ha))

end

/-! The stores whose address is aligned, the coprocessor accepting them. -/

section
variable {s : State} (hc : s.cpAccepts) {rd rs1 : RegNum} {op2 : Operand2}
include hc

/-- STC (R366). -/
theorem exec_stc (ha : (s.address rs1 op2).toNat % 4 = 0) :
    exec (.stc rd rs1 op2) s =
      .next (s.writing s.dataAsi .word (s.address rs1 op2) (s.cplace (.register rd)) State.advance) :=
  congrArg Host.Outcome.next (cpStore_ready hc ((AccessSize.aligned_word_iff _).mpr ha))

/-- STCSR (R368). -/
theorem exec_stcsr (ha : (s.address rs1 op2).toNat % 4 = 0) :
    exec (.stcsr rs1 op2) s = .next (s.writing s.dataAsi .word (s.address rs1 op2) (s.cplace .status) State.advance) :=
  congrArg Host.Outcome.next (cpStore_ready hc ((AccessSize.aligned_word_iff _).mpr ha))

/-- STDC (R367). -/
theorem exec_stdc (ha : (s.address rs1 op2).toNat % 8 = 0) :
    exec (.stdc rd rs1 op2) s =
      .next (s.writingDouble s.dataAsi (s.address rs1 op2) (s.cplace (.register (evenReg rd)))
        (s.cplace (.register (oddReg rd))) State.advance) :=
  congrArg Host.Outcome.next (cpStore_ready hc ((AccessSize.aligned_double_iff _).mpr ha))

/-- STDCQ in supervisor mode comes to its look at whether there is a queue (R369). -/
theorem storeDcq_ready {a : Word} (ha : a.toNat % 8 = 0) (hs : s.psr.s = true) :
    storeDcq a s =
      if s.cfg.hasCq then
        s.writingDouble s.dataAsi a (s.cqFront.extractLsb' 32 32) (s.cqFront.extractLsb' 0 32) fun t => t.popCq.advance
      else raise .cpException s := by
  unfold storeDcq
  rw [if_pos hs, cpStore_ready hc ((AccessSize.aligned_double_iff a).mpr ha)]

/-- STDCQ with a queue (R369). -/
theorem exec_stdcq (ha : (s.address rs1 op2).toNat % 8 = 0) (hs : s.psr.s = true) (hq : s.cfg.hasCq = true) :
    exec (.stdcq rs1 op2) s =
      .next (s.writingDouble s.dataAsi (s.address rs1 op2) (s.cqFront.extractLsb' 32 32) (s.cqFront.extractLsb' 0 32)
        fun t => t.popCq.advance) :=
  congrArg Host.Outcome.next ((storeDcq_ready hc ha hs).trans (if_pos hq))

/-- STDCQ without one (R369). -/
theorem traps_stdcq (ha : (s.address rs1 op2).toNat % 8 = 0) (hs : s.psr.s = true) (hq : s.cfg.hasCq = false) :
    Traps (.stdcq rs1 op2) s .cpException :=
  congrArg Host.Outcome.next ((storeDcq_ready hc ha hs).trans (if_neg (by rw [hq]; decide)))

end

/-! What the loads and the queue's advance leave. -/

section
variable {i : Instr} {s u v : State} {asi : BitVec 8} {a a' w0 w1 : Word} {p p' : CpPlace}

/-- A word that the read answers is delivered to its place of the coprocessor, and nothing else is done (R347, R349). -/
theorem exec_setCplace_ok (hx : exec i s = .next (s.reading asi .word a fun w t => (t.setCplace p w).advance))
    (h : s.memoryRead asi false true a = (u, .ok w0)) :
    exec i s = .next { u.setCplace p w0 with pc := s.npc, npc := s.npc + 4#32 } := by
  have hnpc : u.npc = s.npc := by rw [State.memoryRead_changes h]
  rw [hx, State.reading_ok (sz := .word) h, ← hnpc]
  rfl

/-- The two reads of a doubleword load into the coprocessor, and what they may change (R128, R348). -/
theorem State.memoryRead_setCplace_changes (h0 : s.memoryRead asi false false a = (u, .ok w0))
    (h1 : (u.setCplace p w0).memoryRead asi false false a' = (v, .ok w1)) :
    v = { s.setCplace p w0 with mem := v.mem, mmu := v.mmu, ibuf := v.ibuf, io := v.io, freeCtr := v.freeCtr } := by
  have hv := State.memoryRead_changes h1
  rw [State.memoryRead_changes h0] at hv
  rw [hv]
  rfl

/-- Of two words read, each is delivered to its place, the first before the second is read (R348). -/
theorem exec_setCplace_pair_ok
    (hx : exec i s = .next (s.readingDouble asi a (fun w t => t.setCplace p w) fun w t => (t.setCplace p' w).advance))
    (h0 : s.memoryRead asi false false a = (u, .ok w0))
    (h1 : (u.setCplace p w0).memoryRead asi false false (a + 4#32) = (v, .ok w1)) :
    exec i s = .next { v.setCplace p' w1 with pc := s.npc, npc := s.npc + 4#32 } := by
  have hnpc : v.npc = s.npc := by rw [State.memoryRead_setCplace_changes h0 h1]; rfl
  rw [hx, State.readingDouble_ok h0 h1, ← hnpc]
  rfl

end

/-- Two words written, the coprocessor's queue advances (R369). -/
theorem State.popCq_advance {s v : State} (hv : State.Written s v) :
    v.popCq.advance = { v.popCq with pc := s.npc, npc := s.npc + 4#32 } := by
  have hnpc : v.npc = s.npc := by rw [hv]
  rw [← hnpc]
  rfl

end Sys2Proof.Machine

open Sys2Proof Sys2Proof.Machine

/-- Settles O54: each load is one read and its delivery, or two, unless a sequence error ends it; each store is the write of one
word or of two, after which STDCQ's queue advances. -/
theorem coprocessorLoadsAndStores : Obligations.CoprocessorLoadsAndStores := by
  unfold Obligations.CoprocessorLoadsAndStores
  refine ⟨fun s u v rd rs1 op2 w0 w1 hc hq => ⟨fun ha h0 => ?_, fun ha h0 h1 => ?_⟩,
    fun s rd rs1 op2 hc hp => ⟨fun ha => ?_, fun ha => ?_⟩,
    fun s rd rs1 op2 hc => ⟨fun ha => ?_, fun ha => ?_, fun ha hs => ⟨fun hq => ?_, fun hq => traps_stdcq hc ha hs hq⟩⟩⟩
  · exact ⟨State.memoryRead_changes h0, exec_setCplace_ok (exec_ldc hc hq ha) h0, exec_setCplace_ok (exec_ldcsr hc hq ha) h0⟩
  · exact ⟨exec_setCplace_pair_ok (exec_lddc hc hq ha) h0 h1, State.memoryRead_setCplace_changes h0 h1⟩
  · have h := (AccessSize.aligned_word_iff _).mpr ha
    exact ⟨exec_cpLoad_checked rfl hc hp h, exec_cpLoad_checked rfl hc hp h⟩
  · exact exec_cpLoad_checked rfl hc hp ((AccessSize.aligned_double_iff _).mpr ha)
  · exact ⟨storesAt_writing (exec_stc hc ha) ha, storesAt_writing (exec_stcsr hc ha) ha⟩
  · exact storesPairAt_writingDouble (exec_stdc hc ha) s.advance_eq_finish (fun _ _ _ _ => rfl) (fun _ => rfl) fun _ => rfl
  · exact storesPairAt_writingDouble (exec_stdcq hc ha hs hq) (fun _ hv => State.popCq_advance hv) (fun _ _ _ _ => rfl)
      (fun _ => rfl) fun _ => rfl
end

section
/-! Accesses that fail (R324, R329, R360, R362, R690, R692, R697): an instruction that is one access, two, or a read and a write ends with
the first that fails, in the exception the failure names. -/

namespace Sys2Proof.Machine

/-! What an access that fails may have changed. -/

/-- What a data read may change, whatever it answers. -/
theorem State.memoryRead_leaves {s u : State} {asi : BitVec 8} {fetch isWord : Bool} {a : Word} {r : Except BusError Word}
    (h : s.memoryRead asi fetch isWord a = (u, r)) :
    u = { s with mem := u.mem, mmu := u.mmu, ibuf := u.ibuf, io := u.io, freeCtr := u.freeCtr } := by
  have hf := State.memoryRead_frame s asi fetch isWord a
  rwa [h] at hf

/-- Finding the place of an access changes nothing of the configuration. -/
theorem State.reach_cfg {s u : State} {asi : BitVec 8} {fetch store : Bool} {a : Word} {r : Reach}
    (h : s.reach asi fetch store a = (u, r)) : u.cfg = s.cfg := by
  have hf := congrArg State.cfg (State.reach_frame s asi fetch store a)
  rwa [h] at hf

@[simp] theorem storeSignals_cfg (s u : State) (ibuf : List IBufEvent) (mem : Memory) : (storeSignals s u ibuf mem).cfg = u.cfg := rfl

/-! One read, and two. -/

section
variable {i : Instr} {s : State} {asi : BitVec 8} {a : Word}

/-- A read that fails takes its exception at the state it leaves (R324). -/
theorem State.reading_failed {u : State} {size : AccessSize} {e : BusError} (h : s.memoryRead asi false (size == .word) a = (u, .error e))
    (k : Word → State → State) : s.reading asi size a k = raise (failTrap s.cfg e) u := by
  have hcfg : u.cfg = s.cfg := by rw [State.memoryRead_leaves h]
  rw [State.reading_error h, State.dataTrap_eq, hcfg]

theorem readFails_reading {size : AccessSize} {k : Word → State → State} (hx : exec i s = .next (s.reading asi size a k)) :
    ReadFails i s asi (size == .word) a :=
  fun _ _ h => hx.trans (congrArg Host.Outcome.next (State.reading_failed h k))

/-- Of two reads, the second is made from the state the first word's delivery leaves (R128, R329). -/
theorem readsFail_readingDouble {first second : Word → State → State} (hx : exec i s = .next (s.readingDouble asi a first second))
    (hfirst : ∀ w t, (first w t).cfg = t.cfg) : ReadFails i s asi false a ∧ SecondReadFails i s asi a first := by
  refine ⟨readFails_reading (size := .double) hx, fun u v w e h0 h1 => ?_⟩
  have hcfg : (first w u).cfg = s.cfg := by rw [hfirst, State.memoryRead_changes h0]
  rw [hx, ← hcfg]
  exact congrArg Host.Outcome.next
    ((State.reading_ok (sz := .double) h0).trans (State.reading_failed (size := .double) h1 second))

/-! One write, and two. -/

/-- A write that fails takes its exception, only the store signals having been written (R324). -/
theorem State.writing_failed {u : State} {e : BusError} (hm : ¬ s.mmuSpace asi) (hr : s.reach asi false true a = (u, .failed e))
    (size : AccessSize) (v : Word) (k : State → State) :
    s.writing asi size a v k = raise (failTrap s.cfg e) (storeSignals s u u.ibuf u.mem) := by
  unfold State.writing
  rw [State.memoryWrite_failed hm hr]
  dsimp only
  rw [State.dataTrap_eq, storeSignals_cfg, State.reach_cfg hr]

theorem writeFails_writing {size : AccessSize} {v : Word} {k : State → State} (hx : exec i s = .next (s.writing asi size a v k)) :
    WriteFails i s asi a :=
  fun _ _ hm hr => hx.trans (congrArg Host.Outcome.next (State.writing_failed hm hr size v k))

/-- Of two writes, the second is made from the state the first leaves (R128, R329). -/
theorem writesFail_writingDouble {v0 v1 : Word} {k : State → State} (hx : exec i s = .next (s.writingDouble asi a v0 v1 k)) :
    WriteFails i s asi a ∧ SecondWriteFails i s asi a v0 := by
  refine ⟨writeFails_writing hx, fun u v e hm h0 hr => ?_⟩
  have hcfg : u.cfg = s.cfg := by rw [State.memoryWrite_written h0]
  have hmu : ¬ u.mmuSpace asi := by
    unfold State.mmuSpace
    rwa [hcfg]
  rw [hx, ← hcfg]
  exact congrArg Host.Outcome.next
    ((State.writing_ok (sz := .double) h0).trans (State.writing_failed hmu hr .double v1 k))

end

/-! An atomic load-store. -/

/-- The write part that fails, the block signal asserted. -/
theorem State.memoryWrite_failed_block {block : State → Bool → State} (hb : IsBlock block) {u v : State} {asi : BitVec 8} {a : Word}
    {e : BusError} (hm : ¬ u.mmuSpace asi) (hr : u.reach asi false true a = (v, .failed e)) (b isWord : Bool) (mask : BitVec 4)
    (data : Word) :
    (block u b).memoryWrite asi isWord a mask data = (block (storeSignals u v v.ibuf v.mem) b, some e) := by
  have hrb := State.reach_block hb u b asi false true a
  rw [hr] at hrb
  have hmb : ¬ (block u b).mmuSpace asi := by rcases hb with rfl | rfl <;> exact hm
  rw [State.memoryWrite_failed hmb hrb]
  rcases hb with rfl | rfl <;> rfl

/-- Which exception a failed access is does not depend on a block signal. -/
theorem IsBlock.dataTrap {block : State → Bool → State} (hb : IsBlock block) (t : State) (b : Bool) (e : BusError) :
    (block t b).dataTrap e = failTrap t.cfg e := by
  rw [State.dataTrap_eq]
  rcases hb with rfl | rfl <;> rfl

section
variable {i : Instr} {s : State} {rd : RegNum} {asi : BitVec 8} {a : Word} (hbyte : s.pbBlockByte = false)
  (hword : s.pbBlockWord = false)
include hbyte hword

/-- An atomic access ends with the part that fails, the block signal released and r[rd] unwritten (R360, R362, U40). -/
theorem exchangeFails_atomicAccess {block : State → Bool → State} (hb : IsBlock block) {size : AccessSize} {new : Word}
    (hx : exec i s = .next (atomicAccess block size rd asi a new s)) : ExchangeFails i s asi (size == .word) a := by
  have hread := State.memoryRead_block hb s true asi false (size == .word) a
  constructor
  · intro u e h
    have hu := State.memoryRead_leaves h
    have hcfg : u.cfg = s.cfg := by rw [hu]
    have hrelease : block (block u true) false = u := hb.release (by rw [hu]; exact hbyte) (by rw [hu]; exact hword)
    rw [h] at hread
    rw [hx]
    unfold atomicAccess
    rw [hread]
    dsimp only
    rw [hb.dataTrap, hrelease, hcfg]
  · intro u v w e hm h hr
    have hu := State.memoryRead_changes h
    have hv := State.reach_after_memoryRead h hr
    have hmu : ¬ u.mmuSpace asi := by
      unfold State.mmuSpace
      rwa [hu]
    have hrelease : block (block (storeSignals u v v.ibuf v.mem) true) false = storeSignals u v v.ibuf v.mem :=
      hb.release (by rw [hv]; exact hbyte) (by rw [hv]; exact hword)
    have hcfg : (storeSignals u v v.ibuf v.mem).cfg = s.cfg := by rw [storeSignals_cfg, hv]
    rw [h] at hread
    rw [hx]
    unfold atomicAccess
    rw [hread]
    dsimp only
    rw [State.memoryWrite_failed_block hb hmu hr]
    dsimp only
    rw [hb.dataTrap, hrelease, hcfg]

/-- LDSTUB, LDSTUBA (R360). -/
theorem exchangeFails_loadStoreByte (hx : exec i s = .next (loadStoreByte rd asi a s)) : ExchangeFails i s asi false a :=
  exchangeFails_atomicAccess hbyte hword (.inl rfl) hx

/-- SWAP, SWAPA (R362). -/
theorem exchangeFails_swapWord (hx : exec i s = .next (swapWord rd asi a s)) (ha : a.toNat % 4 = 0) :
    ExchangeFails i s asi true a :=
  exchangeFails_atomicAccess hbyte hword (.inr rfl)
    (hx.trans (congrArg Host.Outcome.next (State.ifAligned_aligned ((AccessSize.aligned_word_iff a).mpr ha))))

end

/-! The loads and stores of the integer unit, ordinary and alternate-space. -/

section
variable {i : Instr} {s : State} {rd : RegNum} {asi : BitVec 8} {a : Word}

theorem readFails_loadReg {size : AccessSize} {signed : Bool} (hx : exec i s = .next (loadReg size signed rd asi a s))
    (ha : size.aligned a = true) : ReadFails i s asi (size == .word) a :=
  readFails_reading (hx.trans (congrArg Host.Outcome.next (loadReg_aligned ha signed)))

theorem writeFails_storeReg {size : AccessSize} (hx : exec i s = .next (storeReg size rd asi a s)) (ha : size.aligned a = true) :
    WriteFails i s asi a :=
  writeFails_writing (hx.trans (congrArg Host.Outcome.next (storeReg_aligned ha)))

theorem readsFail_loadRegDouble (hx : exec i s = .next (loadRegDouble rd asi a s)) (hodd : s.oddRdTraps rd = false)
    (ha : a.toNat % 8 = 0) : ReadFails i s asi false a ∧ SecondReadFails i s asi a fun w t => t.setReg (evenReg rd) w :=
  readsFail_readingDouble (hx.trans (congrArg Host.Outcome.next (loadRegDouble_aligned hodd ha))) fun _ t => t.setReg_cfg _ _

theorem writesFail_storeRegDouble (hx : exec i s = .next (storeRegDouble rd asi a s)) (hodd : s.oddRdTraps rd = false)
    (ha : a.toNat % 8 = 0) : WriteFails i s asi a ∧ SecondWriteFails i s asi a (s.reg (evenReg rd)) :=
  writesFail_writingDouble (hx.trans (congrArg Host.Outcome.next (storeRegDouble_aligned hodd ha)))

end

end Sys2Proof.Machine

open Sys2Proof Sys2Proof.Machine

/-- Settles O35: past its checks every load is one read or two, every store one write or two, and every atomic load-store a read and a
write; each ends with the first that fails. -/
theorem failedAccessesTrap : Obligations.FailedAccessesTrap := by
  unfold Obligations.FailedAccessesTrap
  intro s rd rs1 rs2 op2 asi hbyte hword
  refine ⟨⟨?_, ?_, ?_, ?_, fun ha => ?_, fun ha => ?_, fun hrd => ?_⟩,
    fun hs => ⟨?_, ?_, ?_, ?_, fun hb => ?_, fun hb => ?_, fun hrd => ?_⟩,
    fun hf => ⟨fun ha => ?_, fun hrd ha => ?_⟩,
    fun hf => ⟨fun ha => ?_, fun hrd ha => ?_, fun hs hq e rest he ha => ?_⟩,
    fun hc => ⟨fun hq => ⟨fun ha => ?_, fun ha => ?_⟩, fun ha => ?_, fun ha => ?_, fun hs hq ha => ?_⟩⟩
  -- the integer unit
  · exact readFails_loadReg (size := .byte) rfl rfl
  · exact readFails_loadReg (size := .byte) rfl rfl
  · exact writeFails_storeReg (size := .byte) rfl rfl
  · exact exchangeFails_loadStoreByte hbyte hword rfl
  · have h := (AccessSize.aligned_half_iff _).mpr ha
    exact ⟨readFails_loadReg (size := .half) rfl h, readFails_loadReg (size := .half) rfl h, writeFails_storeReg rfl h⟩
  · have h := (AccessSize.aligned_word_iff _).mpr ha
    exact ⟨readFails_loadReg (size := .word) rfl h, writeFails_storeReg rfl h, exchangeFails_swapWord hbyte hword rfl ha⟩
  · have hodd := State.oddRdTraps_false hrd
    exact ⟨fun ha => readsFail_loadRegDouble rfl hodd ha, fun ha => writesFail_storeRegDouble rfl hodd ha⟩
  -- the alternate spaces
  · exact readFails_loadReg (size := .byte) (exec_alternate rfl hs rfl) rfl
  · exact readFails_loadReg (size := .byte) (exec_alternate rfl hs rfl) rfl
  · exact writeFails_storeReg (size := .byte) (exec_alternate rfl hs rfl) rfl
  · exact exchangeFails_loadStoreByte hbyte hword (exec_alternate rfl hs rfl)
  · have h := (AccessSize.aligned_half_iff _).mpr hb
    exact ⟨readFails_loadReg (size := .half) (exec_alternate rfl hs rfl) h,
      readFails_loadReg (size := .half) (exec_alternate rfl hs rfl) h, writeFails_storeReg (exec_alternate rfl hs rfl) h⟩
  · have h := (AccessSize.aligned_word_iff _).mpr hb
    exact ⟨readFails_loadReg (size := .word) (exec_alternate rfl hs rfl) h, writeFails_storeReg (exec_alternate rfl hs rfl) h,
      exchangeFails_swapWord hbyte hword (exec_alternate rfl hs rfl) hb⟩
  · have hodd := State.oddRdTraps_false hrd
    exact ⟨fun hb => readsFail_loadRegDouble (exec_alternate rfl hs rfl) hodd hb,
      fun hb => writesFail_storeRegDouble (exec_alternate rfl hs rfl) hodd hb⟩
  -- the FPU
  · exact ⟨readFails_reading (exec_ldf hf ha), readFails_reading (exec_ldfsr hf ha)⟩
  · exact readsFail_readingDouble (exec_lddf hf ha hrd) fun _ _ => rfl
  · exact ⟨writeFails_writing (exec_stf hf ha), writeFails_writing (exec_stfsr hf ha)⟩
  · exact writesFail_writingDouble (exec_stdf hf ha hrd)
  · exact writesFail_writingDouble (exec_stdfq hf ha hs hq he)
  -- the coprocessor
  · exact ⟨readFails_reading (exec_ldc hc hq ha), readFails_reading (exec_ldcsr hc hq ha)⟩
  · exact readsFail_readingDouble (exec_lddc hc hq ha) fun _ _ => rfl
  · exact ⟨writeFails_writing (exec_stc hc ha), writeFails_writing (exec_stcsr hc ha)⟩
  · exact writesFail_writingDouble (exec_stdc hc ha)
  · exact writesFail_writingDouble (exec_stdcq hc ha hs hq)
end

section
/-! What a delivered value leaves (R24, R43), the results of the logical instructions and shifts as arithmetic (R390 to R408), and the
value that the instructions of `set` build (R306, R311). -/

namespace Sys2Proof.Machine

/-! Delivering a value. -/

/-- An instruction that writes one r register and advances delivers what it writes. -/
theorem delivers_of_exec {i : Instr} {s : State} {rd : RegNum} {v w : Word} (h : exec i s = .next (s.setReg rd w).advance)
    (hv : w = v) : Delivers i s rd v :=
  ⟨_, h, hv ▸ delivered s rd w⟩

/-- Delivering a value to r[rd] with condition codes, and advancing: what is written, what is kept. -/
theorem deliveredCc (s : State) (rd : RegNum) (v : Word) (i : Icc) :
    WritesReg s ((s.setReg rd v).setIcc i).advance s.psr.cwp rd v ∧ ((s.setReg rd v).setIcc i).advance.psr.icc = i ∧
      OnlyRegsIcc s ((s.setReg rd v).setIcc i).advance ∧ Advances s ((s.setReg rd v).setIcc i).advance := by
  refine ⟨(writesReg_setReg s rd v).congr rfl rfl rfl, rfl, ⟨?_, ?_⟩, ?_⟩
  · rw [State.setReg_eq]; rfl
  · exact KeepsMemory.of_eq (s.setReg_mem rd v)
  · exact ⟨s.setReg_npc rd v, congrArg (· + 4#32) (s.setReg_npc rd v)⟩

/-- An instruction that writes one r register and the condition codes, and advances, delivers both. -/
theorem deliversCc_of_exec {i : Instr} {s : State} {rd : RegNum} {v w : Word} {c d : Icc}
    (h : exec i s = .next ((s.setReg rd w).setIcc d).advance) (hv : w = v) (hc : d = c) : DeliversCc i s rd v c := by
  subst hv hc
  exact ⟨_, h, deliveredCc s rd w d⟩

/-! The results of logical instructions and shifts. -/

/-- icc of a logical result (R391): N is bit 31, Z says the result is zero. -/
theorem iccLogic_eq (r : Word) : iccLogic r = ⟨r.getLsbD 31, decide (r.toNat = 0), false, false⟩ := by
  have hz : (r == 0#32) = decide (r.toNat = 0) :=
    (beq_eq_decide r 0#32).trans (decide_eq_decide.mpr BitVec.toNat_eq)
  unfold iccLogic
  rw [BitVec.msb_eq_getLsbD_last, hz]

/-- A shift to the left multiplies by a power of two, modulo 2^32 (R405). -/
theorem shiftLeft_eq_ofNat (a : Word) (n : Nat) : a <<< n = BitVec.ofNat 32 (a.toNat * 2 ^ n) :=
  BitVec.eq_of_toNat_eq (by rw [BitVec.toNat_shiftLeft, BitVec.toNat_ofNat, Nat.shiftLeft_eq])

/-- A logical shift to the right divides the unsigned value by a power of two (R406). -/
theorem ushiftRight_eq_ofNat (a : Word) (n : Nat) : a >>> n = BitVec.ofNat 32 (a.toNat / 2 ^ n) := by
  rw [← Nat.shiftRight_eq_div_pow, ← BitVec.toNat_ushiftRight, BitVec.ofNat_toNat, BitVec.setWidth_eq]

/-- An arithmetic shift to the right divides the signed value by a power of two, rounding down (R407). -/
theorem sshiftRight_eq_ofInt (a : Word) (n : Nat) : a.sshiftRight n = BitVec.ofInt 32 (a.toInt / 2 ^ n) := by
  unfold BitVec.sshiftRight
  rw [Int.shiftRight_eq_div_pow, Nat.cast_pow, Nat.cast_ofNat]

/-- The shift count is below 32 (R404). -/
theorem State.shiftCount_lt (s : State) : ∀ cnt : ShiftCount, s.shiftCount cnt < 32
  | .reg r => ((s.reg r).extractLsb' 0 5).isLt
  | .imm shcnt => shcnt.isLt

/-- SETHI's value is imm22 with ten zeros after it (R408). -/
theorem sethiValue_eq_ofNat (imm22 : BitVec 22) : sethiValue imm22 = BitVec.ofNat 32 (imm22.toNat * 1024) := by
  have hval : (imm22 ++ 0#10).toNat = imm22.toNat * 1024 := by
    rw [BitVec.toNat_append, Nat.shiftLeft_eq, BitVec.toNat_ofNat, Nat.zero_mod, Nat.or_zero]
  unfold sethiValue
  rw [← hval, BitVec.ofNat_toNat, BitVec.setWidth_eq]

/-! The value `set` builds. -/

/-- %hi and %lo of a value put it together (R306). -/
theorem sethiValue_hi_or_lo (v : Word) : sethiValue (hi v) ||| (lo v).signExtend 32 = v := by
  have hwiden : (0#3 ++ v.extractLsb' 0 10).setWidth (22 + 10) = (0#3).setWidth 22 ++ (v.extractLsb' 0 10).setWidth 10 :=
    BitVec.setWidth_append_of_eq rfl
  have hlo : (lo v).signExtend 32 = 0#22 ++ v.extractLsb' 0 10 := by
    unfold lo
    rw [BitVec.signExtend_eq_setWidth_of_msb_false (by rw [BitVec.msb_append]; rfl)]
    rwa [BitVec.setWidth_eq] at hwiden
  have hjoin : v.extractLsb' 10 22 ++ v.extractLsb' 0 10 = v.extractLsb' 0 32 :=
    BitVec.extractLsb'_append_extractLsb'_eq_extractLsb' rfl
  unfold sethiValue hi
  rw [hlo, BitVec.or_append, BitVec.or_zero, BitVec.zero_or, hjoin, BitVec.extractLsb'_eq_self]

/-- Where the low thirteen bits are zero, so is %lo (R306, R311). -/
theorem lo_eq_zero {v : Word} (h : v &&& 0x1FFF#32 = 0#32) : lo v = 0#13 := by
  have hlow : v.extractLsb' 0 10 = (v &&& 0x1FFF#32).extractLsb' 0 10 := by
    rw [BitVec.extractLsb'_and]
    exact (BitVec.and_allOnes (x := v.extractLsb' 0 10)).symm
  unfold lo
  rw [hlow, h]
  rfl

/-- Where the low thirteen bits are zero, SETHI alone builds the value (R311). -/
theorem sethiValue_hi {v : Word} (h : v &&& 0x1FFF#32 = 0#32) : sethiValue (hi v) = v := by
  have hzero : (0#13).signExtend 32 = 0#32 := by decide
  have hv := sethiValue_hi_or_lo v
  rwa [lo_eq_zero h, hzero, BitVec.or_zero] at hv

/-! Instructions, by the operation each is. -/

section
variable {i : Instr} {s : State} {f : Word → Word → Word} {rd rs1 : RegNum} {op2 : Operand2} {r : Word}

/-- A logical instruction delivers its operation's result (R390). -/
theorem delivers_logical (h : exec i s = .next (logical f rd rs1 op2 s)) (hr : f (s.reg rs1) (s.operand2 op2) = r) :
    Delivers i s rd r :=
  delivers_of_exec h hr

/-- Its cc form delivers the result's N and Z too, and clears V and C (R391). -/
theorem deliversCc_logicalCc (h : exec i s = .next (logicalCc f rd rs1 op2 s))
    (hr : f (s.reg rs1) (s.operand2 op2) = r) :
    DeliversCc i s rd r ⟨r.getLsbD 31, decide (r.toNat = 0), false, false⟩ :=
  deliversCc_of_exec h hr ((congrArg iccLogic hr).trans (iccLogic_eq r))

/-- A shift delivers r[rs1] shifted by the count (R404). -/
theorem delivers_shift {g : Word → Nat → Word} {cnt : ShiftCount} (h : exec i s = .next (shift g rd rs1 cnt s))
    (hr : g (s.reg rs1) (s.shiftCount cnt) = r) : Delivers i s rd r :=
  delivers_of_exec h hr

end

/-- SETHI delivers its value (R408). -/
theorem delivers_sethi (s : State) (rd : RegNum) (imm22 : BitVec 22) : Delivers (.sethi rd imm22) s rd (sethiValue imm22) :=
  delivers_of_exec rfl rfl

/-- OR delivers the disjunction (R396). -/
theorem delivers_or (s : State) (rd rs1 : RegNum) (op2 : Operand2) :
    Delivers (.or rd rs1 op2) s rd (s.reg rs1 ||| s.operand2 op2) :=
  delivers_logical (f := fun a b => a ||| b) rfl rfl

/-! Instructions one after the other, all writing one register. -/

/-- Which value goes to r[0] does not matter (R24). -/
theorem WritesReg.of_value {s t : State} {w : BitVec 5} {n : RegNum} {v v' : Word} (h : WritesReg s t w n v)
    (hv : n ≠ 0#5 → v = v') : WritesReg s t w n v' :=
  ⟨h.written.trans (ite_congr rfl (fun _ => rfl) hv), h.others⟩

/-- The last of two writes of a register stands. -/
theorem WritesReg.trans {s t u : State} {w : BitVec 5} {n : RegNum} {v v' : Word} (h : WritesReg s t w n v)
    (h' : WritesReg t u w n v') (hc : t.cfg = s.cfg) : WritesReg s u w n v' :=
  ⟨h'.written, fun w' n' hn => (h'.others w' n' (hc ▸ hn)).trans (h.others w' n' hn)⟩

theorem OnlyRegs.cfg {s t : State} (h : OnlyRegs s t) : t.cfg = s.cfg := by rw [h.state]

theorem OnlyRegs.psr {s t : State} (h : OnlyRegs s t) : t.psr = s.psr := by rw [h.state]

theorem OnlyRegs.trans {s t u : State} (h : OnlyRegs s t) (h' : OnlyRegs t u) : OnlyRegs s u :=
  ⟨h'.state.trans (by rw [h.state]), fun k => (h'.memory k).trans (h.memory k)⟩

/-- The instructions of `l`, executed one after the other from `s`, leave `v` in r[rd] and change nothing else but the program counters. -/
def ListDelivers (l : List Instr) (s : State) (rd : RegNum) (v : Word) : Prop :=
  ∃ t, execList l s = some t ∧ WritesReg s t s.psr.cwp rd v ∧ OnlyRegs s t

theorem listDelivers_singleton {i : Instr} {s : State} {rd : RegNum} {v : Word} (h : Delivers i s rd v) :
    ListDelivers [i] s rd v := by
  obtain ⟨t, hx, hw, ho, -⟩ := h
  exact ⟨t, by unfold execList; rw [hx]; rfl, hw, ho⟩

/-- What follows a delivery to r[rd] starts from the value delivered, and its own delivery to r[rd] stands. -/
theorem listDelivers_cons {i : Instr} {l : List Instr} {s : State} {rd : RegNum} {v w : Word} (h : Delivers i s rd v)
    (hl : ∀ t : State, (rd ≠ 0#5 → t.reg rd = v) → ListDelivers l t rd w) : ListDelivers (i :: l) s rd w := by
  obtain ⟨t, hx, hw, ho, -⟩ := h
  have hreg (h0 : rd ≠ 0#5) : t.reg rd = v := by
    unfold State.reg
    rw [ho.psr, hw.written, if_neg h0]
  obtain ⟨u, hu, hw', ho'⟩ := hl t hreg
  rw [ho.psr] at hw'
  exact ⟨u, by unfold execList; rw [hx]; exact hu, hw.trans hw' ho.cfg, ho.trans ho'⟩

/-- OR of %lo completes the value whose %hi is in r[rd] (R306, R311). -/
theorem delivers_or_lo {s : State} {rd : RegNum} {v : Word} (h : rd ≠ 0#5 → s.reg rd = sethiValue (hi v)) :
    Delivers (.or rd rd (.imm (lo v))) s rd v := by
  obtain ⟨t, hx, hw, hkeep⟩ := delivers_or s rd rd (.imm (lo v))
  refine ⟨t, hx, hw.of_value fun h0 => ?_, hkeep⟩
  rw [h h0]
  exact sethiValue_hi_or_lo v

/-- `set` delivers its value, whichever sequence it stands for (R311). -/
theorem listDelivers_setExpansion (s : State) (v : Word) (rd : RegNum) : ListDelivers (setExpansion v rd) s rd v := by
  unfold setExpansion
  split
  next hhigh =>
    have h := delivers_sethi s rd (hi v)
    rw [sethiValue_hi hhigh] at h
    exact listDelivers_singleton h
  next =>
    split
    next hsmall =>
      have hor : s.reg 0#5 ||| s.operand2 (.imm (v.extractLsb' 0 13)) = v := by
        rw [State.reg_zero, BitVec.zero_or]
        exact hsmall
      have h := delivers_or s rd 0#5 (.imm (v.extractLsb' 0 13))
      rw [hor] at h
      exact listDelivers_singleton h
    next =>
      exact listDelivers_cons (delivers_sethi s rd (hi v)) fun _ hreg => listDelivers_singleton (delivers_or_lo hreg)

end Sys2Proof.Machine

open Sys2Proof Sys2Proof.Machine

/-- Settles O22: each is `logical` or `logicalCc` of its operation; XNOR's, a xor not b, is not (a xor b). -/
theorem logicalResults : Obligations.LogicalResults := by
  unfold Obligations.LogicalResults
  intro s rd rs1 op2
  exact ⟨delivers_logical rfl rfl, delivers_logical rfl rfl, delivers_logical rfl rfl, delivers_logical rfl rfl,
    delivers_logical rfl rfl, delivers_logical rfl BitVec.not_xor_right.symm,
    deliversCc_logicalCc rfl rfl, deliversCc_logicalCc rfl rfl, deliversCc_logicalCc rfl rfl, deliversCc_logicalCc rfl rfl,
    deliversCc_logicalCc rfl rfl, deliversCc_logicalCc rfl BitVec.not_xor_right.symm⟩

/-- Settles O23: shifts and SETHI as arithmetic, and the three sequences of `set`. -/
theorem shiftSethiNopSetResults : Obligations.ShiftSethiNopSetResults := by
  unfold Obligations.ShiftSethiNopSetResults
  refine ⟨fun s rd rs1 cnt => ⟨s.shiftCount_lt cnt, ?_, ?_, ?_⟩, fun s rd imm22 => ?_, fun s => rfl,
    fun s value rd => listDelivers_setExpansion s value rd⟩
  · exact delivers_shift rfl (shiftLeft_eq_ofNat _ _)
  · exact delivers_shift rfl (ushiftRight_eq_ofNat _ _)
  · exact delivers_shift rfl (sshiftRight_eq_ofInt _ _)
  · exact delivers_of_exec rfl (sethiValue_eq_ofNat imm22)
end

section
/-! What the arithmetic instructions compute (R420 to R448), in the integers: the condition codes of sums and differences, the shifts of
MULScc, the products, the bounded quotients. -/

namespace Sys2Proof.Machine

/-! The sign bits as comparisons of unsigned values. -/

theorem word_msb_iff (a : Word) : a.msb = true ↔ 2 ^ 31 ≤ a.toNat := by rw [BitVec.msb_eq_decide, decide_eq_true_iff]

theorem word_toInt_eq (a : Word) : a.toInt = if 2 ^ 31 ≤ a.toNat then (a.toNat : Int) - (2 ^ 32 : Nat) else (a.toNat : Int) := by
  rw [BitVec.toInt_eq_msb_cond]
  exact if_congr (word_msb_iff a) rfl rfl

theorem word_beq_zero (a : Word) : (a == 0#32) = decide (a.toNat = 0) :=
  (beq_eq_decide a 0#32).trans (decide_eq_decide.mpr BitVec.toNat_eq)

section
variable (a b r : Word)

/-- Two operands of one sign, and a result of the other (R421). -/
theorem addOverflow_iff : addOverflow a b r = true ↔
    (2 ^ 31 ≤ a.toNat ∧ 2 ^ 31 ≤ b.toNat ∧ r.toNat < 2 ^ 31) ∨ (a.toNat < 2 ^ 31 ∧ b.toNat < 2 ^ 31 ∧ 2 ^ 31 ≤ r.toNat) := by
  simp only [addOverflow, Bool.or_eq_true, Bool.and_eq_true, Bool.not_eq_true', ← Bool.not_eq_true, word_msb_iff, not_le, and_assoc]

theorem addCarry_iff : addCarry a b r = true ↔
    (2 ^ 31 ≤ a.toNat ∧ 2 ^ 31 ≤ b.toNat) ∨ (r.toNat < 2 ^ 31 ∧ (2 ^ 31 ≤ a.toNat ∨ 2 ^ 31 ≤ b.toNat)) := by
  simp only [addCarry, Bool.or_eq_true, Bool.and_eq_true, Bool.not_eq_true', ← Bool.not_eq_true, word_msb_iff, not_le]

/-- Operands of different signs, and a result that has not the first one's (R422). -/
theorem subOverflow_iff : subOverflow a b r = true ↔
    (2 ^ 31 ≤ a.toNat ∧ b.toNat < 2 ^ 31 ∧ r.toNat < 2 ^ 31) ∨ (a.toNat < 2 ^ 31 ∧ 2 ^ 31 ≤ b.toNat ∧ 2 ^ 31 ≤ r.toNat) := by
  simp only [subOverflow, Bool.or_eq_true, Bool.and_eq_true, Bool.not_eq_true', ← Bool.not_eq_true, word_msb_iff, not_le, and_assoc]

theorem subBorrow_iff : subBorrow a b r = true ↔
    (a.toNat < 2 ^ 31 ∧ 2 ^ 31 ≤ b.toNat) ∨ (2 ^ 31 ≤ r.toNat ∧ (a.toNat < 2 ^ 31 ∨ 2 ^ 31 ≤ b.toNat)) := by
  simp only [subBorrow, Bool.or_eq_true, Bool.and_eq_true, Bool.not_eq_true', ← Bool.not_eq_true, word_msb_iff, not_le]

end

/-! Sums and differences with a carry. -/

section
variable {a b : Word} {c : Nat}

theorem add_carry_eq_ofNat : a + b + BitVec.ofNat 32 c = BitVec.ofNat 32 (a.toNat + b.toNat + c) := by
  rw [BitVec.ofNat_add, BitVec.ofNat_add, BitVec.ofNat_toNat, BitVec.ofNat_toNat, BitVec.setWidth_eq, BitVec.setWidth_eq]

theorem sub_carry_eq_ofInt : a - b - BitVec.ofNat 32 c = BitVec.ofInt 32 (a.toInt - b.toInt - c) := by
  rw [Int.sub_eq_add_neg, Int.sub_eq_add_neg, BitVec.ofInt_add, BitVec.ofInt_add, BitVec.ofInt_neg, BitVec.ofInt_neg,
    BitVec.ofInt_toInt, BitVec.ofInt_toInt, BitVec.ofInt_natCast, BitVec.sub_eq_add_neg, BitVec.sub_eq_add_neg]

theorem toNat_ofInt_sub_carry (hc : c ≤ 1) :
    (BitVec.ofInt 32 (a.toInt - b.toInt - c)).toNat = (2 ^ 33 + a.toNat - b.toNat - c) % 2 ^ 32 := by
  rw [← sub_carry_eq_ofInt, BitVec.toNat_sub, BitVec.toNat_sub, BitVec.toNat_ofNat]
  omega

/-- icc of an addition with carry: R421's formulas say that the sum is not the exact signed one, and does not fit unsigned. -/
theorem iccAdd_eq_sumIcc (hc : c ≤ 1) {r : Word} (h : BitVec.ofNat 32 (a.toNat + b.toNat + c) = r) :
    iccAdd a b r = sumIcc a b c r := by
  have hr : r.toNat = (a.toNat + b.toNat + c) % 2 ^ 32 := by rw [← h, BitVec.toNat_ofNat]
  have hv : addOverflow a b r = decide (a.toInt + b.toInt + c ≠ r.toInt) := by
    rw [Bool.eq_iff_iff, addOverflow_iff, decide_eq_true_iff, word_toInt_eq, word_toInt_eq, word_toInt_eq]
    omega
  have hcarry : addCarry a b r = decide (2 ^ 32 ≤ a.toNat + b.toNat + c) := by
    rw [Bool.eq_iff_iff, addCarry_iff, decide_eq_true_iff]
    omega
  unfold iccAdd sumIcc
  rw [hv, hcarry, BitVec.msb_eq_getLsbD_last, word_beq_zero]

/-- icc of a subtraction with carry: R422's formulas say that the difference is not the exact signed one, and borrows. -/
theorem iccSub_eq_differenceIcc (hc : c ≤ 1) {r : Word} (h : BitVec.ofInt 32 (a.toInt - b.toInt - c) = r) :
    iccSub a b r = differenceIcc a b c r := by
  have hr : r.toNat = (2 ^ 33 + a.toNat - b.toNat - c) % 2 ^ 32 := by rw [← h, toNat_ofInt_sub_carry hc]
  have hv : subOverflow a b r = decide (a.toInt - b.toInt - c ≠ r.toInt) := by
    rw [Bool.eq_iff_iff, subOverflow_iff, decide_eq_true_iff, word_toInt_eq, word_toInt_eq, word_toInt_eq]
    omega
  have hborrow : subBorrow a b r = decide (a.toNat < b.toNat + c) := by
    rw [Bool.eq_iff_iff, subBorrow_iff, decide_eq_true_iff]
    omega
  unfold iccSub differenceIcc
  rw [hv, hborrow, BitVec.msb_eq_getLsbD_last, word_beq_zero]

theorem add_eq_ofNat : a + b = BitVec.ofNat 32 (a.toNat + b.toNat + 0) := by
  rw [← add_carry_eq_ofNat, BitVec.add_zero]

theorem sub_eq_ofInt : a - b = BitVec.ofInt 32 (a.toInt - b.toInt - (0 : Nat)) := by
  rw [← sub_carry_eq_ofInt, BitVec.sub_zero]

theorem iccAdd_add : iccAdd a b (a + b) = sumIcc a b 0 (a + b) :=
  iccAdd_eq_sumIcc zero_le_one add_eq_ofNat.symm

theorem iccSub_sub : iccSub a b (a - b) = differenceIcc a b 0 (a - b) :=
  iccSub_eq_differenceIcc zero_le_one sub_eq_ofInt.symm

end

/-- The carry bit as a number (R425, R432). -/
def State.carry (s : State) : Nat := if s.psr.icc.c then 1 else 0

theorem State.carry_le_one (s : State) : s.carry ≤ 1 := by
  unfold State.carry
  split <;> decide

theorem State.carryWord_eq (s : State) : s.carryWord = BitVec.ofNat 32 s.carry := by
  unfold State.carryWord State.carry
  split <;> rfl

/-! Tags (R429). -/

/-- A tag is the value modulo four. -/
theorem tag_bne_zero (a : Word) : (a.extractLsb' 0 2 != 0#2) = decide (a.toNat % 4 ≠ 0) := by
  rw [Bool.eq_iff_iff, bne_iff_ne, decide_eq_true_iff, ne_eq, ← BitVec.toNat_inj, BitVec.extractLsb'_toNat]
  rfl

theorem tagged_eq (a b : Word) : tagged a b = (decide (a.toNat % 4 ≠ 0) || decide (b.toNat % 4 ≠ 0)) := by
  unfold tagged
  rw [tag_bne_zero, tag_bne_zero]

theorem tagAddOverflow_eq (a b : Word) : tagAddOverflow a b =
    ((sumIcc a b 0 (a + b)).v || (decide (a.toNat % 4 ≠ 0) || decide (b.toNat % 4 ≠ 0))) := by
  unfold tagAddOverflow
  rw [tagged_eq, ← iccAdd_add]
  rfl

theorem tagSubOverflow_eq (a b : Word) : tagSubOverflow a b =
    ((differenceIcc a b 0 (a - b)).v || (decide (a.toNat % 4 ≠ 0) || decide (b.toNat % 4 ≠ 0))) := by
  unfold tagSubOverflow
  rw [tagged_eq, ← iccSub_sub]
  rfl

/-- icc of a tagged addition is that of the addition, but for V (R429). -/
theorem iccTagAdd_eq {a b : Word} {v : Bool} (hv : tagAddOverflow a b = v) :
    iccTagAdd a b (a + b) = { sumIcc a b 0 (a + b) with v := v } := by
  unfold iccTagAdd
  rw [hv, iccAdd_add]

theorem iccTagSub_eq {a b : Word} {v : Bool} (hv : tagSubOverflow a b = v) :
    iccTagSub a b (a - b) = { differenceIcc a b 0 (a - b) with v := v } := by
  unfold iccTagSub
  rw [hv, iccSub_sub]

/-! Additions and subtractions, by the operation each is. -/

section
variable {i : Instr} {s : State} {f : Word → Word → Word} {icc : Word → Word → Word → Icc} {rd rs1 : RegNum} {op2 : Operand2}
  {r : Word} {d : Icc}

/-- An arithmetic instruction delivers its operation's result (R420). -/
theorem delivers_arith (h : exec i s = .next (arith f rd rs1 op2 s)) (hr : f (s.reg rs1) (s.operand2 op2) = r) :
    Delivers i s rd r :=
  delivers_of_exec h hr

/-- Its cc form delivers the condition codes of the operands and the result too. -/
theorem deliversCc_arithCc (h : exec i s = .next (arithCc f icc rd rs1 op2 s)) (hr : f (s.reg rs1) (s.operand2 op2) = r)
    (hicc : icc (s.reg rs1) (s.operand2 op2) r = d) : DeliversCc i s rd r d := by
  subst hr
  exact deliversCc_of_exec h rfl hicc

/-- A tagged instruction that may trap is its cc form where there is no tag overflow (R428, R435). -/
theorem deliversCc_arithTrap {overflow : Word → Word → Bool} (h : exec i s = .next (arithTrap f icc overflow rd rs1 op2 s))
    (ho : overflow (s.reg rs1) (s.operand2 op2) = false) (hr : f (s.reg rs1) (s.operand2 op2) = r)
    (hicc : icc (s.reg rs1) (s.operand2 op2) r = d) : DeliversCc i s rd r d :=
  deliversCc_arithCc (h.trans (congrArg _ (if_neg (Bool.eq_false_iff.mp ho)))) hr hicc

/-- With a tag overflow it traps (R428, R435). -/
theorem traps_arithTrap {overflow : Word → Word → Bool} (h : exec i s = .next (arithTrap f icc overflow rd rs1 op2 s))
    (ho : overflow (s.reg rs1) (s.operand2 op2) = true) : Traps i s .tagOverflow :=
  h.trans (congrArg _ (if_pos ho))

end

/-! One bit entering at the left (R436). -/

/-- A word shifted right by one bit, `b` entering: half the value, and 2^31 for the bit. -/
theorem shiftIn_eq_ofNat (b : Bool) (a : Word) :
    (BitVec.ofBool b ++ a.extractLsb' 1 31 : Word) = BitVec.ofNat 32 (a.toNat / 2 + (if b then 2 ^ 31 else 0)) := by
  have hlow : (a.extractLsb' 1 31).toNat = a.toNat / 2 := by
    rw [BitVec.extractLsb'_toNat, Nat.shiftRight_eq_div_pow, pow_one]
    omega
  have hhigh : (BitVec.ofBool b).toNat <<< 31 = if b then 2 ^ 31 else 0 := by cases b <;> rfl
  have hvalue : (BitVec.ofBool b ++ a.extractLsb' 1 31 : Word).toNat = a.toNat / 2 + (if b then 2 ^ 31 else 0) := by
    refine (BitVec.toNat_append _ _).trans ?_
    rw [← Nat.shiftLeft_add_eq_or_of_lt (BitVec.isLt _), hhigh, hlow, Nat.add_comm]
  rw [← hvalue, BitVec.ofNat_toNat, BitVec.setWidth_eq]

theorem mulsccOperand1_eq (i : Icc) (a : Word) :
    mulsccOperand1 i a = BitVec.ofNat 32 (a.toNat / 2 + (if i.n ^^ i.v then 2 ^ 31 else 0)) :=
  shiftIn_eq_ofNat _ a

theorem mulsccY_eq (y a : Word) :
    mulsccY y a = BitVec.ofNat 32 (y.toNat / 2 + (if a.getLsbD 0 then 2 ^ 31 else 0)) := by
  have hbit : a.extractLsb' 0 1 = BitVec.ofBool (a.getLsbD 0) := by
    ext k hk
    obtain rfl := Nat.lt_one_iff.mp hk
    simp
  unfold mulsccY
  rw [hbit, shiftIn_eq_ofNat]

/-! The exact products (R438, R439). -/

theorem umulProduct_eq (a b : Word) : umulProduct a b = BitVec.ofNat 64 (a.toNat * b.toNat) := by
  rw [BitVec.ofNat_mul, BitVec.ofNat_toNat, BitVec.ofNat_toNat]
  rfl

theorem smulProduct_eq (a b : Word) : smulProduct a b = BitVec.ofInt 64 (a.toInt * b.toInt) :=
  (BitVec.ofInt_mul _ _).symm

/-- icc of a product is that of its low word (R437). -/
theorem iccLogic_low (p : BitVec 64) :
    iccLogic (p.extractLsb' 0 32) = ⟨p.getLsbD 31, decide (p.toNat % 2 ^ 32 = 0), false, false⟩ := by
  rw [iccLogic_eq, BitVec.getLsbD_extractLsb', BitVec.extractLsb'_toNat]
  rfl

/-! The bounded quotients (R442 to R446). -/

theorem udivQuotient_result (c : Config) (y a b : Word) : (udivQuotient c y a b).result =
    BitVec.ofNat 32 (min ((y ++ a : BitVec 64).toNat / b.toNat) (2 ^ 32 - 1)) := by
  unfold udivQuotient
  dsimp only
  split
  next h => rw [Nat.min_eq_right (by omega)]; rfl
  next h => rw [Nat.min_eq_left (by omega)]

theorem sdivQuotient_result (c : Config) (y a b : Word) : (sdivQuotient c y a b).result =
    BitVec.ofInt 32 (max (min ((y ++ a : BitVec 64).toInt.tdiv b.toInt) (2 ^ 31 - 1)) (-2 ^ 31)) := by
  unfold sdivQuotient
  dsimp only
  split
  next hhigh => rw [min_eq_right (by omega)]; rfl
  next hhigh =>
    split
    next hlow => rw [min_eq_left (by omega), max_eq_right (by omega)]; rfl
    next hlow => rw [min_eq_left (by omega), max_eq_left (by omega)]

theorem iccDiv_eq (r : Word) (v : Bool) : iccDiv r v = ⟨r.getLsbD 31, decide (r.toNat = 0), v, false⟩ := by
  unfold iccDiv
  rw [BitVec.msb_eq_getLsbD_last, word_beq_zero]

/-! Delivering a value with Y and the condition codes. -/

/-- `i` completes at `s`, delivering `v` to r[rd], `y` to Y and `icc`, and changing nothing else but the program counters, which advance. -/
def DeliversCcY (i : Instr) (s : State) (rd : RegNum) (v y : Word) (icc : Icc) : Prop :=
  Completes i s fun t =>
    WritesReg s t s.psr.cwp rd v ∧ t.y = y ∧ t.psr.icc = icc ∧ OnlyRegsIccY s t ∧ Advances s t

/-- A divide writes Y with what it holds, or with the remainder (R442). -/
theorem State.setReg_divideY (s : State) (rd : RegNum) (v : Word) (q : Quotient) :
    (s.setReg rd v).divideY q = (s.setReg rd v).setY (if s.cfg.divYRemainder then q.remainder else s.y) := by
  unfold State.divideY
  rw [s.setReg_cfg]
  split
  · rfl
  · rw [← s.setReg_y rd v]
    rfl

/-! Multiplies and divides, by the operation each is. -/

section
variable {i : Instr} {s : State} {rd rs1 : RegNum} {op2 : Operand2} {v w y z : Word} {c d : Icc}

/-- An instruction that writes one r register, Y and the condition codes, and advances, delivers them. -/
theorem deliversCcY_of_exec (h : exec i s = .next (((s.setReg rd w).setY z).setIcc d).advance) (hv : w = v) (hy : z = y)
    (hc : d = c) : DeliversCcY i s rd v y c := by
  subst hv hy hc
  refine ⟨_, h, (writesReg_setReg s rd w).congr rfl rfl rfl, rfl, rfl, ⟨?_, ?_⟩, ?_⟩
  · rw [State.setReg_eq]; rfl
  · exact KeepsMemory.of_eq (s.setReg_mem rd w)
  · exact ⟨s.setReg_npc rd w, congrArg (· + 4#32) (s.setReg_npc rd w)⟩

/-- One that leaves the condition codes delivers those of before. -/
theorem deliversCcY_of_exec_keep (h : exec i s = .next ((s.setReg rd w).setY z).advance) (hv : w = v) (hy : z = y) :
    DeliversCcY i s rd v y s.psr.icc := by
  refine deliversCcY_of_exec (h.trans ?_) hv hy rfl
  rw [← s.setReg_psr rd w]
  rfl

variable {product : Word → Word → BitVec 64} {p : BitVec 64}

/-- A multiply delivers the halves of its product (R437). -/
theorem deliversCcY_multiply (h : exec i s = .next (multiply product rd rs1 op2 s))
    (hp : product (s.reg rs1) (s.operand2 op2) = p) :
    DeliversCcY i s rd (p.extractLsb' 0 32) (p.extractLsb' 32 32) s.psr.icc := by
  subst hp
  exact deliversCcY_of_exec_keep h rfl rfl

theorem deliversCcY_multiplyCc (h : exec i s = .next (multiplyCc product rd rs1 op2 s))
    (hp : product (s.reg rs1) (s.operand2 op2) = p) :
    DeliversCcY i s rd (p.extractLsb' 0 32) (p.extractLsb' 32 32)
      ⟨p.getLsbD 31, decide (p.toNat % 2 ^ 32 = 0), false, false⟩ := by
  subst hp
  exact deliversCcY_of_exec h rfl rfl (iccLogic_low _)

variable {quotient : Config → Word → Word → Word → Quotient} {q : Quotient}

/-- A divide by a nonzero divisor delivers its quotient, and to Y the remainder or what Y held (R442). -/
theorem deliversCcY_divide (h : exec i s = .next (divide quotient rd rs1 op2 s)) (hb : s.operand2 op2 ≠ 0#32)
    (hq : quotient s.cfg s.y (s.reg rs1) (s.operand2 op2) = q) :
    DeliversCcY i s rd q.result (if s.cfg.divYRemainder then q.remainder else s.y) s.psr.icc := by
  have hdivide : divide quotient rd rs1 op2 s = ((s.setReg rd q.result).divideY q).advance := hq ▸ if_neg hb
  rw [hdivide, State.setReg_divideY] at h
  exact deliversCcY_of_exec_keep h rfl rfl

theorem deliversCcY_divideCc (h : exec i s = .next (divideCc quotient rd rs1 op2 s)) (hb : s.operand2 op2 ≠ 0#32)
    (hq : quotient s.cfg s.y (s.reg rs1) (s.operand2 op2) = q) :
    DeliversCcY i s rd q.result (if s.cfg.divYRemainder then q.remainder else s.y)
      ⟨q.result.getLsbD 31, decide (q.result.toNat = 0), q.overflow, false⟩ := by
  have hdivide : divideCc quotient rd rs1 op2 s =
      (((s.setReg rd q.result).divideY q).setIcc (iccDiv q.result q.overflow)).advance := hq ▸ if_neg hb
  rw [hdivide, State.setReg_divideY] at h
  exact deliversCcY_of_exec h rfl rfl (iccDiv_eq _ _)

/-- A zero divisor takes division_by_zero (R442). -/
theorem traps_divide (h : exec i s = .next (divide quotient rd rs1 op2 s)) (hb : s.operand2 op2 = 0#32) :
    Traps i s .divisionByZero :=
  h.trans (congrArg _ (if_pos hb))

theorem traps_divideCc (h : exec i s = .next (divideCc quotient rd rs1 op2 s)) (hb : s.operand2 op2 = 0#32) :
    Traps i s .divisionByZero :=
  h.trans (congrArg _ (if_pos hb))

end

/-! SAVE and RESTORE (R447, R448). -/

/-- To a valid window: CWP becomes it, and the sum goes to its r[rd]. -/
theorem completes_changeWindow {i : Instr} {s : State} {w : BitVec 5} {e : Trap} {rd rs1 : RegNum} {op2 : Operand2}
    (h : exec i s = .next (changeWindow w e rd rs1 op2 s)) (hw : s.windowInvalid w = false) :
    Completes i s fun t =>
      t = { s with globals := t.globals, windows := t.windows, pc := s.npc, npc := s.npc + 4#32,
                   psr := { s.psr with cwp := w } } ∧
      WritesReg s t w rd (s.reg rs1 + s.operand2 op2) ∧ KeepsMemory s t := by
  have hchange : changeWindow w e rd rs1 op2 s = ((s.setCwp w).setReg rd (s.reg rs1 + s.operand2 op2)).advance :=
    if_neg (Bool.eq_false_iff.mp hw)
  refine ⟨_, h.trans (congrArg _ hchange), ?_, ?_, ?_⟩
  · rw [State.setReg_eq]; rfl
  · obtain ⟨hwritten, hothers⟩ := writesReg_setReg (s.setCwp w) rd (s.reg rs1 + s.operand2 op2)
    exact ⟨hwritten, hothers⟩
  · exact KeepsMemory.of_eq (State.setReg_mem _ rd _)

/-- To an invalid one: the trap. -/
theorem traps_changeWindow {i : Instr} {s : State} {w : BitVec 5} {e : Trap} {rd rs1 : RegNum} {op2 : Operand2}
    (h : exec i s = .next (changeWindow w e rd rs1 op2 s)) (hw : s.windowInvalid w = true) : Traps i s e :=
  h.trans (congrArg _ (if_pos hw))

end Sys2Proof.Machine

open Sys2Proof Sys2Proof.Machine

/-- Settles O24: each operation is its exact result modulo 2^32, and R421's and R422's formulas are the codes of that result. -/
theorem addSubtractResults : Obligations.AddSubtractResults := by
  unfold Obligations.AddSubtractResults
  intro s rd rs1 op2 a b c sum difference
  have hsum : a + b + s.carryWord = sum c := (congrArg (a + b + ·) s.carryWord_eq).trans add_carry_eq_ofNat
  have hdifference : a - b - s.carryWord = difference c := (congrArg (a - b - ·) s.carryWord_eq).trans sub_carry_eq_ofInt
  exact ⟨delivers_arith rfl add_eq_ofNat, delivers_arith rfl hsum, delivers_arith rfl sub_eq_ofInt,
    delivers_arith rfl hdifference, deliversCc_arithCc rfl add_eq_ofNat (iccAdd_eq_sumIcc zero_le_one rfl),
    deliversCc_arithCc rfl hsum (iccAdd_eq_sumIcc s.carry_le_one rfl),
    deliversCc_arithCc rfl sub_eq_ofInt (iccSub_eq_differenceIcc zero_le_one rfl),
    deliversCc_arithCc rfl hdifference (iccSub_eq_differenceIcc s.carry_le_one rfl)⟩

/-- Settles O25: temp_v of R429 is V of the sum or difference or a nonzero tag, and decides the TV forms. -/
theorem taggedArithmetic : Obligations.TaggedArithmetic := by
  unfold Obligations.TaggedArithmetic
  intro s rd rs1 op2 a b tag plus minus
  have hplus : tagAddOverflow a b = (plus.v || tag) := tagAddOverflow_eq a b
  have hminus : tagSubOverflow a b = (minus.v || tag) := tagSubOverflow_eq a b
  rw [← hplus, ← hminus]
  exact ⟨deliversCc_arithCc rfl rfl (iccTagAdd_eq rfl), deliversCc_arithCc rfl rfl (iccTagSub_eq rfl),
    fun hv => deliversCc_arithTrap rfl hv rfl (iccTagAdd_eq hv), fun hv => traps_arithTrap rfl hv,
    fun hv => deliversCc_arithTrap rfl hv rfl (iccTagSub_eq hv), fun hv => traps_arithTrap rfl hv⟩

/-- Settles O26: MULScc's operands and Y are one-bit shifts, and the products are exact in 64 bits. -/
theorem multiplyResults : Obligations.MultiplyResults := by
  unfold Obligations.MultiplyResults
  refine ⟨fun s rd rs1 op2 => ?_, fun s rd rs1 op2 => ⟨?_, ?_, ?_, ?_⟩⟩
  · intro a b
    have ha : mulsccOperand1 s.psr.icc (s.reg rs1) = a := mulsccOperand1_eq _ _
    rw [← ha]
    exact deliversCcY_of_exec rfl rfl (mulsccY_eq _ _) iccAdd_add
  · exact deliversCcY_multiply rfl (umulProduct_eq _ _)
  · exact deliversCcY_multiply rfl (smulProduct_eq _ _)
  · exact deliversCcY_multiplyCc rfl (umulProduct_eq _ _)
  · exact deliversCcY_multiplyCc rfl (smulProduct_eq _ _)

/-- Settles O27: the quotients are those of the integers, bounded; the zero divisor is tested first. -/
theorem divideResults : Obligations.DivideResults := by
  unfold Obligations.DivideResults
  intro s rd rs1 op2 n b uq ur uv sq sr sv uy sy done icc
  have hur : (udivQuotient s.cfg s.y (s.reg rs1) b).result = ur := udivQuotient_result ..
  have hsr : (sdivQuotient s.cfg s.y (s.reg rs1) b).result = sr := sdivQuotient_result ..
  rw [← hur, ← hsr]
  exact ⟨fun hb => ⟨deliversCcY_divide rfl hb rfl, deliversCcY_divide rfl hb rfl, deliversCcY_divideCc rfl hb rfl,
      deliversCcY_divideCc rfl hb rfl⟩,
    fun hb => ⟨traps_divide rfl hb, traps_divide rfl hb, traps_divideCc rfl hb, traps_divideCc rfl hb⟩⟩

/-- Settles O28: both are `changeWindow` of the window before or after. -/
theorem saveAndRestore : Obligations.SaveAndRestore := by
  unfold Obligations.SaveAndRestore
  intro s rd rs1 op2 done up down
  exact ⟨fun hw => completes_changeWindow rfl hw, fun hw => traps_changeWindow rfl hw,
    fun hw => completes_changeWindow rfl hw, fun hw => traps_changeWindow rfl hw⟩
end

section
/-! Control transfer (R470 to R491): the targets as arithmetic, the condition field each row of R474, R476 and R478 has, and the links,
traps and stops of CALL, JMPL, Ticc and RETT. -/

namespace Sys2Proof.Machine

/-! Targets and trap numbers. -/

/-- A branch goes to PC + 4 * disp22, the displacement signed (R475). -/
theorem branchTarget_eq (pc : Word) (disp22 : BitVec 22) : branchTarget pc disp22 = pc + 4#32 * disp22.signExtend 32 := by
  have hdisp : (disp22 ++ 0#2).signExtend 32 = 4#32 * disp22.signExtend 32 := by
    unfold BitVec.signExtend
    rw [BitVec.toInt_append_zero, BitVec.ofInt_mul]
    rfl
  exact congrArg (pc + ·) hdisp

/-- CALL goes to PC + 4 * disp30 (R480). -/
theorem callTarget_eq (pc : Word) (disp30 : BitVec 30) : callTarget pc disp30 = pc + 4#32 * disp30.zeroExtend 32 := by
  have hdisp : disp30 ++ 0#2 = 4#32 * disp30.zeroExtend 32 := by
    refine BitVec.eq_of_toNat_eq ?_
    rw [BitVec.toNat_append, Nat.shiftLeft_eq, BitVec.toNat_ofNat, Nat.zero_mod, Nat.or_zero, BitVec.toNat_mul, BitVec.toNat_setWidth,
      BitVec.toNat_ofNat]
    omega
  exact congrArg (pc + ·) hdisp

/-- The low seven bits of a sum of words are those of the sum of theirs (R490). -/
theorem low7_add (a b : Word) : (a + b).extractLsb' 0 7 = BitVec.ofNat 7 a.toNat + b.extractLsb' 0 7 :=
  BitVec.extractLsb'_add (by decide)

/-- The software trap number with a register (R490). -/
theorem State.trapNumber_reg (s : State) (rs1 rs2 : RegNum) :
    s.trapNumber rs1 (.reg rs2) = BitVec.ofNat 7 ((s.reg rs1).toNat + (s.reg rs2).toNat) :=
  (low7_add _ _).trans (BitVec.ofNat_add _ _).symm

/-- With an immediate: its sign extension does not reach the low seven bits (R490). -/
theorem State.trapNumber_imm (s : State) (rs1 : RegNum) (imm7 : BitVec 7) :
    s.trapNumber rs1 (.imm imm7) = BitVec.ofNat 7 ((s.reg rs1).toNat + imm7.toNat) := by
  have himm : (imm7.signExtend 32).extractLsb' 0 7 = imm7 := by
    refine BitVec.eq_of_getLsbD_eq fun i hi => ?_
    rw [BitVec.getLsbD_extractLsb', BitVec.getLsbD_signExtend]
    simp [hi, show i < 32 by omega]
  rw [BitVec.ofNat_add, BitVec.ofNat_toNat 7 imm7, BitVec.setWidth_eq]
  exact (low7_add _ _).trans (congrArg _ himm)

/-- tt of a software trap: its number with bit 7 set (R490, R676). -/
theorem Trap.trapInstruction_tt_toNat (n : BitVec 7) : (Trap.trapInstruction n).tt.toNat = 128 + n.toNat :=
  (BitVec.toNat_append 1#1 n).trans (Nat.two_pow_add_eq_or_of_lt n.isLt 1).symm

/-! Branches, by the condition field of their row. -/

/-- A branch whose decision is known changes only PC, nPC and annul (R475). -/
theorem branch_eq_branched (taken : Bool) (cond : BitVec 4) (a : Bool) (disp22 : BitVec 22) (s : State) :
    branch taken cond a disp22 s = branched s taken (cond == 8#4) a disp22 := by
  unfold branch branched
  cases taken with
  | true => rw [branchTarget_eq]; rfl
  | false => simp [State.advance]

/-- A row of R474 has the condition field `c`: its Bicc and its Ticc are those of `c`, its test is eval_icc's, and only 8 is BA. -/
structure IccRow.HasCond (r : IccRow) (c : BitVec 4) : Prop where
  branch : ∀ a disp22 s, exec (r.branch a disp22) s = .next (branchIcc c a disp22 s)
  trap : ∀ rs1 opn s, exec (r.trap rs1 opn) s = .next (trapIcc c rs1 opn s)
  test : ∀ i, r.test i = evalIcc c i
  always : r.always = (c == 8#4)

/-- A row of R476 or R478 has the condition field `c`: its branch is `execBranch` of `c`, the values it is taken on are those of which
`eval` says so, and only 8 is the unconditional one. -/
structure CcRow.HasCond (execBranch : BitVec 4 → Bool → BitVec 22 → State → State) (eval : BitVec 4 → BitVec 2 → Bool) (r : CcRow)
    (c : BitVec 4) : Prop where
  branch : ∀ a disp22 s, exec (r.branch a disp22) s = .next (execBranch c a disp22 s)
  test : ∀ cc, r.taken.contains cc = eval c cc
  always : r.always = (c == 8#4)

/-- The rows of R474 in the order of their condition fields, whose bit 3 inverts the test of the others. -/
theorem iccRows_hasCond : ∀ r ∈ iccRows, ∃ c, r.HasCond c := by
  have plain (x : Bool) : x = (x ^^ false) := (Bool.xor_false x).symm
  have inverted (x : Bool) : (!x) = (x ^^ true) := (Bool.xor_true x).symm
  refine List.forall_iff_forall_mem.mp ?_
  and_intros
  iterate 8 exact ⟨_, fun _ _ _ => rfl, fun _ _ _ => rfl, fun _ => plain _, rfl⟩
  · exact ⟨_, fun _ _ _ => rfl, fun _ _ _ => rfl, fun _ => rfl, rfl⟩
  iterate 7 exact ⟨_, fun _ _ _ => rfl, fun _ _ _ => rfl, fun _ => inverted _, rfl⟩

/-- The rows of R476 in the order of their condition fields. -/
theorem fccRows_hasCond : ∀ r ∈ fccRows, ∃ c, r.HasCond branchFcc evalFcc c := by
  refine List.forall_iff_forall_mem.mp ?_
  and_intros <;> exact ⟨_, fun _ _ _ => rfl, by decide, rfl⟩

/-- The rows of R478 in the order of their condition fields. -/
theorem cccRows_hasCond : ∀ r ∈ cccRows, ∃ c, r.HasCond branchCp evalCp c := by
  refine List.forall_iff_forall_mem.mp ?_
  and_intros <;> exact ⟨_, fun _ _ _ => rfl, by decide, rfl⟩

/-- A row of R476 that no value of fcc matters to, FBN or FBA, is taken exactly when it is FBA. -/
theorem CcRow.HasCond.contains_eq_always {f : BitVec 4 → Bool → BitVec 22 → State → State} {r : CcRow} {c : BitVec 4}
    (h : r.HasCond f evalFcc c) (hr : r.taken = [] ∨ r.always = true) (fcc : BitVec 2) : r.taken.contains fcc = r.always := by
  have htest := h.test fcc
  cases hal : r.always with
  | true =>
    have hc : c = 8#4 := beq_iff_eq.mp (h.always.symm.trans hal)
    subst hc
    exact htest
  | false =>
    have hnil : r.taken = [] := hr.resolve_right (by rw [hal]; decide)
    rw [hnil]
    rfl

/-- A ready coprocessor's branch is decided by the condition code presented (R479). -/
theorem branchCp_ready {s : State} (h : s.cpAccepts) (c : BitVec 4) (a : Bool) (disp22 : BitVec 22) :
    branchCp c a disp22 s = branched s (evalCp c s.cp.state.cc) (c == 8#4) a disp22 := by
  unfold branchCp
  rw [if_pos h.1, State.cpReady_ready h, branch_eq_branched]

section
variable {s : State} (h : s.fpuReady) (c : BitVec 4) (a : Bool) (disp22 : BitVec 22)
include h

/-- A ready FPU's branch with no hazard standing is decided by fcc (R477). -/
theorem branchFcc_ready (hf : s.hzFcmp = 0) (hl : s.hzLdfsr = 0) :
    branchFcc c a disp22 s = branched s (evalFcc c s.fsr.fcc) (c == 8#4) a disp22 := by
  unfold branchFcc
  rw [if_pos h.1, State.fpReady_ready h, if_neg (by simp [hf]), if_neg (by simp [hl]), branch_eq_branched]

/-- Too soon after an LDFSR, by a free fcc (R765, log 10). -/
theorem branchFcc_after_ldfsr (hf : s.hzFcmp = 0) (hl : s.hzLdfsr ≠ 0) :
    branchFcc c a disp22 s = branched s.drawn (evalFcc c (Config.freeFcc s.freeCtr)) (c == 8#4) a disp22 := by
  unfold branchFcc
  rw [if_pos h.1, State.fpReady_ready h, if_neg (by simp [hf]), if_pos (bne_iff_ne.mpr hl), branch_eq_branched]

/-- Right after a compare the decision itself is free (R765, log 10). -/
theorem branchFcc_after_compare (hf : s.hzFcmp ≠ 0) :
    branchFcc c a disp22 s = branched s.drawn (Config.freeBranch s.freeCtr) (c == 8#4) a disp22 := by
  unfold branchFcc
  rw [if_pos h.1, State.fpReady_ready h, if_pos (bne_iff_ne.mpr hf), branch_eq_branched]

end

/-! Links (R480, R484). -/

/-- An instruction that saves PC in r[rd] and transfers to `a` writes nothing else. -/
theorem completes_link {i : Instr} {s : State} {rd : RegNum} {a : Word} (h : exec i s = .next ((s.setReg rd s.pc).jump a)) :
    Completes i s fun t => WritesReg s t s.psr.cwp rd s.pc ∧ OnlyRegs s t ∧ t.pc = s.npc ∧ t.npc = a := by
  refine ⟨_, h, (writesReg_setReg s rd s.pc).congr rfl rfl rfl, ⟨?_, KeepsMemory.of_eq (s.setReg_mem rd s.pc)⟩,
    s.setReg_npc rd s.pc, rfl⟩
  rw [State.setReg_eq]
  rfl

/-- JMPL to a word address (R484). -/
theorem jumpLink_aligned {s : State} {rs1 : RegNum} {op2 : Operand2} (h : AccessSize.word.aligned (s.address rs1 op2) = true)
    (rd : RegNum) : jumpLink rd rs1 op2 s = (s.setReg rd s.pc).jump (s.address rs1 op2) :=
  State.ifAligned_aligned h

/-! RETT (R486, R487). -/

section
variable {s : State} {rs1 : RegNum} {op2 : Operand2}

/-- With ET = 1 in supervisor mode (R486). -/
theorem returnTrap_supervisor (het : s.psr.et = true) (hs : s.psr.s = true) :
    returnTrap rs1 op2 s = raise .illegalInstruction s := by
  unfold returnTrap
  rw [if_pos het, if_pos hs]

/-- With ET = 0 the privilege is tested first (R487). -/
theorem returnTrap_stop_user (het : s.psr.et = false) (hs : s.psr.s = false) :
    returnTrap rs1 op2 s = s.errorStop .privilegedInstruction := by
  unfold returnTrap
  rw [if_neg (by simp [het]), if_pos (by simp [hs])]

/-- Then the window (R487). -/
theorem returnTrap_stop_window (het : s.psr.et = false) (hs : s.psr.s = true)
    (hw : s.windowInvalid (nextWindow s.cfg s.psr.cwp) = true) : returnTrap rs1 op2 s = s.errorStop .windowUnderflow := by
  unfold returnTrap
  rw [if_neg (by simp [het]), if_neg (by simp [hs]), if_pos hw]

/-- Then the target (R487). -/
theorem returnTrap_stop_target (het : s.psr.et = false) (hs : s.psr.s = true)
    (hw : s.windowInvalid (nextWindow s.cfg s.psr.cwp) = false) (ha : AccessSize.word.aligned (s.address rs1 op2) = false) :
    returnTrap rs1 op2 s = s.errorStop .memAddressNotAligned := by
  unfold returnTrap
  rw [if_neg (by simp [het]), if_neg (by simp [hs]), if_neg (by simp [hw]), if_pos (by simp [ha])]

/-- Where all three are passed it returns (R486). -/
theorem returnTrap_returns (het : s.psr.et = false) (hs : s.psr.s = true)
    (hw : s.windowInvalid (nextWindow s.cfg s.psr.cwp) = false) (ha : AccessSize.word.aligned (s.address rs1 op2) = true) :
    returnTrap rs1 op2 s = s.returnFromTrap (nextWindow s.cfg s.psr.cwp) (s.address rs1 op2) := by
  unfold returnTrap
  rw [if_neg (by simp [het]), if_neg (by simp [hs]), if_neg (by simp [hw]), if_neg (by simp [ha])]

end

/-- Some request stands wherever that of one trap does (R57). -/
theorem Requests.ne_none_of_stands {r : Requests} {e : Trap} (h : r.stands e = true) : r ≠ Requests.none := by
  rintro rfl
  cases e <;> exact Bool.noConfusion h

/-- Where an exception's flag is set, one more request leaves some request standing: an exception's leaves itself, an interrupt's the
exception (R57). -/
theorem Requests.flag_flag_ne_none (r : Requests) {e : Trap} (he : ∀ l, e ≠ .interrupt l) (x : Trap) :
    (r.flag e).flag x ≠ Requests.none := by
  by_cases hx : ∃ l, x = .interrupt l
  · obtain ⟨l, rfl⟩ := hx
    have hkeep : ((r.flag e).flag (.interrupt l)).stands e = (r.flag e).stands e := by
      cases e with
      | interrupt m => exact absurd rfl (he m)
      | _ => rfl
    exact ne_none_of_stands (hkeep.trans (r.stands_flag he))
  · exact ne_none_of_stands (stands_flag _ (not_exists.mp hx))

/-- RETT's stop sets the `trap` bit, whatever stood before (R57, R487). -/
theorem State.errorStop_trapBit (s : State) {e : Trap} (he : ∀ l, e ≠ .interrupt l) : (s.errorStop e).trapBit = true := by
  refine bne_iff_ne.mpr ?_
  unfold State.standing
  split
  next r hr => exact Requests.flag_flag_ne_none s.requests he r.trap
  next hr => exact Requests.ne_none_of_stands (s.requests.stands_flag he)

/-- An instruction that ends in an error_stop writes tt and the request flag, and stops (R487). -/
theorem completes_errorStop {i : Instr} {s t : State} {e : Trap} (hx : exec i s = .next t) (ht : t = s.errorStop e)
    (he : ∀ l, e ≠ .interrupt l) :
    Completes i s fun t =>
      t = { s with tt := e.tt, mode := .error, pbError := true, requests := s.requests.flag e } ∧ t.trapBit = true := by
  subst ht
  exact ⟨_, hx, rfl, s.errorStop_trapBit he⟩

end Sys2Proof.Machine

open Sys2Proof Sys2Proof.Machine

/-- Settles O16: R487's tests one after the other, each passed or ending RETT. -/
theorem returnFromTrap : Obligations.ReturnFromTrap := by
  unfold Obligations.ReturnFromTrap
  refine ⟨fun s rs1 op2 het hs hw ha => ?_, fun s rs1 op2 => ⟨fun het hs => ?_, fun het hs => ?_, fun het =>
    ⟨fun hs => ?_, fun hs hw => ?_, fun hs hw ha => ?_⟩⟩⟩
  · have ha := (AccessSize.aligned_word_iff_wordAligned _).mpr ha
    exact ⟨_, congrArg Host.Outcome.next (returnTrap_returns het hs hw ha), rfl, fun _ _ => rfl, fun _ => rfl⟩
  · exact congrArg Host.Outcome.next (returnTrap_user hs het rs1 op2)
  · exact congrArg Host.Outcome.next (returnTrap_supervisor het hs)
  · exact completes_errorStop rfl (returnTrap_stop_user het hs) nofun
  · exact completes_errorStop rfl (returnTrap_stop_window het hs hw) nofun
  · have ha := Bool.eq_false_iff.mpr (mt (AccessSize.aligned_word_iff_wordAligned _).mp ha)
    exact completes_errorStop rfl (returnTrap_stop_target het hs hw ha) nofun

/-- Settles O36: each row is the branch of its condition field. -/
theorem integerAndCoprocessorBranches : Obligations.IntegerAndCoprocessorBranches := by
  unfold Obligations.IntegerAndCoprocessorBranches
  constructor
  · intro r hr s a disp22
    obtain ⟨c, hc⟩ := iccRows_hasCond r hr
    rw [hc.branch, hc.test, hc.always]
    exact congrArg Host.Outcome.next (branch_eq_branched ..)
  · intro r hr s a disp22 hs
    obtain ⟨c, hc⟩ := cccRows_hasCond r hr
    rw [hc.branch, hc.test, hc.always, branchCp_ready hs]

/-- Settles O37: each row is the branch of its condition field, decided by fcc, by a free fcc or freely, as the hazard counters say. -/
theorem floatingPointBranches : Obligations.FloatingPointBranches := by
  unfold Obligations.FloatingPointBranches
  intro r hr s a disp22 hs
  obtain ⟨c, hc⟩ := fccRows_hasCond r hr
  refine ⟨fun hf hl => ?_, fun hf hl => ?_, fun hf => ⟨Config.freeBranch s.freeCtr, ?_⟩⟩
  · rw [hc.branch, hc.test, hc.always, branchFcc_ready hs _ _ _ hf hl]
  · have hx : exec (r.branch a disp22) s =
        .next (branched s.drawn (r.taken.contains (Config.freeFcc s.freeCtr)) r.always a disp22) := by
      rw [hc.branch, hc.test, hc.always, branchFcc_after_ldfsr hs _ _ _ hf hl]
    exact ⟨⟨_, hx⟩, fun hr => by rw [hx, hc.contains_eq_always hr]; rfl⟩
  · rw [hc.branch, hc.always, branchFcc_after_compare hs _ _ _ hf]
    rfl

/-- Settles O38: both are the link and the jump, JMPL's after the alignment check. -/
theorem callAndJump : Obligations.CallAndJump := by
  unfold Obligations.CallAndJump
  refine ⟨fun s disp30 => ?_, fun s rd rs1 op2 => ⟨fun ha => ?_, fun ha => ?_⟩⟩
  · rw [← callTarget_eq]
    exact completes_link rfl
  · exact completes_link (congrArg Host.Outcome.next (jumpLink_aligned ((AccessSize.aligned_word_iff _).mpr ha) rd))
  · exact congrArg Host.Outcome.next (jumpLink_misaligned (not_aligned_word ha) rd)

/-- Settles O39: each row is the Ticc of its condition field. -/
theorem trapOnIntegerCondition : Obligations.TrapOnIntegerCondition := by
  unfold Obligations.TrapOnIntegerCondition
  intro r hr s rs1 opn n
  obtain ⟨c, hc⟩ := iccRows_hasCond r hr
  have hn : s.trapNumber rs1 opn = n := by
    cases opn with
    | reg rs2 => exact s.trapNumber_reg rs1 rs2
    | imm imm7 => exact s.trapNumber_imm rs1 imm7
  rw [hc.test, ← hn]
  refine ⟨fun hf => ?_, fun ht => ⟨?_, Trap.trapInstruction_tt_toNat _⟩⟩
  · exact (hc.trap ..).trans (congrArg Host.Outcome.next (if_neg (Bool.eq_false_iff.mp hf)))
  · exact (hc.trap ..).trans (congrArg Host.Outcome.next (if_pos ht))
end

section
/-! What the reads of the state registers deliver (R511 to R515), and where PSR, WIM and TBR have their fields (R32, R48, R50). -/

namespace Sys2Proof.Machine

/-! The words of the state registers. -/

/-- The four condition codes stand at the bits of icc, N first (R32). -/
theorem Icc.getLsbD_bits (i : Icc) :
    i.bits.getLsbD 3 = i.n ∧ i.bits.getLsbD 2 = i.z ∧ i.bits.getLsbD 1 = i.v ∧ i.bits.getLsbD 0 = i.c := by
  unfold Icc.bits
  refine ⟨?_, ?_, ?_, getLsbD_append_ofBool _ _ rfl⟩
  case refine_1 =>
    repeat rw [getLsbD_append_above _ _ (by decide)]
    exact (BitVec.getLsbD_ofBool ..).trans (Bool.true_and _)
  all_goals
    repeat rw [getLsbD_append_above _ _ (by decide)]
    exact getLsbD_append_ofBool _ _ rfl

/-- Icc is the field of four bits from bit 20 of the PSR (R32). -/
theorem State.psrWord_icc (s : State) : s.psrWord.extractLsb' 20 4 = s.psr.icc.bits := by
  unfold State.psrWord
  repeat rw [extract_append_above _ _ (by decide)]
  exact extract_append_low _ _

/-- So a bit of icc is a bit of the PSR. -/
theorem State.psrWord_getLsbD_icc (s : State) {n : Nat} (hn : n < 4) : s.psrWord.getLsbD (20 + n) = s.psr.icc.bits.getLsbD n := by
  rw [← s.psrWord_icc, BitVec.getLsbD_extractLsb', decide_eq_true hn, Bool.true_and]

/-- The PSR read has each field at its bits; EC and EF read 0 where the unit is absent (R32, R37, R38). -/
theorem State.psrWord_fields (s : State) :
    let w := s.psrWord
    w.extractLsb' 28 4 = s.cfg.psrImpl ∧ w.extractLsb' 24 4 = s.cfg.psrVer ∧
    w.getLsbD 23 = s.psr.icc.n ∧ w.getLsbD 22 = s.psr.icc.z ∧ w.getLsbD 21 = s.psr.icc.v ∧ w.getLsbD 20 = s.psr.icc.c ∧
    w.extractLsb' 14 6 = 0#6 ∧ w.getLsbD 13 = (s.psr.ec && s.cfg.hasCp) ∧ w.getLsbD 12 = (s.psr.ef && s.cfg.hasFpu) ∧
    w.extractLsb' 8 4 = s.psr.pil ∧ w.getLsbD 7 = s.psr.s ∧ w.getLsbD 6 = s.psr.ps ∧ w.getLsbD 5 = s.psr.et ∧
    w.extractLsb' 0 5 = s.psr.cwp := by
  obtain ⟨hn, hz, hv, hc⟩ := s.psr.icc.getLsbD_bits
  refine ⟨?_, ?_, (s.psrWord_getLsbD_icc (by decide)).trans hn, (s.psrWord_getLsbD_icc (by decide)).trans hz,
    (s.psrWord_getLsbD_icc (by decide)).trans hv, (s.psrWord_getLsbD_icc (by decide)).trans hc, ?_, ?_, ?_, ?_, ?_, ?_, ?_, ?_⟩
  all_goals unfold State.psrWord
  case refine_1 =>
    repeat rw [extract_append_above _ _ (by decide)]
    exact BitVec.extractLsb'_eq_self
  case refine_4 | refine_5 | refine_7 | refine_8 | refine_9 =>
    repeat rw [getLsbD_append_above _ _ (by decide)]
    exact getLsbD_append_ofBool _ _ (by decide)
  all_goals
    repeat rw [extract_append_above _ _ (by decide)]
    exact extract_append_low _ _

/-- The WIM read has the bits of the implemented windows, and 0 elsewhere (R48). -/
theorem State.getLsbD_wimWord (s : State) (n : Nat) : s.wimWord.getLsbD n = (s.wim.getLsbD n && decide (n < s.cfg.nwindows)) := by
  unfold State.wimWord
  rw [BitVec.getLsbD_and, getLsbD_wimMask]

/-- The TBR read is TBA, tt and four zeros (R50). -/
theorem State.tbrWord_fields (s : State) :
    s.tbrWord.extractLsb' 12 20 = s.tba ∧ s.tbrWord.extractLsb' 4 8 = s.tt ∧ s.tbrWord.extractLsb' 0 4 = 0#4 := by
  unfold State.tbrWord
  refine ⟨?_, ?_, extract_append_low _ _⟩
  · repeat rw [extract_append_above _ _ (by decide)]
    exact BitVec.extractLsb'_eq_self
  · rw [extract_append_above _ _ (by decide)]
    exact extract_append_low _ _

/-! The reads. -/

/-- In supervisor mode a privileged read delivers its register (R510). -/
theorem delivers_supervisor_readState {i : Instr} {s : State} {rd : RegNum} {v : Word}
    (h : exec i s = .next (s.supervisor (readState v rd s))) (hs : s.psr.s = true) : Delivers i s rd v :=
  delivers_of_exec (h.trans (congrArg Host.Outcome.next (State.supervisor_of_supervisor hs _))) rfl

/-- Ancillary register 16 + k is register k of the file (R54). -/
theorem asrIndex_toNat (n : RegNum) : (asrIndex n).toNat = n.toNat % 16 := by
  unfold asrIndex
  rw [BitVec.extractLsb'_toNat, Nat.shiftRight_zero]

/-- RDASR of ASR 16 to 31 goes through the checks of the access (R512). -/
theorem readAsr_ancillary {rs1 : RegNum} (h : rs1.getLsbD 4 = true) (rd : RegNum) (s : State) :
    readAsr rd rs1 s = s.accessAsr rs1 (readState (s.asr[(asrIndex rs1).toNat]'(asrIndex rs1).isLt) rd s) := by
  unfold readAsr
  rw [if_pos h]

/-- RDASR of a reserved register reads a free value (U42, log 9). -/
theorem readAsr_reserved {rs1 : RegNum} (h : rs1.getLsbD 4 = false) (rd : RegNum) (s : State) :
    readAsr rd rs1 s = (readState (Config.freeAsrWord s.freeCtr) rd s).drawn := by
  unfold readAsr
  rw [if_neg (by rw [h]; decide)]

/-- A free value delivered to r[rd]: its draw is counted, and nothing else changes but the program counters, which advance. -/
theorem delivered_drawn (s : State) (rd : RegNum) (v : Word) :
    WritesReg s (readState v rd s).drawn s.psr.cwp rd v ∧ OnlyRegs s.drawn (readState v rd s).drawn ∧
      Advances s (readState v rd s).drawn := by
  obtain ⟨hwrites, ⟨hstate, hmem⟩, hadvances⟩ := delivered s rd v
  exact ⟨hwrites.congr rfl rfl rfl, ⟨congrArg State.drawn hstate, hmem⟩, hadvances⟩

end Sys2Proof.Machine

open Sys2Proof Sys2Proof.Machine

/-- Settles O40: each read delivers the register's word, whose fields are at their bits, once its checks are passed. -/
theorem stateRegisterReads : Obligations.StateRegisterReads := by
  unfold Obligations.StateRegisterReads
  intro s rd rs1
  refine ⟨delivers_of_exec rfl rfl, fun hs => ⟨s.psrWord, s.wimWord, s.tbrWord, ?_⟩, fun ha => ?_, fun ha => ?_⟩
  · obtain ⟨himpl, hver, hn, hz, hv, hc, hreserved, hec, hef, hpil, hsup, hps, het, hcwp⟩ := s.psrWord_fields
    exact ⟨delivers_supervisor_readState rfl hs, delivers_supervisor_readState rfl hs, delivers_supervisor_readState rfl hs,
      himpl, hver, hn, hz, hv, hc, hreserved, hec, hef, hpil, hsup, hps, het, hcwp, s.getLsbD_wimWord, s.tbrWord_fields⟩
  · have hx : exec (.rdasr rd rs1) s =
        .next (s.accessAsr rs1 (readState (s.asr[(asrIndex rs1).toNat]'(asrIndex rs1).isLt) rd s)) :=
      congrArg Host.Outcome.next (readAsr_ancillary ha rd s)
    dsimp only
    simp only [Fin.getElem_fin, ← asrIndex_toNat]
    refine ⟨fun hi hp => ?_, fun hi hp => ?_, fun hp hu => ?_⟩
    · exact delivers_of_exec (hx.trans (congrArg Host.Outcome.next (State.accessAsr_allowed hi hp _))) rfl
    · exact hx.trans (congrArg Host.Outcome.next (State.accessAsr_unimplemented hi hp _))
    · exact hx.trans (congrArg Host.Outcome.next (State.accessAsr_user hp hu _))
  · exact ⟨_, _, congrArg Host.Outcome.next (readAsr_reserved ha rd s), delivered_drawn ..⟩
end

section
/-! STBAR, UNIMP and FLUSH (R526 to R532): what FLUSH tells an instruction buffer, and what the buffer forgets when a FLUSH's time
is up (R182, log 17). -/

namespace Sys2Proof.Machine

/-! FLUSH. -/

section
variable {s : State} {a : Word}

theorem flush_implemented (h : s.cfg.flushBehaviour = .implemented) : flush a s = (s.flushAddress a).advance := by
  unfold flush
  rw [h]

theorem flush_unimplementedTrap (h : s.cfg.flushBehaviour = .unimplementedFlushTrap) :
    flush a s = raise .unimplementedFlush s := by
  unfold flush
  rw [h]

theorem flush_illegalTrap (h : s.cfg.flushBehaviour = .illegalInstructionTrap) : flush a s = raise .illegalInstruction s := by
  unfold flush
  rw [h]

/-- Without an instruction buffer, or where nothing is mapped, there is nothing to flush (log 17). -/
theorem State.flushAddress_unbuffered (h : s.cfg.hasIbuf = false ∨ s.locate a = none) : s.flushAddress a = s := by
  unfold State.flushAddress
  cases hl : s.locate a with
  | none => rfl
  | some k =>
    have hb : s.cfg.hasIbuf = false := h.resolve_right (by rw [hl]; exact Option.some_ne_none k)
    dsimp only
    rw [if_neg (by rw [hb]; decide)]

/-- An instruction buffer is told of the doubleword (R181, R182). -/
theorem State.flushAddress_buffered {k : Nat} (hb : s.cfg.hasIbuf = true) (hl : s.locate a = some k) :
    s.flushAddress a = { s with ibuf := s.ibuf ++ [.flush (k / 8) 6] } := by
  unfold State.flushAddress
  rw [hl]
  dsimp only
  rw [if_pos hb]

end

/-! The execution of FLUSHes, by the latest event. -/

theorem runFlushes_concat_store (es : List IBufEvent) (k : Nat) (old : Word) :
    runFlushes (es ++ [.store k old]) = runFlushes es ++ [.store k old] := List.foldl_concat ..

theorem runFlushes_concat_flush (es : List IBufEvent) (d left : Nat) :
    runFlushes (es ++ [.flush d left]) = (runFlushes es).filter fun x => !x.inDouble d := List.foldl_concat ..

theorem expireFlushes_concat_store (es : List IBufEvent) (k : Nat) (old : Word) :
    expireFlushes (es ++ [.store k old]) = expireFlushes es ++ [.store k old] := List.foldl_concat ..

/-- A FLUSH whose time is up is executed, the earlier ones before it (R182). -/
theorem expireFlushes_concat_due (es : List IBufEvent) (d : Nat) :
    expireFlushes (es ++ [.flush d 0]) = (runFlushes (expireFlushes es)).filter fun x => !x.inDouble d := List.foldl_concat ..

theorem expireFlushes_concat_waiting (es : List IBufEvent) (d left : Nat) :
    expireFlushes (es ++ [.flush d (left + 1)]) = expireFlushes es ++ [.flush d (left + 1)] := List.foldl_concat ..

/-- Executing FLUSHes adds nothing to the past. -/
theorem mem_of_mem_runFlushes {x : IBufEvent} {es : List IBufEvent} (h : x ∈ runFlushes es) : x ∈ es := by
  induction es using List.reverseRecOn with
  | nil => exact h
  | append_singleton es e ih =>
    rw [List.mem_append]
    cases e with
    | store k old =>
      rw [runFlushes_concat_store, List.mem_append] at h
      exact h.imp_left ih
    | flush d left =>
      rw [runFlushes_concat_flush] at h
      exact .inl (ih (List.mem_of_mem_filter h))

/-- A FLUSH executed forgets every word of its doubleword that was replaced before it, whatever came after (R182). -/
theorem store_mem_after_of_mem_expireFlushes {before after : List IBufEvent} {d k : Nat} {old : Word} (hk : k / 8 = d)
    (h : .store k old ∈ expireFlushes (before ++ .flush d 0 :: after)) : .store k old ∈ after := by
  induction after using List.reverseRecOn with
  | nil =>
    rw [expireFlushes_concat_due] at h
    have hforgotten := List.of_mem_filter h
    simp [IBufEvent.inDouble, hk] at hforgotten
  | append_singleton es e ih =>
    rw [← List.cons_append, ← List.append_assoc] at h
    rw [List.mem_append]
    match e with
    | .store k' old' =>
      rw [expireFlushes_concat_store, List.mem_append] at h
      exact h.imp_left ih
    | .flush d' 0 =>
      rw [expireFlushes_concat_due] at h
      exact .inl (ih (mem_of_mem_runFlushes (List.mem_of_mem_filter h)))
    | .flush d' (left + 1) =>
      rw [expireFlushes_concat_waiting, List.mem_append] at h
      exact h.imp_left ih

end Sys2Proof.Machine

open Sys2Proof Sys2Proof.Machine

/-- Settles O43: FLUSH by the configuration's behaviour; what a due FLUSH forgets, by the latest event after it. -/
theorem barrierUnimpFlush : Obligations.BarrierUnimpFlush := by
  unfold Obligations.BarrierUnimpFlush
  refine ⟨fun s const22 rs1 op2 => ⟨rfl, rfl, fun hf => ⟨fun h => ?_, fun k hb hl => ?_⟩, fun hf => ?_, fun hf => ?_⟩,
    fun d => rfl, fun before after d k old hk h => store_mem_after_of_mem_expireFlushes hk h⟩
  · exact congrArg Host.Outcome.next
      ((flush_implemented hf).trans (congrArg State.advance (State.flushAddress_unbuffered h)))
  · exact congrArg Host.Outcome.next
      ((flush_implemented hf).trans (congrArg State.advance (State.flushAddress_buffered hb hl)))
  · exact congrArg Host.Outcome.next (flush_unimplementedTrap hf)
  · exact congrArg Host.Outcome.next (flush_illegalTrap hf)
end

section
/-! What the entry of a trap writes and leaves (R705, R707), the reset trap's among them (R753), and that RETT takes it back (R486). -/

namespace Sys2Proof.Machine

/-- In `t`, r[17] and r[18] of window `w` hold the program counters that a trap at `s` saves (R705): PC and nPC, or, the instruction at PC being
annulled, the two that follow. No other register differs. -/
structure SavesPcs (s t : State) (w : BitVec 5) : Prop where
  pc : t.regIn w 17#5 = if s.annul then s.npc else s.pc
  npc : t.regIn w 18#5 = if s.annul then s.npc + 4#32 else s.npc
  others : ∀ w' n, ¬ sameRegister s.cfg w' n w 17#5 → ¬ sameRegister s.cfg w' n w 18#5 → t.regIn w' n = s.regIn w' n

/-- The window a trap at `s` enters (R25, R705). -/
def State.trapWindow (s : State) : BitVec 5 := prevWindow s.drainPending.cfg s.drainPending.psr.cwp

/-- The PSR a trap at `s` enters with (R705). -/
def State.trapPsr (s : State) : Psr :=
  { s.drainPending.psr with et := false, ps := s.drainPending.psr.s, s := true, cwp := s.trapWindow }

/-- Delayed writes do not reach memory. -/
theorem State.drainPending_mem (s : State) : s.drainPending.mem = s.mem := by rw [s.drainPending_frame]

/-- Apart from the windows, the entry changes the PSR, annul and the requests (R705). -/
theorem State.enterTrapWindow_eq (s : State) :
    s.enterTrapWindow =
      { s.drainPending with
        windows := s.enterTrapWindow.windows, psr := s.trapPsr, annul := false, requests := Requests.none } := by
  unfold State.enterTrapWindow
  dsimp only
  rw [State.setReg_windowed _ (n := 18#5) (by decide), State.setReg_windowed _ (n := 17#5) (by decide)]
  rfl

/-- In the windows, it changes the two registers it saves the program counters in (R705). -/
theorem State.enterTrapWindow_saves (s : State) : SavesPcs s s.enterTrapWindow s.trapWindow := by
  obtain ⟨d, hd⟩ : ∃ d : State, d = { s.drainPending with psr := s.trapPsr, annul := false, requests := Requests.none } := ⟨_, rfl⟩
  have hentry : s.enterTrapWindow =
      (d.setReg 17#5 (if s.annul then s.npc else s.pc)).setReg 18#5 (if s.annul then s.npc + 4#32 else s.npc) := by rw [hd]; rfl
  have hframe : d.cfg = s.cfg ∧ d.globals = s.globals ∧ d.windows = s.windows ∧ d.psr.cwp = s.trapWindow := by
    rw [hd, s.drainPending_frame]
    exact ⟨rfl, rfl, rfl, rfl⟩
  obtain ⟨hcfg, hglobals, hwindows, hcwp⟩ := hframe
  have h17 := writesReg_setReg d 17#5 (if s.annul then s.npc else s.pc)
  have h18 := writesReg_setReg (d.setReg 17#5 (if s.annul then s.npc else s.pc)) 18#5 (if s.annul then s.npc + 4#32 else s.npc)
  rw [← hentry, State.setReg_psr, hcwp] at h18
  rw [hcwp] at h17
  refine ⟨(h18.reg_ne (by decide)).trans h17.written, h18.written, fun w' n hne17 hne18 => ?_⟩
  rw [h18.others w' n (by rwa [State.setReg_cfg, hcfg]), h17.others w' n (by rwa [hcfg])]
  exact State.regIn_congr hcfg hglobals hwindows w' n

/-- tt does not matter to the rest of the entry. -/
theorem State.enterTrapWindow_with_tt (s : State) (tt : BitVec 8) :
    { s with tt := tt }.enterTrapWindow = { s.enterTrapWindow with tt := tt } := by
  have hd : { s with tt := tt }.drainPending = { s.drainPending with tt := tt, requests := s.requests } :=
    s.drainPending_with tt s.requests
  unfold State.enterTrapWindow
  rw [hd]
  rfl

/-- Taking a trap with ET = 1 (R705). -/
theorem takeTrap_enabled {s : State} (het : s.psr.et = true) (e : Trap) :
    takeTrap e s =
      { s.enterTrapWindow with
        tt := e.tt, pc := s.drainPending.tba ++ e.tt ++ 0#4, npc := (s.drainPending.tba ++ e.tt ++ 0#4 : Word) + 4#32 } := by
  have htba : s.enterTrapWindow.tba = s.drainPending.tba := by rw [s.enterTrapWindow_eq]
  unfold takeTrap
  rw [if_pos het, s.enterTrapWindow_with_tt, ← htba]
  rfl

/-- Taking one with ET = 0 stops the processor (R707). -/
theorem takeTrap_disabled {s : State} (het : s.psr.et = false) (e : Trap) : takeTrap e s = s.enterErrorMode := by
  unfold takeTrap
  rw [if_neg (by rw [het]; decide)]

end Sys2Proof.Machine

open Sys2Proof Sys2Proof.Machine

/-- Settles O12: the entry is that of the new window with tt and the program counters written; with ET = 0 it is error_mode's. -/
theorem trapEntry : Obligations.TrapEntry := by
  unfold Obligations.TrapEntry
  refine ⟨fun e s het => ?_, fun e s het => takeTrap_disabled het e, fun e s => ⟨s.beforeTrap e, rfl, rfl⟩⟩
  have hsaves := s.enterTrapWindow_saves
  dsimp only
  rw [takeTrap_enabled het]
  have hpsr : s.enterTrapWindow.psr.cwp = s.trapWindow := by rw [s.enterTrapWindow_eq]; rfl
  refine ⟨?_, ?_, ?_, hsaves.others, fun k => ?_⟩
  · rw [s.enterTrapWindow_eq]
    rfl
  · rw [← hsaves.pc, ← hpsr]
    rfl
  · rw [← hsaves.npc, ← hpsr]
    rfl
  · show Memory.read s.enterTrapWindow.mem k = _
    rw [s.enterTrapWindow_eq, s.drainPending_mem]

end

section
/-! RETT after a trap's entry (R486, R488, R705): the window entered lies next to the one left, and the registers the entry writes are no
registers of the window left. -/

namespace Sys2Proof.Machine

/-- RETT goes back to the window a trap left (R25, R26). -/
theorem nextWindow_prevWindow {c : Config} {w : BitVec 5} (hw : w.toNat < c.nwindows) : nextWindow c (prevWindow c w) = w := by
  have h2 := two_le_nwindows c
  refine BitVec.eq_of_toNat_eq ?_
  rw [nextWindow_toNat, prevWindow_toNat, Nat.mod_add_mod, show w.toNat + (c.nwindows - 1) + 1 = w.toNat + c.nwindows by omega,
    Nat.add_mod_right, Nat.mod_eq_of_lt hw]

/-- A trap leaves the current window (R25, R705). -/
theorem prevWindow_ne {c : Config} {w : BitVec 5} (hw : w.toNat < c.nwindows) : w ≠ prevWindow c w := by
  have h2 := two_le_nwindows c
  intro h
  have hmod := prevWindow_toNat c w
  rw [← h] at hmod
  rcases Nat.eq_zero_or_pos w.toNat with h0 | hpos
  · rw [h0, Nat.zero_add, Nat.mod_eq_of_lt (by omega)] at hmod
    omega
  · rw [show w.toNat + (c.nwindows - 1) = (w.toNat - 1) + c.nwindows by omega, Nat.add_mod_right, Nat.mod_eq_of_lt (by omega)] at hmod
    omega

/-- Where a window keeps a register, modulo the sixteen cells a window advances by, only the register's number says (R23). -/
theorem windowIndex_mod_sixteen (c : Config) (w : BitVec 5) (n : RegNum) : windowIndex c w n % 16 = (n.toNat - 8) % 16 := by
  unfold windowIndex
  rw [Nat.mod_mul_right_mod, Nat.add_mul_mod_self_right]

/-- A local of one implemented window is no register of another (R23). -/
theorem not_sameRegister_local {c : Config} {w w' : BitVec 5} (hw : w.toNat < c.nwindows) (hw' : w'.toNat < c.nwindows) (hne : w ≠ w')
    {n k : RegNum} (h16 : 16 ≤ k.toNat) (h24 : k.toNat < 24) : ¬ sameRegister c w n w' k := by
  intro h
  have hn : 8 ≤ n.toNat ∧ n.toNat < 24 := by
    rcases h with ⟨rfl, hglobal⟩ | ⟨h8, -, hindex⟩
    · omega
    · have hmod := congrArg (· % 16) hindex
      simp only [windowIndex_mod_sixteen] at hmod
      omega
  exact not_sameRegister_of_ne_window hw hw' hne hn.1 hn.2 h24 h

/-- With nothing delayed the PSR of a trap's entry is this (R705). -/
theorem State.trapPsr_of_nothing_pending {s : State} (h : s.pending = []) :
    s.trapPsr = { s.psr with et := false, ps := s.psr.s, s := true, cwp := prevWindow s.cfg s.psr.cwp } := by
  unfold State.trapPsr State.trapWindow
  rw [State.drainPending_nil h]

/-- After a trap's entry in a legal window with nothing delayed, every register of the window left reads as it did (R705). -/
theorem takeTrap_keeps_window {s : State} (het : s.psr.et = true) (hw : s.psr.cwp.toNat < s.cfg.nwindows) (h : s.pending = [])
    (e : Trap) (n : RegNum) : (takeTrap e s).regIn s.psr.cwp n = s.reg n := by
  have htrap : s.trapWindow = prevWindow s.cfg s.psr.cwp := by
    unfold State.trapWindow
    rw [State.drainPending_nil h]
  have hlocal {k : RegNum} (h16 : 16 ≤ k.toNat) (h24 : k.toNat < 24) : ¬ sameRegister s.cfg s.psr.cwp n s.trapWindow k := by
    rw [htrap]
    exact not_sameRegister_local hw (prevWindow_lt ..) (prevWindow_ne hw) h16 h24
  rw [takeTrap_enabled het]
  exact s.enterTrapWindow_saves.others _ n (hlocal (by decide) (by decide)) (hlocal (by decide) (by decide))

end Sys2Proof.Machine

open Sys2Proof Sys2Proof.Machine

/-- Settles O17: RETT passes its tests, returns to the window the trap left, and takes S from the PS that the entry saved it in. -/
theorem returnUndoesTrapEntry : Obligations.ReturnUndoesTrapEntry := by
  unfold Obligations.ReturnUndoesTrapEntry
  intro e s u rs1 op2 het hw hpending hvalid ha hx
  have hentered : takeTrap e s =
      { s with
        windows := (takeTrap e s).windows, annul := false, requests := Requests.none, tt := e.tt, psr := s.trapPsr
        pc := (takeTrap e s).pc, npc := (takeTrap e s).npc } := by
    rw [takeTrap_enabled het, s.enterTrapWindow_eq, State.drainPending_nil hpending]
  have hkeeps := takeTrap_keeps_window het hw hpending e
  have hpsr := State.trapPsr_of_nothing_pending hpending
  generalize takeTrap e s = t at *
  have hnext : nextWindow t.cfg t.psr.cwp = s.psr.cwp := by
    rw [hentered, hpsr]
    exact nextWindow_prevWindow hw
  have hreturn : exec (.rett rs1 op2) t = .next (t.returnFromTrap s.psr.cwp (t.address rs1 op2)) := by
    rw [← hnext]
    refine congrArg Host.Outcome.next
      (returnTrap_returns ?_ ?_ ?_ ((AccessSize.aligned_word_iff_wordAligned _).mpr ha))
    · rw [hentered, hpsr]
    · rw [hentered, hpsr]
    · rw [hnext, hentered]
      exact hvalid
  obtain rfl : t.returnFromTrap s.psr.cwp (t.address rs1 op2) = u := Host.Outcome.next.inj (hreturn.symm.trans hx)
  refine ⟨?_, hkeeps⟩
  unfold State.returnFromTrap
  dsimp only
  rw [hentered, hpsr]
  dsimp only
  rw [← het]
end

section
/-! Which request is selected (R677, R704), and what a step does before it fetches (R673, R694, R700, R708, R750, R753). -/

namespace Sys2Proof.Machine

/-! The rows of Table 7-1. -/

/-- The trap of a row, if its request stands. -/
def standingTrap (row : Bool × Trap × Nat) : Option Trap := if row.1 then some row.2.1 else none

/-- The first standing row, or none, answers for a list of rows. -/
theorem findSome?_standingTrap_cons (b : Bool) (e : Trap) (n : Nat) (rows : List (Bool × Trap × Nat)) :
    ((b, e, n) :: rows).findSome? standingTrap = if b then some e else rows.findSome? standingTrap := by
  cases b <;> rfl

theorem standingTrap_eq_none_iff (row : Bool × Trap × Nat) : standingTrap row = none ↔ row.1 = false := by
  unfold standingTrap
  cases row.1 <;> simp

theorem standingTrap_eq_some_iff (row : Bool × Trap × Nat) (e : Trap) :
    standingTrap row = some e ↔ row = (true, e, row.2.2) := by
  obtain ⟨b, x, n⟩ := row
  unfold standingTrap
  cases b <;> simp

/-- select_trap goes through the table from its top (R677, R704). -/
theorem Requests.select_eq (r : Requests) : r.select = (requestRows r).findSome? standingTrap := by
  simp only [requestRows, findSome?_standingTrap_cons]
  rfl

theorem Requests.select_eq_none_iff (r : Requests) : r.select = Option.none ↔ ∀ p ∈ requestRows r, p.1 = false := by
  rw [r.select_eq, List.findSome?_eq_none_iff]
  simp only [standingTrap_eq_none_iff]

/-- tt of an interrupt: its level above 0x10 (R676, R677). -/
theorem Trap.interrupt_tt_toNat (level : BitVec 4) : (Trap.interrupt level).tt.toNat = 0x10 + level.toNat :=
  (BitVec.toNat_append 1#4 level).trans (Nat.two_pow_add_eq_or_of_lt level.isLt 1).symm

/-- Each row's tt is its trap's (R677). -/
theorem requestRows_tt (r : Requests) : ∀ p ∈ requestRows r, p.2.1.tt.toNat = p.2.2 := by
  refine List.forall_iff_forall_mem.mp ?_
  and_intros
  iterate 21 rfl
  · exact Trap.trapInstruction_tt_toNat _
  · exact Trap.interrupt_tt_toNat _

/-- Where no row stands nothing is requested, but for a reset and a software trap number without its request (R57). -/
theorem Requests.eq_none_of_select {r : Requests} (hs : r.select = Option.none) (hr : r.resetTrap = false)
    (ht : r.trapInstruction = false → r.ticcTrapType = 0#7) : r = Requests.none := by
  rw [Requests.select_eq_none_iff] at hs
  cases r
  simp_all [requestRows, Requests.none]

/-! The requests that count, and the interrupt acceptance test. -/

/-- What an implementation does not detect stays undetected. -/
theorem Requests.detected_detected (r : Requests) (c : Config) : (r.detected c).detected c = r.detected c := by
  simp [Requests.detected]

theorem Requests.maskInterrupting_of_not_reset {r : Requests} (h : r.resetTrap = false) : r.maskInterrupting = Requests.none := by
  unfold Requests.maskInterrupting
  rw [h]
  rfl

/-- A reset counts whatever ET is (R673). -/
theorem State.platformRequests_resetTrap (s : State) : s.platformRequests.resetTrap = s.requests.resetTrap := by
  unfold State.platformRequests
  split <;> rfl

theorem State.platformRequests_none {s : State} (h : s.requests = Requests.none) : s.platformRequests = Requests.none := by
  unfold State.platformRequests
  rw [h]
  split <;> rfl

/-- With ET = 0 nothing else does (R708). -/
theorem State.platformRequests_disabled {s : State} (het : s.psr.et = false) (hr : s.requests.resetTrap = false) :
    s.platformRequests = Requests.none := by
  unfold State.platformRequests
  rw [if_neg (by rw [het]; decide), Requests.maskInterrupting_of_not_reset hr]

/-- The requests that count are those that count of them. -/
theorem State.platformRequests_platformRequests (s : State) :
    { s with requests := s.platformRequests }.platformRequests = s.platformRequests := by
  unfold State.platformRequests
  cases s.psr.et
  · rfl
  · exact s.requests.detected_detected s.cfg

/-- A software trap number without its request does not come to count. -/
theorem State.platformRequests_ticcTrapType {s : State} (h : s.requests.trapInstruction = false → s.requests.ticcTrapType = 0#7) :
    s.platformRequests.trapInstruction = false → s.platformRequests.ticcTrapType = 0#7 := by
  unfold State.platformRequests
  split
  · exact h
  · exact fun _ => rfl

/-- An interrupt is accepted: ET = 1, and a level of 15 or above PIL (R694). -/
def State.accepts (s : State) : Prop := s.psr.et = true ∧ (s.irl = 15#4 ∨ s.psr.pil.toNat < s.irl.toNat)

/-- The model's test is that one. -/
theorem State.accepts_iff (s : State) : (s.psr.et && (s.irl == 15#4 || s.psr.pil.ult s.irl)) = true ↔ s.accepts := by
  simp [State.accepts, BitVec.ult]

theorem State.acceptInterrupt_accepted {s : State} (h : s.accepts) :
    s.acceptInterrupt = { s with requests := { s.platformRequests with interruptLevel := s.irl } } := by
  unfold State.acceptInterrupt
  rw [if_pos (s.accepts_iff.mpr h)]

theorem State.acceptInterrupt_not_accepted {s : State} (h : ¬ s.accepts) :
    s.acceptInterrupt = { s with requests := s.platformRequests } := by
  unfold State.acceptInterrupt
  rw [if_neg (mt s.accepts_iff.mp h)]

/-- An accepted level is not 0 (R694). -/
theorem State.accepts.irl_ne_zero {s : State} (h : s.accepts) : s.irl ≠ 0#4 := by
  intro h0
  obtain ⟨-, h15 | hpil⟩ := h
  · exact absurd (h15.symm.trans h0) (by decide)
  · rw [h0] at hpil
    exact Nat.not_lt_zero _ hpil

/-! The boundary before an instruction. -/

/-- The requests that stood do not matter to a reset trap. -/
theorem takeReset_with_requests (s : State) (q : Requests) : takeReset { s with requests := q } = takeReset s := by
  have hw : { s with requests := q }.enterTrapWindow = s.enterTrapWindow := by
    have hd : { s with requests := q }.drainPending = { s.drainPending with tt := s.tt, requests := q } := s.drainPending_with s.tt q
    have htt : s.drainPending.tt = s.tt := by rw [s.drainPending_frame]
    unfold State.enterTrapWindow
    rw [hd, ← htt]
  unfold takeReset
  rw [hw]

/-- A requested reset trap is taken first, whatever ET is (R673, R753). -/
theorem State.boundary_of_resetTrap {s : State} (h : s.requests.resetTrap = true) : s.boundary = takeReset s := by
  obtain ⟨level, ha⟩ := s.acceptInterrupt_eq
  unfold State.boundary
  rw [ha]
  dsimp only
  rw [if_pos (s.platformRequests_resetTrap.trans h)]
  exact takeReset_with_requests s _

/-- Then, with an interrupt accepted, some trap is taken, and the interrupt where no request stands (R694, R704). -/
theorem State.boundary_of_accepts {s : State} (hr : s.requests.resetTrap = false) (h : s.accepts) :
    ∃ e, s.boundary = takeTrap e s ∧ (s.requests = Requests.none → e = .interrupt s.irl) := by
  unfold State.boundary
  rw [State.acceptInterrupt_accepted h]
  dsimp only
  rw [if_neg (by rw [s.platformRequests_resetTrap, hr]; decide)]
  have hlevel : ({ s.platformRequests with interruptLevel := s.irl } : Requests).select ≠ none := by
    rw [ne_eq, Requests.select_eq_none_iff]
    intro hall
    exact h.irl_ne_zero (by simpa using hall (s.irl != 0#4, .interrupt s.irl, 0x10 + s.irl.toNat) (by simp [requestRows]))
  obtain ⟨e, he⟩ := Option.ne_none_iff_exists'.mp hlevel
  rw [he]
  refine ⟨e, takeTrap_with_requests e s _, fun hnone => ?_⟩
  rw [State.platformRequests_none hnone] at he
  have hselect : ({ Requests.none with interruptLevel := s.irl } : Requests).select = some (.interrupt s.irl) :=
    if_pos (bne_iff_ne.mpr h.irl_ne_zero)
  exact (Option.some.inj (hselect.symm.trans he)).symm

/-- With none accepted, the request selected is taken, or only those that do not count are discarded (R704, R708). -/
theorem State.boundary_of_not_accepts {s : State} (hr : s.requests.resetTrap = false) (h : ¬ s.accepts) :
    s.boundary =
      match s.platformRequests.select with
      | some e => takeTrap e s
      | none => { s with requests := s.platformRequests } := by
  unfold State.boundary
  rw [State.acceptInterrupt_not_accepted h]
  dsimp only
  rw [if_neg (by rw [s.platformRequests_resetTrap, hr]; decide)]
  cases s.platformRequests.select with
  | some e => exact takeTrap_with_requests e s _
  | none => rfl

/-- With ET = 0 and no reset everything the platform asks is discarded (R676, R708). -/
theorem State.boundary_disabled {s : State} (hr : s.requests.resetTrap = false) (het : s.psr.et = false) :
    s.boundary = { s with requests := Requests.none } := by
  have hnot : ¬ s.accepts := fun h => Bool.noConfusion (het.symm.trans h.1)
  rw [State.boundary_of_not_accepts hr hnot, State.platformRequests_disabled het hr]
  rfl

/-- With nothing requested and no interrupt accepted nothing happens (R700). -/
theorem State.boundary_of_nothing {s : State} (h : s.requests = Requests.none) (hnot : ¬ s.accepts) : s.boundary = s := by
  rw [State.boundary_of_not_accepts (by rw [h]; rfl) hnot, State.platformRequests_none h]
  show { s with requests := Requests.none } = s
  rw [← h]

/-- What a step may do before it fetches: the reset trap, a trap with ET = 1, or nothing but to discard the requests that do not count,
no other standing (R700). -/
theorem State.boundary_cases (s : State) :
    s.boundary = takeReset s ∨ (s.psr.et = true ∧ ∃ e, s.boundary = takeTrap e s) ∨
    (s.boundary = { s with requests := s.platformRequests } ∧ s.platformRequests.select = none ∧ s.platformRequests.resetTrap = false ∧
      ¬ s.accepts) := by
  cases hr : s.requests.resetTrap with
  | true => exact .inl (State.boundary_of_resetTrap hr)
  | false =>
    by_cases ha : s.accepts
    · obtain ⟨e, he, -⟩ := State.boundary_of_accepts hr ha
      exact .inr (.inl ⟨ha.1, e, he⟩)
    · have hb := State.boundary_of_not_accepts hr ha
      cases hs : s.platformRequests.select with
      | some e =>
        have het : s.psr.et = true := by
          by_contra het
          rw [State.platformRequests_disabled (Bool.eq_false_iff.mpr het) hr] at hs
          cases hs
        rw [hs] at hb
        exact .inr (.inl ⟨het, e, hb⟩)
      | none =>
        rw [hs] at hb
        exact .inr (.inr ⟨hb, rfl, s.platformRequests_resetTrap.trans hr, ha⟩)

/-- The entry of a trap or a reset leaves ET = 0 and no request (R705). -/
theorem State.enterTrapWindow_et (s : State) : s.enterTrapWindow.psr.et = false ∧ s.enterTrapWindow.requests = Requests.none := by
  rw [s.enterTrapWindow_eq]
  exact ⟨rfl, rfl⟩

/-- With ET = 0 and nothing requested nothing happens. -/
theorem State.boundary_of_entered {s : State} (het : s.psr.et = false) (hr : s.requests = Requests.none) : s.boundary = s :=
  State.boundary_of_nothing hr fun h => Bool.noConfusion (het.symm.trans h.1)

/-- What the boundary before an instruction leaves: the mode, bp_reset_in and the record of a raised trap as they were, and nothing that a
second look would take (R700). A software trap number may be left without its request. -/
structure State.AtInstruction (s t : State) : Prop where
  mode : t.mode = .execute
  resetIn : t.resetIn = s.resetIn
  raised : t.raised = s.raised
  boundary : t.boundary = t
  requests : (s.requests.trapInstruction = false → s.requests.ticcTrapType = 0#7) → t.requests = Requests.none
  notAccepted : ¬ t.accepts

theorem State.boundary_atInstruction {s : State} (hm : s.mode = .execute) : s.AtInstruction s.boundary := by
  obtain ⟨het, hr⟩ := s.enterTrapWindow_et
  have hframe := s.enterTrapWindow_frame
  obtain hb | ⟨het1, e, hb⟩ | ⟨hb, hselect, hreset, hnot⟩ := s.boundary_cases
  · have het : (takeReset s).psr.et = false := het
    have hr : (takeReset s).requests = Requests.none := hr
    rw [hb]
    refine ⟨rfl, ?_, ?_, State.boundary_of_entered het hr, fun _ => hr, fun h => Bool.noConfusion (het.symm.trans h.1)⟩
    · show s.enterTrapWindow.resetIn = _
      rw [hframe]
    · show s.enterTrapWindow.raised = _
      rw [hframe]
  · rw [hb, takeTrap_enabled het1]
    refine ⟨?_, ?_, ?_, State.boundary_of_entered het hr, fun _ => hr, fun h => Bool.noConfusion (het.symm.trans h.1)⟩
    · show s.enterTrapWindow.mode = _
      rw [hframe, hm]
    · show s.enterTrapWindow.resetIn = _
      rw [hframe]
    · show s.enterTrapWindow.raised = _
      rw [hframe]
  · have hagain := State.boundary_of_not_accepts (s := { s with requests := s.platformRequests }) hreset hnot
    rw [s.platformRequests_platformRequests, hselect] at hagain
    rw [hb]
    exact ⟨hm, rfl, rfl, hagain, fun hticc => Requests.eq_none_of_select hselect hreset (State.platformRequests_ticcTrapType hticc), hnot⟩

/-! The step in each mode (R750). -/

theorem step_reset {s : State} (hr : s.raised = none) (hm : s.mode = .reset) :
    step s = if s.resetIn then .next s else .next s.leaveReset := by
  unfold step modeStep settledStep
  rw [State.settle_of_not_raised hr, hm]

theorem step_error {s : State} (hr : s.raised = none) (hm : s.mode = .error) :
    step s = if s.resetIn then .next s.enterReset else .next s := by
  unfold step modeStep settledStep
  rw [State.settle_of_not_raised hr, hm]

theorem step_execute {s : State} (hr : s.raised = none) (hm : s.mode = .execute) :
    step s = if s.resetIn then .next s.enterReset else executeStep s := by
  unfold step modeStep settledStep
  rw [State.settle_of_not_raised hr, hm]

end Sys2Proof.Machine

open Sys2Proof Sys2Proof.Machine

/-- Settles O14: select_trap answers for the first standing row of the table. -/
theorem highestPriorityRequestIsSelected : Obligations.HighestPriorityRequestIsSelected := by
  unfold Obligations.HighestPriorityRequestIsSelected
  refine ⟨fun r e h => ?_, Requests.select_eq_none_iff, requestRows_tt⟩
  rw [r.select_eq, List.findSome?_eq_some_iff] at h
  obtain ⟨above, row, below, hrows, hrow, habove⟩ := h
  rw [(standingTrap_eq_some_iff row e).mp hrow] at hrows
  exact ⟨above, _, below, hrows, fun p hp => (standingTrap_eq_none_iff p).mp (habove p hp)⟩

/-- Settles O15: the boundary by the acceptance test, and that it leaves a state whose own boundary is itself. -/
theorem interruptAcceptance : Obligations.InterruptAcceptance := by
  unfold Obligations.InterruptAcceptance
  refine ⟨fun s hr het hl => ?_, fun s hr het h15 hl => ?_, fun s hr het => State.boundary_disabled hr het, fun s hm hi hr => ?_⟩
  · obtain ⟨e, hb, he⟩ := State.boundary_of_accepts (s := s) (by rw [hr]; rfl) ⟨het, hl⟩
    rw [hb, he hr]
    exact ⟨rfl, Trap.interrupt_tt_toNat _⟩
  · exact State.boundary_of_nothing hr fun h => h.2.elim h15 (Nat.not_lt.mpr hl)
  · have hat := s.boundary_atInstruction hm
    have hraised := hat.raised.trans hr
    have hresetIn := hat.resetIn.trans hi
    refine ⟨?_, fun hticc => ⟨⟨hat.mode, hresetIn, hat.requests hticc, fun het => ?_⟩, hraised⟩⟩
    · rw [step_execute hr hm, step_execute hraised hat.mode, if_neg (Bool.eq_false_iff.mp hi), if_neg (Bool.eq_false_iff.mp hresetIn)]
      unfold executeStep
      rw [hat.boundary]
    · have hnot := not_and.mp hat.notAccepted het
      exact ⟨fun h => hnot (.inl h), Nat.not_lt.mp fun h => hnot (.inr h)⟩

/-- Settles O10: the reset trap is the entry of the new window with the rest of R751 and R753 written. -/
theorem resetTrapEntry : Obligations.ResetTrapEntry := by
  unfold Obligations.ResetTrapEntry
  intro s h
  have hsaves := s.enterTrapWindow_saves
  have hcwp : s.enterTrapWindow.psr.cwp = s.trapWindow := by rw [s.enterTrapWindow_eq]; rfl
  dsimp only
  rw [State.boundary_of_resetTrap h]
  refine ⟨?_, ?_, ?_, hsaves.others, fun k => ?_⟩
  · unfold takeReset
    rw [s.enterTrapWindow_eq]
    rfl
  · rw [← hsaves.pc, ← hcwp]
    rfl
  · rw [← hsaves.npc, ← hcwp]
    rfl
  · show Memory.read s.enterTrapWindow.mem k = _
    rw [s.enterTrapWindow_eq, s.drainPending_mem]

/-- Settles O11: the step in each mode, with and without bp_reset_in. -/
theorem processorModes : Obligations.ProcessorModes := by
  unfold Obligations.ProcessorModes
  intro s hr
  refine ⟨fun hm hi => ?_, fun hm hi => ?_, fun hm hi => ?_, fun hm hi => ?_, fun hm hi => ?_⟩
  · rw [step_reset hr hm, if_pos hi]
  · rw [step_reset hr hm, if_neg (Bool.eq_false_iff.mp hi)]
    rfl
  · rw [step_error hr hm, if_neg (Bool.eq_false_iff.mp hi)]
  · rw [step_error hr hm, if_pos hi]
    rfl
  · rw [step_execute hr hm, if_pos hi]
    rfl
end

section
/-! The step of an instruction nothing comes before (R700): what it fetches, and what it does with the word. -/

namespace Sys2Proof.Machine

/-! Up to the fetch. -/

theorem State.quiet.not_accepts {s : State} (h : s.quiet) : ¬ s.accepts := by
  obtain ⟨-, -, -, hlevel⟩ := h
  rintro ⟨het, hl⟩
  obtain ⟨h15, hpil⟩ := hlevel het
  exact hl.elim h15 (Nat.not_lt.mpr hpil)

/-- Where nothing comes before the instruction, the entry of a trap just raised stands (R700). -/
theorem State.quiet.settle {s : State} (h : s.quiet) : s.settle = { s with raised := none } := by
  obtain ⟨-, hi, hr, -⟩ := h
  cases hraised : s.raised with
  | none =>
    rw [State.settle_of_not_raised hraised, ← hraised]
  | some r =>
    have hstands : s.intervenes r = false := by
      refine State.intervenes_eq_false hi ?_
      rw [hr]
      split <;> rfl
    rw [State.settle_stands hraised hstands, ← hr]

/-- The step is then the fetch and what follows from it (R700). -/
theorem State.quiet.step_eq {s : State} (h : s.quiet) : step s = fetchExecute s.begun := by
  have hsettle := h.settle
  have hnot := h.not_accepts
  obtain ⟨hm, hi, hr, -⟩ := h
  have hb : { s with raised := none }.boundary = { s with raised := none } := State.boundary_of_nothing hr hnot
  have hexecute : settledStep { s with raised := none } = executeStep { s with raised := none } := by
    unfold settledStep
    dsimp only
    rw [hm]
    exact if_neg (Bool.eq_false_iff.mp hi)
  unfold step modeStep
  rw [hsettle, hexecute]
  unfold executeStep
  rw [hb]
  exact if_pos hm

/-- The start of an instruction changes state registers, the delayed writes, the instruction buffer and the record of a raised trap
(R45, R182). -/
theorem State.begun_frame (s : State) :
    s.begun =
      { s with
        psr := s.begun.psr, wim := s.begun.wim, tba := s.begun.tba, y := s.begun.y, asr := s.begun.asr, pending := s.begun.pending
        ibuf := s.begun.ibuf, raised := none } := by
  have h := State.applyWrites_frame (s.pending.filter fun p => p.countdown == 0) { s with raised := none }
  unfold State.begun State.tickPending State.expireIBuf
  dsimp only at h ⊢
  generalize State.applyWrites _ _ = u at h ⊢
  rw [h]

/-! From the fetch on. -/

/-- What a memory read leaves of what the execution loop looks at. -/
theorem State.memoryRead_keeps_loop {b t : State} {asi : BitVec 8} {fetch isWord : Bool} {a : Word} {r : Except BusError Word}
    (h : b.memoryRead asi fetch isWord a = (t, r)) :
    t.cfg = b.cfg ∧ t.annul = b.annul ∧ t.rRegisterError = b.rRegisterError := by
  have hframe := b.memoryRead_frame asi fetch isWord a
  rw [h] at hframe
  dsimp only at hframe
  rw [hframe]
  exact ⟨rfl, rfl, rfl⟩

section
variable {b t : State} {r : Except BusError Word}

/-- An annulled instruction is fetched and passed over (R58, R681). -/
theorem fetchExecute_annulled (h : b.memoryRead b.fetchAsi true true b.pc = (t, r)) (ha : t.annul = true) :
    fetchExecute b = .next t.passAnnulled := by
  unfold fetchExecute
  rw [h]
  exact if_pos ha

/-- A fetch that fails takes its exception (R681, R692, R693). -/
theorem fetchExecute_failed {e : BusError} (h : b.memoryRead b.fetchAsi true true b.pc = (t, .error e)) (ha : t.annul = false) :
    fetchExecute b = .next (raise (t.fetchTrap e) t) := by
  unfold fetchExecute
  rw [h]
  exact if_neg (Bool.eq_false_iff.mp ha)

/-- Any other word runs (R700). -/
theorem fetchExecute_word {w : Word} (h : b.memoryRead b.fetchAsi true true b.pc = (t, .ok w)) (ha : t.annul = false) :
    fetchExecute b = runWord w { t with ir := w } := by
  unfold fetchExecute
  rw [h]
  exact if_neg (Bool.eq_false_iff.mp ha)

end

/-- MAE's exception is there on every implementation (R692, log 18). -/
theorem State.fetchTrap_mae (s : State) : s.fetchTrap .mae = .instructionAccessException := ite_self _

/-- What counts as executed (R765, R768). -/
theorem State.finish_eq_executed (s : State) : s.finish = executed s := by
  unfold State.finish executed
  by_cases h : s.raised = none
  · rw [if_pos h, if_neg (by rw [h]; decide)]
    rfl
  · rw [if_neg h, if_pos (Option.isSome_iff_ne_none.mpr h)]

section
variable {s : State} {w : Word} {i : Instr}

/-- A word of no instruction (R280). -/
theorem runWord_undecoded {err : DecodeError} (h : decode w = .error err) : runWord w s = .next (raise .illegalInstruction s) := by
  unfold runWord
  rw [h]

theorem runWord_decoded (h : decode w = .ok i) : runWord w s = dispatch i s := by
  unfold runWord
  rw [h]

/-- An injected register error that hits the instruction (R680). -/
theorem dispatch_registerError (h : (s.rRegisterError && detects s.cfg .rRegisterAccessError && readsRegister i) = true) :
    dispatch i s = .next (raise .rRegisterAccessError { s with rRegisterError := false }) :=
  if_pos h

variable (h : (s.rRegisterError && detects s.cfg .rRegisterAccessError && readsRegister i) = false)
include h

/-- An instruction the implementation lacks (R283). -/
theorem dispatch_unimplemented (hu : isUnimplemented s.cfg i = true) :
    dispatch i s = .next (raise (if isPrivileged s i && !s.psr.s then .privilegedInstruction else .illegalInstruction) s) :=
  (if_neg (Bool.eq_false_iff.mp h)).trans (if_pos hu)

/-- Every other instruction executes (R700). -/
theorem dispatch_executes (hu : isUnimplemented s.cfg i = false) {x : State} (hx : exec i s = .next x) :
    dispatch i s = .next (executed x) := by
  have hd : dispatch i s = finished (exec i s) := (if_neg (Bool.eq_false_iff.mp h)).trans (if_neg (Bool.eq_false_iff.mp hu))
  rw [hd, hx, ← x.finish_eq_executed]
  rfl

end

/-! The word in memory at PC. -/

/-- A word in memory is the four bytes at its key, most significant first (R122). -/
theorem Memory.readWord_of_bytes {m : Memory} {k : Nat} {w : Word}
    (h : ∀ n, n < 4 → Memory.read m (k + n) = (bytesOfWord w).getD n 0#8) : Memory.readWord m k = w := by
  have h0 := h 0 (by decide)
  have h1 := h 1 (by decide)
  have h2 := h 2 (by decide)
  have h3 := h 3 (by decide)
  unfold Memory.readWord
  rw [h1, h2, h3, show k = k + 0 from rfl, h0]
  exact wordOfBytes_bytes w

/-- The two address spaces of a fetch are memory's, and no MMU's own (R129, R130). -/
theorem State.fetchAsi_real (s : State) : realAsi s.fetchAsi = true := by
  unfold State.fetchAsi
  split <;> decide

/-- Without MMU, and with nothing kept in an instruction buffer, a fetch at a word address that the memory map accepts answers the word in
memory there and leaves everything as it was (R126, R130, R216). -/
theorem State.memoryRead_fetch_physical {s : State} (hmmu : s.cfg.hasRefMmu = false) (hibuf : s.ibuf = []) (ha : wordAligned s.pc)
    (hbus : s.busOutcome false s.pc.toNat = .ok) :
    s.memoryRead s.fetchAsi true true s.pc = (s, .ok (Memory.readWord s.mem s.pc.toNat)) := by
  have hnoMmu {p : Prop} : ¬ (s.cfg.hasRefMmu = true ∧ p) := fun h => Bool.noConfusion (hmmu.symm.trans h.1)
  have hkey : s.reachKey false s.pc.toNat = .key s.pc.toNat := by
    unfold State.reachKey
    rw [hbus]
  have hreach := State.reach_real s.fetchAsi_real hnoMmu true false s.pc
  rw [(wordAligned_iff _).mp ha, Nat.sub_zero, hkey] at hreach
  have hold : oldWords s.pc.toNat s.ibuf = [] := by
    rw [hibuf]
    rfl
  rw [State.memoryRead_fetch hnoMmu hreach true, State.fetchedWord_current hold]

end Sys2Proof.Machine

open Sys2Proof Sys2Proof.Machine

/-- Settles O4: the step is the fetch and, of what it answers, one of the cases of the execution loop. -/
theorem stepRunsDecodedInstruction : Obligations.StepRunsDecodedInstruction := by
  unfold Obligations.StepRunsDecodedInstruction
  intro s t r hq b hread
  obtain ⟨hcfg, hannul, herror⟩ := State.memoryRead_keeps_loop hread
  have hb : b.cfg = s.cfg ∧ b.annul = s.annul ∧ b.rRegisterError = s.rRegisterError := by
    rw [show b = _ from s.begun_frame]
    exact ⟨rfl, rfl, rfl⟩
  rw [hb.1] at hcfg
  rw [hb.2.1] at hannul
  rw [hb.2.2] at herror
  rw [hq.step_eq, ← hcfg, ← hannul, ← herror]
  refine ⟨fun ha => fetchExecute_annulled hread ha, fun ha => ⟨?_, ?_⟩⟩
  · rintro e rfl
    have hfailed := fetchExecute_failed hread ha
    cases e with
    | mae => exact hfailed.trans (by rw [t.fetchTrap_mae])
    | accessError | mmuMiss => exact hfailed
  · rintro w rfl
    rw [fetchExecute_word hread ha]
    refine ⟨fun err herr => runWord_undecoded herr, fun i hi => ?_⟩
    rw [runWord_decoded hi]
    exact ⟨fun h => dispatch_registerError (s := { t with ir := w }) h, fun h hu => dispatch_unimplemented (s := { t with ir := w }) h hu,
      fun h hu x hx => dispatch_executes (s := { t with ir := w }) h hu hx⟩

/-- Settles O5: the fetch answers the word in memory, which decodes to the instruction. -/
theorem stepRunsInstructionInMemory : Obligations.StepRunsInstructionInMemory := by
  unfold Obligations.StepRunsInstructionInMemory
  intro s i hq hannul hmmu hibuf ha hbus hwf hbytes herror hu x hx
  have hframe := s.begun_frame
  have hbegun : s.begun.ibuf = [] := by
    have h : s.begun.ibuf = expireFlushes { s with raised := none }.tickPending.ibuf := rfl
    have hkeep : { s with raised := none }.tickPending.ibuf = s.ibuf := by
      unfold State.tickPending
      rw [State.applyWrites_frame]
    rw [h, hkeep, hibuf]
    rfl
  have hread : s.begun.memoryRead s.begun.fetchAsi true true s.begun.pc = (s.begun, .ok i.encode) := by
    rw [State.memoryRead_fetch_physical (by rw [hframe]; exact hmmu) hbegun (by rw [hframe]; exact ha) (by rw [hframe]; exact hbus)]
    have hword : Memory.readWord s.begun.mem s.begun.pc.toNat = i.encode := by
      rw [hframe]
      exact Memory.readWord_of_bytes hbytes
    rw [hword]
  obtain ⟨-, hrun⟩ := stepRunsDecodedInstruction s s.begun _ hq hread
  obtain ⟨-, hword⟩ := hrun hannul
  obtain ⟨-, hdecoded⟩ := hword _ rfl
  obtain ⟨-, -, hexec⟩ := hdecoded i (decodeAndEncodeAgree.1 i hwf)
  exact hexec (by rw [herror]; rfl) hu x hx
end

section
/-! Every instruction answers a next state, and no operation writes the implementation's parameters (R9, R10): so every step does, and leaves
them alone (R700, R750). -/

namespace Sys2Proof.Machine

/-- `f` leaves the implementation's parameters alone. -/
def KeepsCfg (f : State → State) : Prop := ∀ s, (f s).cfg = s.cfg

/-! The shared operations. -/

theorem raise_keepsCfg (e : Trap) : KeepsCfg (raise e) := fun s => (raise_cfg e s).trans (takeTrap_cfg e s)

theorem State.memoryRead_cfg (s : State) (asi fetch isWord a) : (s.memoryRead asi fetch isWord a).1.cfg = s.cfg := by
  rw [State.memoryRead_frame]

theorem State.memoryWrite_cfg (s : State) (asi isWord a mask data) : (s.memoryWrite asi isWord a mask data).1.cfg = s.cfg := by
  rw [State.memoryWrite_frame]

theorem State.ifAligned_cfg {k : State → State} (hk : KeepsCfg k) (s : State) (size a) : (s.ifAligned size a k).cfg = s.cfg := by
  unfold State.ifAligned
  split
  · exact hk s
  · exact raise_keepsCfg _ s

/-- A read that goes on, or takes its exception (R324). -/
theorem State.reading_cfg {k : Word → State → State} (hk : ∀ w, KeepsCfg (k w)) (s : State) (asi size a) :
    (s.reading asi size a k).cfg = s.cfg := by
  have hread := s.memoryRead_cfg asi false (size == .word) a
  unfold State.reading
  split <;> rename_i h <;> rw [h] at hread
  · exact (hk _ _).trans hread
  · exact (raise_keepsCfg _ _).trans hread

/-- A write that goes on, or takes its exception (R324). -/
theorem State.writing_cfg {k : State → State} (hk : KeepsCfg k) (s : State) (asi size a v) : (s.writing asi size a v k).cfg = s.cfg := by
  have hwrite := s.memoryWrite_cfg asi (size == .word) a (storeMask size a) (storeData size a v)
  unfold State.writing
  split <;> rename_i h <;> rw [h] at hwrite
  · exact (hk _).trans hwrite
  · exact (raise_keepsCfg _ _).trans hwrite

theorem State.readingDouble_cfg {first second : Word → State → State} (h₁ : ∀ w, KeepsCfg (first w)) (h₂ : ∀ w, KeepsCfg (second w))
    (s : State) (asi a) : (s.readingDouble asi a first second).cfg = s.cfg :=
  State.reading_cfg (fun w t => (State.reading_cfg h₂ ..).trans (h₁ w t)) ..

theorem State.writingDouble_cfg {k : State → State} (hk : KeepsCfg k) (s : State) (asi a v0 v1) :
    (s.writingDouble asi a v0 v1 k).cfg = s.cfg :=
  State.writing_cfg (fun _ => State.writing_cfg hk ..) ..

/-- The checks of privilege and of i = 1 (R322). -/
theorem State.alternate_cfg {s : State} {k : BitVec 8 → RegNum → State} (hk : ∀ asi rs2, (k asi rs2).cfg = s.cfg) (alt) :
    (s.alternate alt k).cfg = s.cfg := by
  unfold State.alternate
  split
  · split
    · exact hk ..
    · exact raise_keepsCfg _ s
  · exact raise_keepsCfg _ s

theorem State.supervisor_cfg {s k : State} (hk : k.cfg = s.cfg) : (s.supervisor k).cfg = s.cfg := by
  unfold State.supervisor
  split
  · exact hk
  · exact raise_keepsCfg _ s

theorem State.accessAsr_cfg {s k : State} (hk : k.cfg = s.cfg) (n) : (s.accessAsr n k).cfg = s.cfg := by
  unfold State.accessAsr
  split
  · exact raise_keepsCfg _ s
  · split
    · exact hk
    · exact raise_keepsCfg _ s

/-! Loads and stores of the integer unit. -/

/-- Delivering a value to r[rd] and advancing. -/
theorem State.deliver_cfg (s : State) (rd v) : (s.setReg rd v).advance.cfg = s.cfg := s.setReg_cfg rd v

theorem loadReg_cfg (size signed rd asi a) : KeepsCfg (loadReg size signed rd asi a) :=
  fun s => State.ifAligned_cfg (fun s => State.reading_cfg (fun _ t => t.deliver_cfg ..) s ..) s ..

theorem storeReg_cfg (size rd asi a) : KeepsCfg (storeReg size rd asi a) :=
  fun s => State.ifAligned_cfg (fun s => State.writing_cfg State.advance_cfg s ..) s ..

theorem loadRegDouble_cfg (rd asi a) : KeepsCfg (loadRegDouble rd asi a) := by
  intro s
  unfold loadRegDouble
  split
  · exact raise_keepsCfg _ s
  · exact State.ifAligned_cfg (fun s => State.readingDouble_cfg (fun _ t => t.setReg_cfg ..) (fun _ t => t.deliver_cfg ..) s ..) s ..

theorem storeRegDouble_cfg (rd asi a) : KeepsCfg (storeRegDouble rd asi a) := by
  intro s
  unfold storeRegDouble
  split
  · exact raise_keepsCfg _ s
  · exact State.ifAligned_cfg (fun s => State.writingDouble_cfg State.advance_cfg s ..) s ..

theorem atomicAccess_cfg {block : State → Bool → State} (hb : ∀ s b, (block s b).cfg = s.cfg) (size rd asi a new) :
    KeepsCfg (atomicAccess block size rd asi a new) := by
  intro s
  have hread := (State.memoryRead_cfg (block s true) asi false (size == .word) a).trans (hb s true)
  unfold atomicAccess
  split <;> rename_i t x h <;> rw [h] at hread
  · exact (raise_keepsCfg _ _).trans ((hb _ _).trans hread)
  · have hwrite := (t.memoryWrite_cfg asi (size == .word) a (storeMask size a) (storeData size a new)).trans hread
    split <;> rename_i h <;> rw [h] at hwrite
    · exact (raise_keepsCfg _ _).trans ((hb _ _).trans hwrite)
    · exact (State.deliver_cfg ..).trans ((hb _ _).trans hwrite)

theorem loadStoreByte_cfg (rd asi a) : KeepsCfg (loadStoreByte rd asi a) := fun _ => atomicAccess_cfg State.blockByte_cfg ..

theorem swapWord_cfg (rd asi a) : KeepsCfg (swapWord rd asi a) :=
  fun s => State.ifAligned_cfg (fun s => atomicAccess_cfg State.blockWord_cfg _ _ _ _ _ s) s ..

/-! Integer arithmetic. -/

theorem arithTrap_cfg (f icc overflow rd rs1 op2) : KeepsCfg (arithTrap f icc overflow rd rs1 op2) := by
  intro s
  unfold arithTrap
  split
  · exact raise_keepsCfg _ s
  · exact s.setReg_cfg ..

theorem State.divideY_cfg (s : State) (q) : (s.divideY q).cfg = s.cfg := by
  unfold State.divideY
  split <;> rfl

theorem divide_cfg (quotient rd rs1 op2) : KeepsCfg (divide quotient rd rs1 op2) := by
  intro s
  unfold divide
  split
  · exact raise_keepsCfg _ s
  · exact (State.divideY_cfg ..).trans (s.setReg_cfg ..)

theorem divideCc_cfg (quotient rd rs1 op2) : KeepsCfg (divideCc quotient rd rs1 op2) := by
  intro s
  unfold divideCc
  split
  · exact raise_keepsCfg _ s
  · exact (State.divideY_cfg ..).trans (s.setReg_cfg ..)

theorem changeWindow_cfg (w e rd rs1 op2) : KeepsCfg (changeWindow w e rd rs1 op2) := by
  intro s
  unfold changeWindow
  split
  · exact raise_keepsCfg _ s
  · exact (s.setCwp w).setReg_cfg ..

/-! Control transfer. -/

theorem branch_cfg (taken cond a disp22) : KeepsCfg (branch taken cond a disp22) := by
  intro s
  unfold branch
  split <;> rfl

theorem trapIcc_cfg (cond rs1 opn) : KeepsCfg (trapIcc cond rs1 opn) := by
  intro s
  unfold trapIcc
  split
  · exact raise_keepsCfg _ s
  · rfl

theorem jumpLink_cfg (rd rs1 op2) : KeepsCfg (jumpLink rd rs1 op2) :=
  fun s => State.ifAligned_cfg (k := fun t => (t.setReg rd t.pc).jump _) (fun t => t.setReg_cfg ..) s ..

theorem returnTrap_cfg (rs1 op2) : KeepsCfg (returnTrap rs1 op2) := by
  intro s
  unfold returnTrap
  split
  · exact raise_keepsCfg _ s
  · split
    · rfl
    · split
      · rfl
      · split <;> rfl

/-! State registers. -/

theorem readAsr_cfg (rd rs1) : KeepsCfg (readAsr rd rs1) := by
  intro s
  unfold readAsr
  split
  · exact State.accessAsr_cfg (s.deliver_cfg ..) _
  · exact s.deliver_cfg ..

theorem writeAsr_cfg (rd rs1 op2) : KeepsCfg (writeAsr rd rs1 op2) := by
  intro s
  unfold writeAsr
  split
  · exact State.accessAsr_cfg (by rfl) _
  · rfl

theorem writePsr_cfg (rs1 op2) : KeepsCfg (writePsr rs1 op2) := by
  intro s
  refine State.supervisor_cfg ?_
  split
  · exact raise_keepsCfg _ s
  · rfl

theorem flush_cfg (a) : KeepsCfg (flush a) := by
  intro s
  unfold flush
  split
  · exact s.flushAddress_cfg a
  · exact raise_keepsCfg _ s
  · exact raise_keepsCfg _ s

/-! The floating-point unit. -/

theorem raiseFp_cfg (t) : KeepsCfg (raiseFp t) := fun s => raise_keepsCfg _ (s.setFtt t)

theorem takePendingFp_cfg : KeepsCfg takePendingFp := fun _ => raise_keepsCfg _ _

theorem fpLoadSequenceError_cfg : KeepsCfg fpLoadSequenceError := by
  intro s
  unfold fpLoadSequenceError
  split
  · exact takePendingFp_cfg s.sequenceError
  · rfl

theorem State.fpReady_cfg {k : State → State} (hk : KeepsCfg k) (s : State) : (s.fpReady k).cfg = s.cfg := by
  unfold State.fpReady
  split
  · split
    · exact hk s
    · exact takePendingFp_cfg s
    · exact fpLoadSequenceError_cfg s
  · exact hk s

theorem State.fpStoreReady_cfg {k : State → State} (hk : KeepsCfg k) (s : State) : (s.fpStoreReady k).cfg = s.cfg := by
  unfold State.fpStoreReady
  split
  · exact takePendingFp_cfg s
  · exact hk s

theorem State.fpopReady_cfg {k : State → State} (hk : KeepsCfg k) (s : State) : (s.fpopReady k).cfg = s.cfg := by
  unfold State.fpopReady
  split
  · split
    · split
      · exact hk s
      · exact takePendingFp_cfg s
      · rfl
    · exact hk s
  · exact raise_keepsCfg _ s

theorem fpTrap_cfg (t) : KeepsCfg (fpTrap t) := by
  intro s
  unfold fpTrap
  split
  · rfl
  · exact raiseFp_cfg t s

theorem fpComplete_cfg {write : State → State} (hw : KeepsCfg write) (texc) : KeepsCfg (fpComplete texc write) := by
  intro s
  unfold fpComplete
  split
  · exact fpTrap_cfg _ (s.setCexc _)
  · exact hw (s.completeFsr texc)

theorem fpopBody_cfg {write : State → State} (hw : KeepsCfg write) (name misaligned a b texc) :
    KeepsCfg (fpopBody name misaligned a b texc write) := by
  intro s
  unfold fpopBody
  split
  · exact fpTrap_cfg _ s
  · split
    · exact fpTrap_cfg _ s
    · split
      · exact fpTrap_cfg _ s
      · exact fpComplete_cfg hw texc s

theorem State.setFp_cfg (t k v) : KeepsCfg (fun s => s.setFp t k v) := by
  intro s
  obtain ⟨-, -, hframe⟩ := s.setFp_spec t k v
  dsimp only
  rw [hframe]

theorem fpUnary_cfg (name src dst op rd rs2) : KeepsCfg (fpUnary name src dst op rd rs2) :=
  State.fpopReady_cfg fun s => fpopBody_cfg (State.setFp_cfg _ _ _) _ _ _ _ _ s

theorem fpBinary_cfg (name src dst op rd rs1 rs2) : KeepsCfg (fpBinary name src dst op rd rs1 rs2) :=
  State.fpopReady_cfg fun s => fpopBody_cfg (State.setFp_cfg _ _ _) _ _ _ _ _ s

theorem fpCmp_cfg (name signalsQuiet t rs1 rs2) : KeepsCfg (fpCmp name signalsQuiet t rs1 rs2) :=
  State.fpopReady_cfg fun s => fpopBody_cfg (fun u => u.setFcc_cfg _) _ _ _ _ _ s

theorem fpMove_cfg (name f rd rs2) : KeepsCfg (fpMove name f rd rs2) := by
  refine State.fpopReady_cfg fun s => ?_
  split
  · exact fpTrap_cfg _ s
  · exact fpComplete_cfg (fun u => u.setFreg_cfg ..) _ s

theorem fpUnassigned_cfg : KeepsCfg fpUnassigned := State.fpopReady_cfg (fpTrap_cfg _)

theorem branchFcc_cfg (cond a disp22) : KeepsCfg (branchFcc cond a disp22) := by
  intro s
  unfold branchFcc
  split
  · refine State.fpReady_cfg (fun s => ?_) s
    split
    · exact branch_cfg _ _ _ _ s.drawn
    · split
      · exact branch_cfg _ _ _ _ s.drawn
      · exact branch_cfg _ _ _ _ s
  · exact raise_keepsCfg _ s

theorem fpLoad_cfg {k : State → State} (hk : KeepsCfg k) (size badReg a) : KeepsCfg (fpLoad size badReg a k) := by
  intro s
  unfold fpLoad
  split
  · refine State.ifAligned_cfg (fun s => ?_) s ..
    split
    · exact raiseFp_cfg _ s
    · exact State.fpReady_cfg hk s
  · exact raise_keepsCfg _ s

theorem fpStore_cfg {k : State → State} (hk : KeepsCfg k) (size badReg a) : KeepsCfg (fpStore size badReg a k) := by
  intro s
  unfold fpStore
  split
  · refine State.ifAligned_cfg (State.fpStoreReady_cfg fun s => ?_) s ..
    split
    · exact raiseFp_cfg _ s
    · exact hk s
  · exact raise_keepsCfg _ s

theorem loadF_cfg (rd a) : KeepsCfg (loadF rd a) := by
  intro s
  refine fpLoad_cfg (fun s => State.reading_cfg (fun w t => ?_) s ..) _ _ _ s
  exact t.setFreg_cfg rd w

theorem loadDf_cfg (rd a) : KeepsCfg (loadDf rd a) := by
  intro s
  refine fpLoad_cfg (fun s => State.readingDouble_cfg (fun w t => ?_) (fun w t => ?_) s ..) _ _ _ s
  · exact t.setFreg_cfg (evenReg rd) w
  · exact t.setFreg_cfg (oddReg rd) w

theorem loadFsrWord_cfg (a) : KeepsCfg (loadFsrWord a) := by
  intro s
  refine fpLoad_cfg (fun s => State.reading_cfg (fun w t => ?_) s ..) _ _ _ s
  exact t.loadFsr_cfg w

theorem storeF_cfg (rd a) : KeepsCfg (storeF rd a) := fun _ => fpStore_cfg (fun s => State.writing_cfg State.advance_cfg s ..) ..

theorem storeDf_cfg (rd a) : KeepsCfg (storeDf rd a) := fun _ => fpStore_cfg (fun s => State.writingDouble_cfg State.advance_cfg s ..) ..

theorem storeFsr_cfg (a) : KeepsCfg (storeFsr a) := fun _ => fpStore_cfg (fun s => State.writing_cfg State.advance_cfg s ..) ..

theorem storeDfq_cfg (a) : KeepsCfg (storeDfq a) := by
  intro s
  unfold storeDfq
  split
  · refine fpStore_cfg (fun s => ?_) _ _ _ s
    split
    · exact State.writingDouble_cfg (k := fun t => t.popFq.advance) State.popFq_cfg s ..
    · exact raiseFp_cfg _ s
  · exact raise_keepsCfg _ s

/-! The coprocessor. -/

theorem State.cpReady_cfg {k : State → State} (hk : KeepsCfg k) (s : State) : (s.cpReady k).cfg = s.cfg := by
  unfold State.cpReady
  split
  · exact raise_keepsCfg _ _
  · exact hk s

theorem cpLoad_cfg {k : State → State} (hk : KeepsCfg k) (size a) : KeepsCfg (cpLoad size a k) := by
  intro s
  unfold cpLoad
  split
  · refine State.ifAligned_cfg (State.cpReady_cfg fun s => ?_) s ..
    split
    · exact raise_keepsCfg _ s
    · exact hk s
  · exact raise_keepsCfg _ s

theorem cpStore_cfg {k : State → State} (hk : KeepsCfg k) (size a) : KeepsCfg (cpStore size a k) := by
  intro s
  unfold cpStore
  split
  · exact State.ifAligned_cfg (State.cpReady_cfg hk) s ..
  · exact raise_keepsCfg _ s

theorem loadCplace_cfg (p a) : KeepsCfg (loadCplace p a) := by
  intro s
  refine cpLoad_cfg (fun s => State.reading_cfg (fun w t => ?_) s ..) _ _ s
  exact t.setCplace_cfg p w

theorem loadDc_cfg (rd a) : KeepsCfg (loadDc rd a) := by
  intro s
  refine cpLoad_cfg (fun s => State.readingDouble_cfg (fun w t => ?_) (fun w t => ?_) s ..) _ _ s
  · exact t.setCplace_cfg (.register (evenReg rd)) w
  · exact t.setCplace_cfg (.register (oddReg rd)) w

theorem storeCplace_cfg (p a) : KeepsCfg (storeCplace p a) := fun _ => cpStore_cfg (fun s => State.writing_cfg State.advance_cfg s ..) ..

theorem storeDc_cfg (rd a) : KeepsCfg (storeDc rd a) := fun _ => cpStore_cfg (fun s => State.writingDouble_cfg State.advance_cfg s ..) ..

theorem storeDcq_cfg (a) : KeepsCfg (storeDcq a) := by
  intro s
  unfold storeDcq
  split
  · refine cpStore_cfg (fun s => ?_) _ _ s
    split
    · exact State.writingDouble_cfg (k := fun t => t.popCq.advance) State.popCq_cfg s ..
    · exact raise_keepsCfg _ s
  · exact raise_keepsCfg _ s

theorem cpTrap_cfg : KeepsCfg cpTrap := by
  intro s
  unfold cpTrap
  split
  · rfl
  · exact raise_keepsCfg _ s

theorem cpOp_cfg (which name rd rs1 opc rs2) : KeepsCfg (cpOp which name rd rs1 opc rs2) := by
  intro s
  unfold cpOp
  split
  · refine State.cpReady_cfg (fun s => ?_) s
    split
    · exact cpTrap_cfg s
    · dsimp only
      split
      · exact cpTrap_cfg (s.setCp _)
      · rfl
  · exact raise_keepsCfg _ s

theorem branchCp_cfg (cond a disp22) : KeepsCfg (branchCp cond a disp22) := by
  intro s
  unfold branchCp
  split
  · exact State.cpReady_cfg (branch_cfg _ _ _ _) s
  · exact raise_keepsCfg _ s

/-! The answers. -/

/-- The answer is a next state, with the parameters of `s`. -/
def NextOf (s : State) (a : Answer) : Prop := ∃ t, a = .next t ∧ t.cfg = s.cfg

theorem nextOf_next {s t : State} (h : t.cfg = s.cfg) : NextOf s (.next t) := ⟨t, rfl, h⟩

theorem NextOf.congr {s u : State} {a : Answer} (h : NextOf u a) (hu : u.cfg = s.cfg) : NextOf s a := by
  obtain ⟨t, ha, ht⟩ := h
  exact ⟨t, ha, ht.trans hu⟩

/-- Each instruction is one of the shared operations, and so answers a next state. -/
theorem exec_nextOf (i : Instr) (s : State) : NextOf s (exec i s) := by
  cases i with
  | ldsb | ldsh | ldub | lduh | ld => exact nextOf_next (loadReg_cfg _ _ _ _ _ s)
  | ldsba | ldsha | lduba | lduha | lda => exact nextOf_next (State.alternate_cfg (fun _ _ => loadReg_cfg _ _ _ _ _ s) _)
  | ldd => exact nextOf_next (loadRegDouble_cfg _ _ _ s)
  | ldda => exact nextOf_next (State.alternate_cfg (fun _ _ => loadRegDouble_cfg _ _ _ s) _)
  | stb | sth | st => exact nextOf_next (storeReg_cfg _ _ _ _ s)
  | stba | stha | sta => exact nextOf_next (State.alternate_cfg (fun _ _ => storeReg_cfg _ _ _ _ s) _)
  | std => exact nextOf_next (storeRegDouble_cfg _ _ _ s)
  | stda => exact nextOf_next (State.alternate_cfg (fun _ _ => storeRegDouble_cfg _ _ _ s) _)
  | ldstub => exact nextOf_next (loadStoreByte_cfg _ _ _ s)
  | ldstuba => exact nextOf_next (State.alternate_cfg (fun _ _ => loadStoreByte_cfg _ _ _ s) _)
  | swap => exact nextOf_next (swapWord_cfg _ _ _ s)
  | swapa => exact nextOf_next (State.alternate_cfg (fun _ _ => swapWord_cfg _ _ _ s) _)
  | ldf => exact nextOf_next (loadF_cfg _ _ s)
  | lddf => exact nextOf_next (loadDf_cfg _ _ s)
  | ldfsr => exact nextOf_next (loadFsrWord_cfg _ s)
  | stf => exact nextOf_next (storeF_cfg _ _ s)
  | stdf => exact nextOf_next (storeDf_cfg _ _ s)
  | stfsr => exact nextOf_next (storeFsr_cfg _ s)
  | stdfq => exact nextOf_next (storeDfq_cfg _ s)
  | ldc | ldcsr => exact nextOf_next (loadCplace_cfg _ _ s)
  | lddc => exact nextOf_next (loadDc_cfg _ _ s)
  | stc | stcsr => exact nextOf_next (storeCplace_cfg _ _ s)
  | stdc => exact nextOf_next (storeDc_cfg _ _ s)
  | stdcq => exact nextOf_next (storeDcq_cfg _ s)
  | sethi | and | andn | or | orn | xor | xnor | sll | srl | sra | add | addx | sub | subx | rdy | andcc | andncc | orcc | orncc | xorcc
  | xnorcc | addcc | addxcc | taddcc | subcc | subxcc | tsubcc | mulscc | umul | smul | umulcc | smulcc | call =>
    exact nextOf_next (s.setReg_cfg ..)
  | taddcctv | tsubcctv => exact nextOf_next (arithTrap_cfg _ _ _ _ _ _ s)
  | udiv | sdiv => exact nextOf_next (divide_cfg _ _ _ _ s)
  | udivcc | sdivcc => exact nextOf_next (divideCc_cfg _ _ _ _ s)
  | save | restore => exact nextOf_next (changeWindow_cfg _ _ _ _ _ s)
  | bn | be | ble | bl | bleu | bcs | bneg | bvs | ba | bne | bg | bge | bgu | bcc | bpos | bvc =>
    exact nextOf_next (branch_cfg _ _ _ _ s)
  | fbn | fbne | fblg | fbul | fbl | fbug | fbg | fbu | fba | fbe | fbue | fbge | fbuge | fble | fbule | fbo =>
    exact nextOf_next (branchFcc_cfg _ _ _ s)
  | cbn | cb123 | cb12 | cb13 | cb1 | cb23 | cb2 | cb3 | cba | cb0 | cb03 | cb02 | cb023 | cb01 | cb013 | cb012 =>
    exact nextOf_next (branchCp_cfg _ _ _ s)
  | jmpl => exact nextOf_next (jumpLink_cfg _ _ _ s)
  | rett => exact nextOf_next (returnTrap_cfg _ _ s)
  | tn | te | tle | tl | tleu | tcs | tneg | tvs | ta | tne | tg | tge | tgu | tcc | tpos | tvc => exact nextOf_next (trapIcc_cfg _ _ _ s)
  | nop | stbar | wry => exact nextOf_next rfl
  | unimp => exact nextOf_next (raise_keepsCfg _ s)
  | rdasr => exact nextOf_next (readAsr_cfg _ _ s)
  | rdpsr | rdwim | rdtbr => exact nextOf_next (State.supervisor_cfg (s.deliver_cfg ..))
  | wrasr => exact nextOf_next (writeAsr_cfg _ _ _ s)
  | wrpsr => exact nextOf_next (writePsr_cfg _ _ s)
  | wrwim | wrtbr => exact nextOf_next (State.supervisor_cfg (by rfl))
  | flush => exact nextOf_next (flush_cfg _ s)
  | fitos | fitod | fitoq | fstoi | fdtoi | fqtoi | fstod | fstoq | fdtos | fdtoq | fqtos | fqtod | fsqrts | fsqrtd | fsqrtq =>
    exact nextOf_next (fpUnary_cfg _ _ _ _ _ _ s)
  | fmovs | fnegs | fabss => exact nextOf_next (fpMove_cfg _ _ _ _ s)
  | fadds | faddd | faddq | fsubs | fsubd | fsubq | fmuls | fmuld | fmulq | fsmuld | fdmulq | fdivs | fdivd | fdivq =>
    exact nextOf_next (fpBinary_cfg _ _ _ _ _ _ _ s)
  | fcmps | fcmpd | fcmpq | fcmpes | fcmped | fcmpeq => exact nextOf_next (fpCmp_cfg _ _ _ _ _ s)
  | fpop1Unassigned | fpop2Unassigned => exact nextOf_next (fpUnassigned_cfg s)
  | cpop1 | cpop2 => exact nextOf_next (cpOp_cfg _ _ _ _ _ _ s)

/-! The execution loop (R700) and the modes (R750). -/

theorem State.finish_cfg (s : State) : s.finish.cfg = s.cfg := by
  unfold State.finish
  split <;> rfl

theorem dispatch_nextOf (i : Instr) (s : State) : NextOf s (dispatch i s) := by
  unfold dispatch
  split
  · exact nextOf_next (raise_keepsCfg _ s.clearRegisterError)
  · split
    · exact nextOf_next (raise_keepsCfg _ s)
    · obtain ⟨t, hx, ht⟩ := exec_nextOf i s
      rw [hx]
      exact nextOf_next (t.finish_cfg.trans ht)

theorem runWord_nextOf (w : Word) (s : State) : NextOf s (runWord w s) := by
  unfold runWord
  split
  · exact dispatch_nextOf _ s
  · exact nextOf_next (raise_keepsCfg _ s)

theorem fetchExecute_nextOf (s : State) : NextOf s (fetchExecute s) := by
  have hread := s.memoryRead_cfg s.fetchAsi true true s.pc
  unfold fetchExecute
  split
  next t r h =>
    rw [h] at hread
    split
    · exact nextOf_next hread
    · split
      · exact nextOf_next ((raise_keepsCfg _ t).trans hread)
      · exact (runWord_nextOf _ (t.setIr _)).congr hread

theorem State.tickPending_cfg (s : State) : s.tickPending.cfg = s.cfg := by
  unfold State.tickPending
  rw [State.applyWrites_frame]

theorem State.boundary_cfg (s : State) : s.boundary.cfg = s.cfg := by
  obtain hb | ⟨-, e, hb⟩ | ⟨hb, -⟩ := s.boundary_cases
  · have hentry : s.enterTrapWindow.cfg = s.cfg := by rw [s.enterTrapWindow_frame]
    rw [hb]
    exact hentry
  · rw [hb, takeTrap_cfg]
  · rw [hb]

theorem executeStep_nextOf (s : State) : NextOf s (executeStep s) := by
  unfold executeStep
  dsimp only
  split
  · exact (fetchExecute_nextOf _).congr (s.boundary.tickPending_cfg.trans s.boundary_cfg)
  · exact nextOf_next s.boundary_cfg

theorem settledStep_nextOf (s : State) : NextOf s (settledStep s) := by
  unfold settledStep
  split
  · split <;> exact nextOf_next rfl
  · split <;> exact nextOf_next rfl
  · split
    · exact nextOf_next rfl
    · exact executeStep_nextOf s

/-- What became of a raised trap does not touch the parameters (R700). -/
theorem State.settle_cfg (s : State) : s.settle.cfg = s.cfg := by
  unfold State.settle
  split
  · split <;> rfl
  · rfl

end Sys2Proof.Machine

open Sys2Proof Sys2Proof.Machine

/-- Settles O6: a step is one of the modes' answers, each of which is a next state. -/
theorem everyStepAnswersNextState : Obligations.EveryStepAnswersNextState :=
  fun s => (settledStep_nextOf s.settle).congr s.settle_cfg

/-- Settles O8: the reset state clause by clause; most are facts about its literal fields. -/
theorem resetHasInvariant : Obligations.ResetHasInvariant := by
  unfold Obligations.ResetHasInvariant
  exact
    { memory := rfl, pc := rfl, npc := rfl, cwp := by decide, wim := by decide
      ec := fun h => Bool.noConfusion h, ef := fun h => Bool.noConfusion h
      pending := fun _ h => absurd h List.not_mem_nil, raised := fun _ h => absurd h.symm (Option.some_ne_none _)
      pbError := ⟨fun h => Bool.noConfusion h, fun h => Mode.noConfusion h⟩, blockByte := rfl, blockWord := rfl
      ns := fun h => Bool.noConfusion h, fqAbsent := fun _ => rfl, fqDepth := Nat.zero_le _, fpuMode := fun _ => ⟨rfl, rfl⟩
      cp := fun h => Bool.noConfusion h, ctx := by decide, fav := rfl }

/-- Settles O9: each value is the field's in the definition of the reset state. -/
theorem resetStateValues : Obligations.ResetStateValues := by
  unfold Obligations.ResetStateValues
  decide
end

section
/-! The FPops that are accepted and finished (R553, R560 to R597): what they write where nothing raised is enabled, and the trap where
something is; and what a compare raises (R592, R606, R612). -/

namespace Sys2Proof.Machine

/-! The moves. -/

/-- A move the FPU executes completes, raising nothing (R572 to R574). -/
theorem fpMove_accepted {s : State} {name : String} (hr : s.fpuReady) (hp : s.cfg.unimplSet.contains name = false) (f : Word → Word)
    (rd rs2 : RegNum) : fpMove name f rd rs2 s = ((s.completeFsr 0#5).setFreg rd (f (s.freg rs2))).advance := by
  unfold fpMove
  rw [State.fpopReady_ready hr, if_neg (Bool.eq_false_iff.mp hp), fpComplete_untrapped BitVec.zero_and]

/-- It writes f[rd], cexc and ftt, and nothing else (R572 to R574). -/
theorem completes_fpMove {i : Instr} {s : State} {f : Word → Word} {rd rs2 : RegNum} (hx : exec i s = .next (fpMove i.mnemonic f rd rs2 s))
    (h : s.fpopAccepted i false) :
    Completes i s fun t =>
      t = { s with f := t.f, fsr := completedFsr s.fsr 0#5, pc := s.npc, npc := s.npc + 4#32 } ∧
      t.freg rd = f (s.freg rs2) ∧ ∀ n, n ≠ rd → t.freg n = s.freg n := by
  obtain ⟨hr, hp, -⟩ := h
  refine ⟨_, hx.trans (congrArg _ (fpMove_accepted hr hp f rd rs2)), rfl, ?_, fun n hn => ?_⟩
  · exact (s.completeFsr 0#5).freg_setFreg_same rd _
  · exact (s.completeFsr 0#5).freg_setFreg_ne _ hn

/-- The sign bit complemented is 2^31 added (R573). -/
theorem xor_signBit (w : Word) : w ^^^ 0x80000000#32 = BitVec.ofNat 32 ((w.toNat + 2 ^ 31) % 2 ^ 32) := by
  have hlow : (w.toNat ^^^ 2 ^ 31) % 2 ^ 31 = w.toNat % 2 ^ 31 := by
    rw [Nat.xor_mod_two_pow, Nat.mod_self, Nat.xor_zero]
  have hhigh : (w.toNat ^^^ 2 ^ 31) / 2 ^ 31 = w.toNat / 2 ^ 31 ^^^ 1 := by
    rw [Nat.xor_div_two_pow, Nat.div_self (by decide)]
  have hbit : w.toNat / 2 ^ 31 = 0 ∨ w.toNat / 2 ^ 31 = 1 := by omega
  have hxor : (w ^^^ 0x80000000#32).toNat = w.toNat ^^^ 2 ^ 31 := BitVec.toNat_xor ..
  refine BitVec.eq_of_toNat_eq ?_
  rw [hxor, BitVec.toNat_ofNat, Nat.mod_mod]
  rcases hbit with h | h <;> rw [h] at hhigh <;> norm_num at hhigh hlow ⊢ <;> omega

/-- The sign bit cleared is what remains modulo 2^31 (R574). -/
theorem and_notSignBit (w : Word) : w &&& 0x7FFFFFFF#32 = BitVec.ofNat 32 (w.toNat % 2 ^ 31) := by
  refine BitVec.eq_of_toNat_eq ?_
  rw [BitVec.toNat_and, BitVec.toNat_ofNat]
  exact (Nat.and_two_pow_sub_one_eq_mod _ 31).trans (Nat.mod_eq_of_lt (by omega)).symm

/-! The FPops with operands to compute on: the end of one accepted and finished. -/

section
variable {s : State}

/-- An FPop of one operand (R553). -/
theorem exec_fpUnaryRow_accepted {r : FpUnaryRow} (h : r ∈ fpUnaryRows) {rd rs2 : RegNum}
    (ha : s.fpopAccepted (r.instr rd rs2) (r.src.misaligned rs2 || r.dst.misaligned rd))
    (hu : s.unfinished (r.instr rd rs2).mnemonic (s.fpOperand r.src rs2) 0 (r.op s.fpEnv (s.fpOperand r.src rs2)).texc.bits = false) :
    exec (r.instr rd rs2) s =
      .next (fpComplete (r.op s.fpEnv (s.fpOperand r.src rs2)).texc.bits
        (fun t => t.setFp r.dst rd (r.op s.fpEnv (s.fpOperand r.src rs2)).bits) s) := by
  obtain ⟨hready, hpresent, haligned⟩ := ha
  rw [exec_fpUnaryRow h, fpUnary, State.fpopReady_ready hready]
  exact congrArg Host.Outcome.next (fpopBody_accepted hpresent haligned hu)

/-- One of two (R553). -/
theorem exec_fpBinaryRow_accepted {r : FpBinaryRow} (h : r ∈ fpBinaryRows) {rd rs1 rs2 : RegNum}
    (ha : s.fpopAccepted (r.instr rd rs1 rs2) (r.src.misaligned rs1 || r.src.misaligned rs2 || r.dst.misaligned rd))
    (hu : s.unfinished (r.instr rd rs1 rs2).mnemonic (s.fpOperand r.src rs1) (s.fpOperand r.src rs2)
      (r.op s.fpEnv (s.fpOperand r.src rs1) (s.fpOperand r.src rs2)).texc.bits = false) :
    exec (r.instr rd rs1 rs2) s =
      .next (fpComplete (r.op s.fpEnv (s.fpOperand r.src rs1) (s.fpOperand r.src rs2)).texc.bits
        (fun t => t.setFp r.dst rd (r.op s.fpEnv (s.fpOperand r.src rs1) (s.fpOperand r.src rs2)).bits) s) := by
  obtain ⟨hready, hpresent, haligned⟩ := ha
  rw [exec_fpBinaryRow h, fpBinary, State.fpopReady_ready hready]
  exact congrArg Host.Outcome.next (fpopBody_accepted hpresent haligned hu)

/-- A compare (R553). -/
theorem exec_fpCompareRow_accepted {r : FpCompareRow} (h : r ∈ fpCompareRows) {rs1 rs2 : RegNum}
    (ha : s.fpopAccepted (r.instr rs1 rs2) (r.fmt.misaligned rs1 || r.fmt.misaligned rs2))
    (hu : s.unfinished (r.instr rs1 rs2).mnemonic (s.fpOperand r.fmt rs1) (s.fpOperand r.fmt rs2)
      (fpCompare r.signalsQuiet r.fmt s.fpEnv (s.fpOperand r.fmt rs1) (s.fpOperand r.fmt rs2)).texc.bits = false) :
    exec (r.instr rs1 rs2) s =
      .next (fpComplete (fpCompare r.signalsQuiet r.fmt s.fpEnv (s.fpOperand r.fmt rs1) (s.fpOperand r.fmt rs2)).texc.bits
        (fun u => u.setFcc (fpCompare r.signalsQuiet r.fmt s.fpEnv (s.fpOperand r.fmt rs1) (s.fpOperand r.fmt rs2)).fcc) s) := by
  obtain ⟨hready, hpresent, haligned⟩ := ha
  rw [exec_fpCompareRow h, fpCmp, State.fpopReady_ready hready]
  exact congrArg Host.Outcome.next (fpopBody_accepted hpresent haligned hu)

variable {i : Instr} {x : BitVec 5}

/-- With nothing raised enabled an FPop with a result writes it and the FSR (R553 step 7). -/
theorem completes_setFp {dst : Fmt} {rd : RegNum} {v : Nat} (hx : exec i s = .next (fpComplete x (fun t => t.setFp dst rd v) s))
    (h : x &&& s.fsr.tem = 0#5) :
    Completes i s fun t =>
      t = { s with f := t.f, fsr := completedFsr s.fsr x, pc := s.npc, npc := s.npc + 4#32 } ∧
      t.fpOperand dst rd = v % 2 ^ dst.width ∧ ∀ n, ¬ dst.holds rd n → t.freg n = s.freg n := by
  obtain ⟨hresult, hothers, hframe⟩ := (s.completeFsr x).setFp_spec dst rd v
  refine ⟨_, hx.trans (congrArg _ (fpComplete_untrapped h)), ?_, hresult, hothers⟩
  rw [hframe]
  rfl

/-- With something raised enabled, where traps are not deferred, any of these takes fp_exception, the highest such bit alone in cexc
(R103, R553 steps 7 and 8). -/
theorem exec_fpComplete_trapped {w : State → State} (hx : exec i s = .next (fpComplete x w s)) (h : x &&& s.fsr.tem ≠ 0#5)
    (hp : s.cfg.fpTrapsDeferred = false) :
    exec i s = .next (raise .fpException { s with fsr := { s.fsr with cexc := highestBit (x &&& s.fsr.tem), ftt := 1#3 } }) := by
  rw [hx, fpComplete_trapped h]
  exact congrArg Host.Outcome.next (fpTrap_precise (s := s.setCexc (highestBit (x &&& s.fsr.tem))) hp fttIeee)

/-- Which bit that is (R103). -/
theorem exists_trapped_bit {w : State → State} (hx : exec i s = .next (fpComplete x w s)) (h : x &&& s.fsr.tem ≠ 0#5)
    (hp : s.cfg.fpTrapsDeferred = false) :
    ∃ c : BitVec 5, c ∈ [0x10#5, 0x08#5, 0x04#5, 0x02#5, 0x01#5] ∧ c &&& (x &&& s.fsr.tem) = c ∧
      (∀ y : BitVec 5, y &&& (x &&& s.fsr.tem) = y → y.toNat < 2 * c.toNat) ∧
      exec i s = .next (raise .fpException { s with fsr := { s.fsr with cexc := c, ftt := 1#3 } }) := by
  obtain ⟨hone, hraised, hhighest⟩ := highestBit_spec _ h
  exact ⟨_, hone, hraised, hhighest, exec_fpComplete_trapped hx h hp⟩

end

/-! What a compare raises. -/

/-- Only a NaN is a signaling one (R86). -/
theorem isSignaling_of_not_nan {t : Fmt} {v : FpValue} (h : v.isNan = false) : isSignaling t v = false := by
  cases v with
  | nan => cases h
  | inf | zero | num => rfl

/-- A compare is invalid for a signaling NaN and, in the E forms, for any (R592, R595, R606). -/
def compareInvalid (signalsQuiet : Bool) (t : Fmt) (v1 v2 : FpValue) : Bool :=
  isSignaling t v1 || isSignaling t v2 || signalsQuiet && (v1.isNan || v2.isNan)

theorem compareInvalid_iff (e : Bool) (t : Fmt) (v1 v2 : FpValue) :
    compareInvalid e t v1 v2 = true ↔
      isSignaling t v1 = true ∨ isSignaling t v2 = true ∨ e = true ∧ (v1.isNan = true ∨ v2.isNan = true) := by
  simp [compareInvalid, or_assoc]

/-- Beside that, a compare raises at most the inexact of a flushed operand (R612). -/
theorem fpCompare_texc (e : Bool) (t : Fmt) (env : FpEnv) (a b : Nat) :
    (fpCompare e t env a b).texc =
      Texc.withFlush { nv := compareInvalid e t (unpack t a) (unpack t b) }
        (env.ns && (isSubnormal t (unpack t a) || isSubnormal t (unpack t b))) := by
  unfold fpCompare compareInvalid
  dsimp only
  cases hn : (unpack t a).isNan || (unpack t b).isNan with
  | true =>
    rw [if_pos rfl, Bool.and_true]
    ac_rfl
  | false =>
    obtain ⟨ha, hb⟩ := Bool.or_eq_false_iff.mp hn
    rw [if_neg (by decide), isSignaling_of_not_nan ha, isSignaling_of_not_nan hb, Bool.and_false]
    rfl

/-- Of the exceptions of a compare that are enabled, the highest is invalid where it is raised, and otherwise inexact (R103, R612). -/
theorem highestBit_compare : ∀ (nv flushed : Bool) (tem : BitVec 5), (({ nv := nv } : Texc).withFlush flushed).bits &&& tem ≠ 0#5 →
    highestBit ((({ nv := nv } : Texc).withFlush flushed).bits &&& tem) = if nv then 0x10#5 else 0x01#5 := by decide

theorem Texc.withFlush_nv (nv flushed : Bool) : (({ nv := nv } : Texc).withFlush flushed).nv = nv := by
  cases nv <;> cases flushed <;> rfl

/-- fcc is 3 exactly for a NaN (R592). -/
theorem fpCompare_unordered_iff (e : Bool) (t : Fmt) (env : FpEnv) (a b : Nat) :
    (fpCompare e t env a b).fcc = 3#2 ↔ (unpack t a).isNan = true ∨ (unpack t b).isNan = true := by
  rw [← Bool.or_eq_true]
  unfold fpCompare
  dsimp only
  split
  · next h => exact iff_of_true rfl h
  · next h =>
    refine iff_of_false ?_ h
    dsimp only
    split <;> decide

end Sys2Proof.Machine

open Sys2Proof Sys2Proof.Machine

/-- Settles O46: each of the three is the one move, with its own function of the word. -/
theorem floatingPointMoves : Obligations.FloatingPointMoves := by
  unfold Obligations.FloatingPointMoves
  intro s rd rs2 done x
  refine ⟨fun h => completes_fpMove rfl h, fun h => ?_, fun h => ?_⟩
  · rw [← xor_signBit]
    exact completes_fpMove (f := fun w => w ^^^ 0x80000000#32) rfl h
  · rw [← and_notSignBit]
    exact completes_fpMove (f := fun w => w &&& 0x7FFFFFFF#32) rfl h

/-- Settles O47: a row accepted and finished comes to the end of an FPop, which completes or traps. -/
theorem floatingPointOperations : Obligations.FloatingPointOperations := by
  unfold Obligations.FloatingPointOperations
  refine ⟨fun r hr s rd rs2 ha hu => ?_, fun r hr s rd rs1 rs2 ha hu => ?_⟩
  · have hx := exec_fpUnaryRow_accepted hr ha hu
    exact ⟨completes_setFp hx, exists_trapped_bit hx⟩
  · have hx := exec_fpBinaryRow_accepted hr ha hu
    exact ⟨completes_setFp hx, exists_trapped_bit hx⟩

/-- Settles O48: so does a compare, whose exceptions are invalid alone or the inexact of a flushed operand alone. -/
theorem floatingPointCompares : Obligations.FloatingPointCompares := by
  unfold Obligations.FloatingPointCompares
  intro r hr s rs1 rs2
  dsimp only
  intro ha hu
  have hx := exec_fpCompareRow_accepted hr ha hu
  have htexc := fpCompare_texc r.signalsQuiet r.fmt s.fpEnv (s.fpOperand r.fmt rs1) (s.fpOperand r.fmt rs2)
  refine ⟨fun h => ?_, fun h hp => ⟨?_, fun hnv => ?_⟩, fpCompare_unordered_iff .., ?_⟩
  · rw [hx, fpComplete_untrapped h]
    rfl
  · rw [exec_fpComplete_trapped hx h hp, htexc, Texc.withFlush_nv]
    rw [htexc] at h
    rw [highestBit_compare _ _ _ h]
  · rw [htexc, Texc.withFlush_nv] at hnv
    by_contra hns
    rw [Bool.not_eq_true] at hns
    have hnothing : ({ nv := false } : Texc).bits = 0#5 := rfl
    rw [htexc, hnv, hns, Bool.false_and, Texc.withFlush_false, hnothing, BitVec.zero_and] at h
    exact h rfl
  · rw [htexc, Texc.withFlush_nv]
    exact compareInvalid_iff ..
end

section
/-! Units disabled or absent (spec/60_exceptions.md R684, R685): the check that comes before every other of a floating-point or
coprocessor instruction. -/

namespace Sys2Proof.Machine

/-- An FPU disabled or absent is not enabled (R684). -/
theorem State.fpEnabled_eq_false {s : State} (h : s.psr.ef = false ∨ s.cfg.hasFpu = false) : s.fpEnabled = false :=
  Bool.and_eq_false_iff.mpr h

/-- A coprocessor disabled or absent is not enabled (R685). -/
theorem State.cpEnabled_eq_false {s : State} (h : s.psr.ec = false ∨ s.cfg.hasCp = false) : s.cpEnabled = false :=
  Bool.and_eq_false_iff.mpr h

section
variable {s : State} (hd : s.fpEnabled = false)
include hd

/-- No floating-point load begins (R323). -/
theorem fpLoad_disabled (size : AccessSize) (bad : Bool) (a : Word) (k) : fpLoad size bad a k s = raise .fpDisabled s :=
  if_neg (Bool.eq_false_iff.mp hd)

/-- No floating-point store begins (R325). -/
theorem fpStore_disabled (size : AccessSize) (bad : Bool) (a : Word) (k) : fpStore size bad a k s = raise .fpDisabled s :=
  if_neg (Bool.eq_false_iff.mp hd)

/-- No FPop begins (R553). -/
theorem State.fpopReady_disabled (k) : s.fpopReady k = raise .fpDisabled s :=
  if_neg (Bool.eq_false_iff.mp hd)

/-- No FBfcc branches (R477). -/
theorem branchFcc_disabled (c : BitVec 4) (a : Bool) (disp22 : BitVec 22) : branchFcc c a disp22 s = raise .fpDisabled s :=
  if_neg (Bool.eq_false_iff.mp hd)

/-- Every FPop traps, assigned or not (R684). -/
theorem IsFpop.traps_fpDisabled {i : Instr} (h : IsFpop i) : Traps i s .fpDisabled := by
  obtain ⟨k, hx⟩ := h.exec_eq s
  exact hx.trans (congrArg Host.Outcome.next (State.fpopReady_disabled hd k))

/-- Every FBfcc traps (R684). -/
theorem fccRow_traps_fpDisabled {r : CcRow} (hr : r ∈ fccRows) (a : Bool) (disp22 : BitVec 22) :
    Traps (r.branch a disp22) s .fpDisabled := by
  obtain ⟨c, hx⟩ := exec_fccRow hr a disp22 s
  exact hx.trans (congrArg Host.Outcome.next (branchFcc_disabled hd c a disp22))

end

section
variable {s : State} (hd : s.cpEnabled = false)
include hd

/-- No coprocessor load begins (R323). -/
theorem cpLoad_disabled (size : AccessSize) (a : Word) (k) : cpLoad size a k s = raise .cpDisabled s :=
  if_neg (Bool.eq_false_iff.mp hd)

/-- No coprocessor store begins (R325). -/
theorem cpStore_disabled (size : AccessSize) (a : Word) (k) : cpStore size a k s = raise .cpDisabled s :=
  if_neg (Bool.eq_false_iff.mp hd)

/-- No CPop begins (R634). -/
theorem cpOp_disabled (which : Nat) (name : String) (rd rs1 : RegNum) (opc : BitVec 9) (rs2 : RegNum) :
    cpOp which name rd rs1 opc rs2 s = raise .cpDisabled s :=
  if_neg (Bool.eq_false_iff.mp hd)

/-- No CBccc branches (R479). -/
theorem branchCp_disabled (c : BitVec 4) (a : Bool) (disp22 : BitVec 22) : branchCp c a disp22 s = raise .cpDisabled s :=
  if_neg (Bool.eq_false_iff.mp hd)

/-- Every CBccc traps (R685). -/
theorem cccRow_traps_cpDisabled {r : CcRow} (hr : r ∈ cccRows) (a : Bool) (disp22 : BitVec 22) :
    Traps (r.branch a disp22) s .cpDisabled := by
  obtain ⟨c, hc⟩ := cccRows_hasCond r hr
  exact (hc.branch a disp22 s).trans (congrArg Host.Outcome.next (branchCp_disabled hd c a disp22))

end

end Sys2Proof.Machine

open Sys2Proof Sys2Proof.Machine

/-- Settles O19: every form's own check comes first, but for the privilege of the two queue stores. -/
theorem disabledUnitsTrap : Obligations.DisabledUnitsTrap := by
  unfold Obligations.DisabledUnitsTrap
  refine ⟨fun s h => ?_, fun s h => ?_⟩
  · have hd := State.fpEnabled_eq_false h
    have hload (size bad a k) : (.next (fpLoad size bad a k s) : Answer) = .next (raise .fpDisabled s) :=
      congrArg _ (fpLoad_disabled hd size bad a k)
    have hstore (size bad a k) : (.next (fpStore size bad a k s) : Answer) = .next (raise .fpDisabled s) :=
      congrArg _ (fpStore_disabled hd size bad a k)
    refine ⟨fun rd rs1 op2 => ⟨hload .., hload .., hload .., hstore .., hstore .., hstore .., fun hs => ?_⟩,
      fun r hr a d => fccRow_traps_fpDisabled hd hr a d,
      fun r hr rd rs2 => (IsFpop.unary r hr rd rs2).traps_fpDisabled hd,
      fun r hr rd rs1 rs2 => (IsFpop.binary r hr rd rs1 rs2).traps_fpDisabled hd,
      fun r hr rs1 rs2 => (IsFpop.compare r hr rs1 rs2).traps_fpDisabled hd,
      fun rd rs1 opf rs2 => ⟨(IsFpop.fmovs rd rs2).traps_fpDisabled hd, (IsFpop.fnegs rd rs2).traps_fpDisabled hd,
        (IsFpop.fabss rd rs2).traps_fpDisabled hd, (IsFpop.unassigned1 rd rs1 opf rs2).traps_fpDisabled hd,
        (IsFpop.unassigned2 rd rs1 opf rs2).traps_fpDisabled hd⟩⟩
    exact congrArg Host.Outcome.next ((if_pos hs).trans (fpStore_disabled hd ..))
  · have hd := State.cpEnabled_eq_false h
    have hload (size a k) : (.next (cpLoad size a k s) : Answer) = .next (raise .cpDisabled s) :=
      congrArg _ (cpLoad_disabled hd size a k)
    have hstore (size a k) : (.next (cpStore size a k s) : Answer) = .next (raise .cpDisabled s) :=
      congrArg _ (cpStore_disabled hd size a k)
    refine ⟨fun rd rs1 op2 => ⟨hload .., hload .., hload .., hstore .., hstore .., hstore .., fun hs => ?_⟩,
      fun r hr a d => cccRow_traps_cpDisabled hd hr a d,
      fun rd rs1 opc rs2 => ⟨congrArg Host.Outcome.next (cpOp_disabled hd ..), congrArg Host.Outcome.next (cpOp_disabled hd ..)⟩⟩
    exact congrArg Host.Outcome.next ((if_pos hs).trans (cpStore_disabled hd ..))
end

section
/-! Coprocessor operations (spec/46_coprocessor.md R631, R632, R634): what a CPop of a ready coprocessor does, and what every
coprocessor instruction does while an exception is outstanding. -/

namespace Sys2Proof.Machine

/-- The coprocessor's exception where it is precise (R634). -/
theorem cpTrap_precise {s : State} (h : s.cfg.cpTrapsDeferred = false) : cpTrap s = raise .cpException s :=
  if_neg (Bool.eq_false_iff.mp h)

/-- And where it is deferred (R634). -/
theorem cpTrap_deferred {s : State} (h : s.cfg.cpTrapsDeferred = true) :
    cpTrap s = { s with cp := { s.cp with exceptionPending := true } }.advance :=
  if_pos h

/-- The instruction `i`, a CPop whose operation leaves the coprocessor in `after` and says whether that is an exception, at `s`. -/
structure CpopEnds (s : State) (i : Instr) (after : CpState) (exception : Bool) : Prop where
  lacking : s.cfg.unimplSet.contains i.mnemonic = true → exec i s = .next (cpTrap s)
  operated : s.cfg.unimplSet.contains i.mnemonic = false →
    exec i s = .next (if s.cfg.cpExceptionsPossible && exception then cpTrap (s.setCp after) else (s.setCp after).advance)

/-- What a CPop of a ready coprocessor does (R631, R632). -/
theorem cpopEnds {s : State} (hc : s.cpAccepts) {i : Instr} {which : Nat} {rd rs1 rs2 : RegNum} {opc : BitVec 9}
    (hx : exec i s = .next (cpOp which i.mnemonic rd rs1 opc rs2 s)) :
    CpopEnds s i (cpOperated which s.cp.state (Config.cpOperate which rd rs1 opc rs2 s.cp.state).1)
      (Config.cpOperate which rd rs1 opc rs2 s.cp.state).2 := by
  have hready : exec i s = _ := hx.trans (congrArg Host.Outcome.next ((if_pos hc.1).trans (State.cpReady_ready hc _)))
  exact ⟨fun h => hready.trans (congrArg Host.Outcome.next (if_pos h)),
    fun h => hready.trans (congrArg Host.Outcome.next (if_neg (Bool.eq_false_iff.mp h)))⟩

section
variable {s : State} {i : Instr} {after : CpState} {exception : Bool} (h : CpopEnds s i after exception)
include h

/-- Where the coprocessor has no exceptions, the operation completes (R633). -/
theorem CpopEnds.impossible (hu : s.cfg.unimplSet.contains i.mnemonic = false) (hp : s.cfg.cpExceptionsPossible = false) :
    exec i s = .next { s with cp := { s.cp with state := after }, pc := s.npc, npc := s.npc + 4#32 } := by
  rw [h.operated hu, hp]
  rfl

/-- Where it has, the operation's own report decides (R634). -/
theorem CpopEnds.possible (hu : s.cfg.unimplSet.contains i.mnemonic = false) (hp : s.cfg.cpExceptionsPossible = true) :
    exec i s =
      .next (if exception = false then { s with cp := { s.cp with state := after }, pc := s.npc, npc := s.npc + 4#32 }
        else if s.cfg.cpTrapsDeferred then
          { s with cp := { state := after, exceptionPending := true }, pc := s.npc, npc := s.npc + 4#32 }
        else raise .cpException { s with cp := { s.cp with state := after } }) := by
  rw [h.operated hu, hp]
  cases exception with
  | false => rfl
  | true => rfl

/-- An operation the coprocessor lacks is a cp_exception, at once (R634). -/
theorem CpopEnds.lacking_precise (hu : s.cfg.unimplSet.contains i.mnemonic = true) (hd : s.cfg.cpTrapsDeferred = false) :
    Traps i s .cpException :=
  (h.lacking hu).trans (congrArg Host.Outcome.next (cpTrap_precise hd))

/-- Or deferred (R634). -/
theorem CpopEnds.lacking_deferred (hu : s.cfg.unimplSet.contains i.mnemonic = true) (hd : s.cfg.cpTrapsDeferred = true) :
    exec i s = .next { s with cp := { s.cp with exceptionPending := true }, pc := s.npc, npc := s.npc + 4#32 } :=
  (h.lacking hu).trans (congrArg Host.Outcome.next (cpTrap_deferred hd))

end

section
variable {s : State} (hen : s.cpEnabled = true) (hp : s.cp.exceptionPending = true) (het : s.psr.et = true)

section
include hp het

/-- With ET = 1 an outstanding exception is taken, and is outstanding no more (R634). -/
theorem State.cpReady_pending (k) :
    s.cpReady k = raise .cpException { s with cp := { s.cp with exceptionPending := false } } := by
  unfold State.cpReady
  rw [if_pos hp, hp, het]
  rfl

end

include hen hp het

/-- A CPop takes it (R634). -/
theorem cpOp_pending (which : Nat) (name : String) (rd rs1 : RegNum) (opc : BitVec 9) (rs2 : RegNum) :
    cpOp which name rd rs1 opc rs2 s = raise .cpException { s with cp := { s.cp with exceptionPending := false } } :=
  (if_pos hen).trans (State.cpReady_pending hp het _)

/-- A CBccc takes it (R479, R634). -/
theorem branchCp_pending (c : BitVec 4) (a : Bool) (disp22 : BitVec 22) :
    branchCp c a disp22 s = raise .cpException { s with cp := { s.cp with exceptionPending := false } } :=
  (if_pos hen).trans (State.cpReady_pending hp het _)

/-- An aligned load takes it (R323, R634). -/
theorem cpLoad_pending {size : AccessSize} {a : Word} (ha : size.aligned a = true) (k) :
    cpLoad size a k s = raise .cpException { s with cp := { s.cp with exceptionPending := false } } :=
  (if_pos hen).trans ((State.ifAligned_aligned ha).trans (State.cpReady_pending hp het _))

/-- An aligned store takes it (R325, R634). -/
theorem cpStore_pending {size : AccessSize} {a : Word} (ha : size.aligned a = true) (k) :
    cpStore size a k s = raise .cpException { s with cp := { s.cp with exceptionPending := false } } :=
  (if_pos hen).trans ((State.ifAligned_aligned ha).trans (State.cpReady_pending hp het _))

end

end Sys2Proof.Machine

open Sys2Proof Sys2Proof.Machine

/-- Settles O55: a CPop of a ready coprocessor ends as its operation says, and an outstanding exception comes before every coprocessor
instruction. -/
theorem coprocessorOperations : Obligations.CoprocessorOperations := by
  unfold Obligations.CoprocessorOperations
  refine ⟨fun s rd rs1 rs2 opc hc => ?_, fun s hen hp het => ?_⟩
  · have h1 := cpopEnds hc (i := .cpop1 rd rs1 opc rs2) rfl
    have h2 := cpopEnds hc (i := .cpop2 rd rs1 opc rs2) rfl
    exact ⟨⟨h1.impossible, h1.possible, h1.lacking_precise, h1.lacking_deferred⟩,
      ⟨h2.impossible, h2.possible, h2.lacking_precise, h2.lacking_deferred⟩⟩
  · refine ⟨fun rd rs1 opc rs2 => ⟨congrArg Host.Outcome.next (cpOp_pending hen hp het ..),
        congrArg Host.Outcome.next (cpOp_pending hen hp het ..)⟩, fun r hr a d => ?_, fun rd rs1 op2 => ⟨fun ha => ?_, fun ha => ?_⟩⟩
    · obtain ⟨c, hc⟩ := cccRows_hasCond r hr
      exact (hc.branch a d s).trans (congrArg Host.Outcome.next (branchCp_pending hen hp het c a d))
    · have ha := (AccessSize.aligned_word_iff _).mpr ha
      exact ⟨congrArg Host.Outcome.next (cpLoad_pending hen hp het ha _), congrArg Host.Outcome.next (cpLoad_pending hen hp het ha _),
        congrArg Host.Outcome.next (cpStore_pending hen hp het ha _), congrArg Host.Outcome.next (cpStore_pending hen hp het ha _)⟩
    · have ha := (AccessSize.aligned_double_iff _).mpr ha
      exact ⟨congrArg Host.Outcome.next (cpLoad_pending hen hp het ha _), congrArg Host.Outcome.next (cpStore_pending hen hp het ha _),
        fun hs => congrArg Host.Outcome.next ((if_pos hs).trans (cpStore_pending hen hp het ha _))⟩
end
